-- ==== Sys2Proof/Word.lean ====
section
/-! DEFINITION. Bytes, little-endian numbers and the fixed-width sets of the links (spec/11_the_message_link.md R178). -/

namespace Sys2Proof

/-- One byte of a link. -/
abbrev Byte := BitVec 8

/-- The number of a byte. -/
abbrev byteOf (n : Nat) : Byte := BitVec.ofNat 8 n

/-- A set of numbers 0 to w - 1 as R178 sends it: one bit for each member, the lowest number in the lowest bit. -/
abbrev NumSet (w : Nat) := BitVec w

/-- Whether number `i` is a member. -/
def NumSet.has {w : Nat} (x : NumSet w) (i : Nat) : Bool := x.getLsbD i

/-- The set with number `i` joined. -/
def NumSet.join {w : Nat} (x : NumSet w) (i : Nat) : NumSet w := x ||| BitVec.twoPow w i

/-- The set without number `i`. -/
def NumSet.leave {w : Nat} (x : NumSet w) (i : Nat) : NumSet w := x &&& ~~~ BitVec.twoPow w i

/-- The members in ascending order. -/
def NumSet.members {w : Nat} (x : NumSet w) : List Nat := (List.range w).filter x.has

/-- Little-endian bytes of a number, low byte first, `k` bytes (00 0.7.4). -/
def leBytes : Nat → Nat → List Byte
  | 0, _ => []
  | k + 1, n => byteOf n :: leBytes k (n / 256)

/-- The number that little-endian bytes spell. -/
def leNat : List Byte → Nat
  | [] => 0
  | b :: bs => b.toNat + 256 * leNat bs

end Sys2Proof
end

