-- ==== Sys2Proof/Config.lean ====
section
/-! DEFINITION. What the manual fixes once for the device, and the one value it leaves open. -/

namespace Sys2Proof.Config

/-- Length of the start-up clear, ms (10 R167). -/
def startUpClear : Nat := 250

/-- Slots of the board table (01 R2). -/
def slots : Nat := 32

/-- Entries of the history list (01 R20). -/
def historyLimit : Nat := 64

/-- Boards of one lane queue (01 R8, R12). -/
def laneQueueLimit : Nat := 4

/-- Entries of the keep-out table (04 4). -/
def keepOutEntries : Nat := 1024

/-- Records of one stroke buffer (05 R83). -/
def strokeRecords : Nat := 512

/-- Open runs a stroke may have (05 R91). -/
def runLimit : Nat := 16

/-- Added to prime_ms and purge_ms for the deadline (03 R40). -/
def primeMargin : Nat := 5000

/-- Purge time of a dry purge, ms (03 R40). -/
def dryPurgeTime : Nat := 5000

/-- Deadline of a dry purge, ms (03 R40). -/
def dryPurgeDeadline : Nat := 10000

/-- Deadline of a spit, ms (03 R40). -/
def spitDeadline : Nat := 3000

/-- Deadline of a cap or an uncap, ms (03 R40). -/
def capDeadline : Nat := 5000

/-- The largest spit debt (03 R50). -/
def debtLimit : Nat := 4

/-- Deadline of a shuttle operation, ms (07 7.4). -/
def shuttleDeadline : Nat := 20000

/-- Boards the oven holds (07 R128). -/
def ovenLimit : Nat := 12

/-- Entries of the entry start list (07 R129). -/
def entryListLimit : Nat := 8

/-- Age at which an entry of the entry start list is dropped, ms (07 R129). -/
def entryDropAge : Nat := 600000

/-- Time without a valid sample after which a zone is STALE, ms (08 R136). -/
def staleTime : Nat := 3000

/-- Longest time one credit counts, ms (08 R140). -/
def creditLimit : Nat := 2000

/-- Highest temperature, 0.1 °C (08 R137). -/
def tempLimit : Nat := 3000

/-- Largest dose of an accumulator, cure-ms (08 R142). -/
def doseLimit : Nat := 16777215

/-- Stored findings of a board (06 R113). -/
def findingLimit : Nat := 16

/-- Outstanding requests, and INTAKE_FULL replies waiting (11 R175). -/
def intakeLimit : Nat := 8

/-- Longest payload (11 R174). -/
def payloadLimit : Nat := 1024

/-- Silence that ends an unfinished frame, ms (11 R174). -/
def frameSilence : Nat := 20

/-- FREE VALUE (log 14). The deadline that LANE_STATUS and APPLICATOR_STATUS show for a head operation whose command
has not been sent to its last byte: its deadline has not begun (11 R179) and no rule says what is shown. The arguments
are the operation's op id and the clock. -/
opaque unstartedDeadline : Nat → Nat → BitVec 32

end Sys2Proof.Config
end

