-- ==== Sys2Proof/Syntax.lean ====
section
/-! DEFINITION. The commands: one constructor of `Instr` for each row of spec/opcode_table.json.

A request's command carries the tag of its frame and its fields as raw numbers, in the order R178 sends them, so that
a value outside its range can be sent and is refused by the owning block. An event's command carries what the event
names. -/

namespace Sys2Proof

/-- A link whose receiver takes frames (11 R174). -/
inductive Link where
  | message
  | head (lane : Fin 2)
  | ovenNode
  deriving DecidableEq, Repr

/-- One material slot of a CLASS_WRITE (02 R25). -/
structure SlotFields where
  material : Nat
  required : Nat
  maximum : Nat
  deriving DecidableEq, Repr

/-- The writable fields of a class record as CLASS_WRITE carries them (02 R27). -/
structure ClassFields where
  valid : Nat
  count : Nat
  slot1 : Option SlotFields
  slot2 : Option SlotFields
  sites : NumSet 16
  dflt : Nat
  gateLimit : Nat
  flowCap : Nat
  passLimit : Nat
  maskWait : Nat
  timeout : Nat
  inspect : Nat
  deriving DecidableEq, Repr

/-- The fields of a material record as MATERIAL_WRITE carries them (02 R30, R32). -/
structure MaterialFields where
  valid : Nat
  primeMs : Nat
  purgeMs : Nat
  keepWetS : Nat
  capMaxMin : Nat
  flashMinS : Nat
  openMaxS : Nat
  maxTemp : Nat
  /-- (T, r) of each point of the rate table -/
  points : List (Nat × Nat)
  deriving DecidableEq, Repr

/-- The written fields of a keep-out entry (04 R62). -/
structure EntryFields where
  enabled : Nat
  clsValue : Nat
  clsCare : Nat
  side : Nat
  xValue : Nat
  xCare : Nat
  yValue : Nat
  yCare : Nat
  disposition : Nat
  site : Nat
  material : Nat
  deriving DecidableEq, Repr

/-- The fields of a stroke record as STROKE_LOAD carries them (05 R83). -/
structure StrokeFields where
  applicator : Nat
  material : Nat
  axis : Nat
  fixed : Nat
  start : Nat
  stop : Nat
  swath : Nat
  flow : Nat
  lastUse : Nat
  deriving DecidableEq, Repr

/-- The fields of a criterion as CRITERION_WRITE carries them (06 R114). -/
structure CriterionFields where
  cls : Nat
  kind : Nat
  side : Nat
  keepOutOnly : Nat
  threshold : Nat
  reason : Nat
  deriving DecidableEq, Repr

/-- The fields of a routing entry as ROUTE_WRITE carries them (09 R152). -/
structure RouteFields where
  priority : Nat
  action : Nat
  masked : Nat
  clearOnRelease : Nat
  deriving DecidableEq, Repr

/-- The group of a LINE_SET and its values (10 R172). -/
inductive SettingsFields where
  | application (limit length entryLimit entryLength : Nat)
  | oven (end1 end2 end3 end4 grace : Nat)
  /-- a group code that is neither of the two -/
  | other (group : Nat)
  deriving DecidableEq, Repr

/-- One command for each row of the table of operations and events. -/
inductive Instr where
  -- line control (chapter 10)
  | powerOn (estop : Bool)
  | startUpEnd
  | estopChange (active : Bool)
  -- message link (chapter 11)
  | requestFrame (bytes : List Byte)
  | frameTimeout (link : Link)
  | replySend
  | replySent
  | noticeSend
  -- line control requests (chapter 10)
  | lineStatus (t : Byte)
  | lineSet (t : Byte) (f : SettingsFields)
  | mode (t : Byte) (target : Nat)
  | halt (t : Byte)
  | recover (t : Byte)
  | lineReset (t : Byte)
  -- recipe store (chapter 2)
  | classWrite (t : Byte) (cls : Nat) (f : ClassFields)
  | classRead (t : Byte) (cls : Nat)
  | materialWrite (t : Byte) (mat : Nat) (f : MaterialFields)
  | materialRead (t : Byte) (mat : Nat)
  -- keep-out table (chapter 4)
  | ruleWrite (t : Byte) (index : Nat) (e : EntryFields)
  | ruleRead (t : Byte) (index clear : Nat)
  | ruleFill (t : Byte) (first last : Nat) (e : EntryFields)
  | ruleMove (t : Byte) (src dst count : Nat)
  | ruleProbe (t : Byte) (cls side x y : Nat)
  | editStep
  -- criteria and routing (chapters 6 and 9)
  | criterionWrite (t : Byte) (index : Nat) (f : CriterionFields)
  | criterionRead (t : Byte) (index : Nat)
  | routeWrite (t : Byte) (reason : Nat) (f : RouteFields)
  | routeRead (t : Byte) (reason : Nat)
  -- path engine requests (chapter 5)
  | strokeLoad (t : Byte) (lane first : Nat) (records : List StrokeFields)
  | strokeRead (t : Byte) (lane first count : Nat)
  | armLane (t : Byte) (lane cls first count chain auto : Nat)
  | disarm (t : Byte) (lane : Nat)
  | laneStatus (t : Byte) (lane clear : Nat)
  -- applicator requests (chapter 3)
  | prime (t : Byte) (app mat : Nat)
  | purge (t : Byte) (app : Nat)
  | park (t : Byte) (app : Nat)
  | unpark (t : Byte) (app : Nat)
  | applicatorStatus (t : Byte) (app : Nat)
  -- board requests (chapters 1, 6 and 9)
  | announce (t : Byte) (lane : Nat) (boardTag : List Byte) (cls side : Nat)
  | boardRead (t : Byte) (slot view : Nat)
  | boardList (t : Byte) (lane life : Nat)
  | retire (t : Byte) (slot : Nat)
  | historyRead (t : Byte) (start count : Nat)
  | maskReport (t : Byte) (slot site state : Nat)
  | finding (t : Byte) (slot kind side x y : Nat)
  | inspectDone (t : Byte) (slot : Nat)
  | hold (t : Byte) (slot : Nat)
  | holdTake (t : Byte)
  | holdRelease (t : Byte) (slot reason verdict : Nat)
  | holdStatus (t : Byte) (slot first : Nat)
  | ovenStatus (t : Byte)
  -- field events and expiries
  | laneArrive (lane : Fin 2)
  | laneClear (lane : Fin 2)
  | maskWaitExpiry (slot : Nat)
  | headDone (lane : Fin 2) (op : Byte)
  | headFault (lane : Fin 2) (op : Byte) (kind : Nat)
  | headDeadline (lane : Fin 2)
  | keepWetExpiry (app : Fin 6)
  | primeWindowAgeOut
  | flashReadyReached (slot : Nat)
  | openDeadlineExpiry (slot : Nat)
  | admitDeadline
  | divertDeadline
  | ovenEnter
  | divertPass
  | entryWindowExpiry
  | entryDrop
  | zoneSample (zone : Nat) (temp : BitVec 16) (fault : Bool)
  | zoneStale (zone : Fin 4)
  | zoneChange (slot : Nat)
  | overdueExpiry (slot : Nat)
  | ovenExit
  | noticeFrameSent
  | headCommandSent (lane : Fin 2) (op : Byte)
  | fieldLinkFrameDiscard (link : Link) (bytes : List Byte)
  deriving DecidableEq, Repr

end Sys2Proof
end

