-- ==== Sys2Proof/WellFormed.lean ====
section
/-! DEFINITION. Which commands a frame can spell: every field fits the place R178 gives it. Events need no check: their
operands are already in range, or out of range on purpose; only the link of FIELD_LINK_FRAME_DISCARD must be a field
link. -/

namespace Sys2Proof

/-- A number that fits one byte. -/
abbrev fits1 (n : Nat) : Bool := decide (n < 256)

/-- A number that fits two bytes. -/
abbrev fits2 (n : Nat) : Bool := decide (n < 65536)

/-- A number that fits four bytes. -/
abbrev fits4 (n : Nat) : Bool := decide (n < 4294967296)

/-- A slot's numbers fit 1, 2 and 2 bytes. -/
def SlotFields.wf (f : SlotFields) : Bool := fits1 f.material && fits2 f.required && fits2 f.maximum

/-- A class record's numbers fit their places. -/
def ClassFields.wf (f : ClassFields) : Bool :=
  fits1 f.valid && fits1 f.count && f.slot1.all SlotFields.wf && f.slot2.all SlotFields.wf && fits1 f.dflt &&
  fits2 f.gateLimit && fits1 f.flowCap && fits1 f.passLimit && fits2 f.maskWait && fits2 f.timeout && fits1 f.inspect

/-- A material record has eight points and its numbers fit their places. -/
def MaterialFields.wf (f : MaterialFields) : Bool :=
  fits1 f.valid && fits2 f.primeMs && fits2 f.purgeMs && fits2 f.keepWetS && fits2 f.capMaxMin && fits2 f.flashMinS &&
  fits2 f.openMaxS && fits2 f.maxTemp && f.points.length == 8 && f.points.all (fun p => fits2 p.1 && fits2 p.2)

/-- A keep-out entry's numbers fit their places. -/
def EntryFields.wf (e : EntryFields) : Bool :=
  fits1 e.enabled && fits1 e.clsValue && fits1 e.clsCare && fits1 e.side && fits2 e.xValue && fits2 e.xCare &&
  fits2 e.yValue && fits2 e.yCare && fits1 e.disposition && fits1 e.site && fits1 e.material

/-- A stroke record's numbers fit their places. -/
def StrokeFields.wf (f : StrokeFields) : Bool :=
  fits1 f.applicator && fits1 f.material && fits1 f.axis && fits2 f.fixed && fits2 f.start && fits2 f.stop &&
  fits1 f.swath && fits1 f.flow && fits1 f.lastUse

/-- A criterion's numbers fit one byte each. -/
def CriterionFields.wf (f : CriterionFields) : Bool :=
  fits1 f.cls && fits1 f.kind && fits1 f.side && fits1 f.keepOutOnly && fits1 f.threshold && fits1 f.reason

/-- A routing entry's numbers fit one byte each. -/
def RouteFields.wf (f : RouteFields) : Bool :=
  fits1 f.priority && fits1 f.action && fits1 f.masked && fits1 f.clearOnRelease

/-- A settings group's numbers fit their places, and a group code given as `other` is neither of the two. -/
def SettingsFields.wf : SettingsFields → Bool
  | .application l n el en => fits1 l && fits1 n && fits1 el && fits2 en
  | .oven a b c d g => fits2 a && fits2 b && fits2 c && fits2 d && fits2 g
  | .other g => fits1 g && decide (1 < g)

/-- A command is well formed when every field fits the place R178 gives it, and a field link's event names a field
link. -/
def Instr.wf : Instr → Bool
  | .powerOn _ => true
  | .startUpEnd => true
  | .estopChange _ => true
  | .requestFrame _ => true
  | .frameTimeout _ => true
  | .replySend => true
  | .replySent => true
  | .noticeSend => true
  | .lineStatus _ => true
  | .lineSet _ f => f.wf
  | .mode _ target => fits1 target
  | .halt _ => true
  | .recover _ => true
  | .lineReset _ => true
  | .classWrite _ c f => fits1 c && f.wf
  | .classRead _ c => fits1 c
  | .materialWrite _ m f => fits1 m && f.wf
  | .materialRead _ m => fits1 m
  | .ruleWrite _ i e => fits2 i && e.wf
  | .ruleRead _ i c => fits2 i && fits1 c
  | .ruleFill _ a b e => fits2 a && fits2 b && e.wf
  | .ruleMove _ a b n => fits2 a && fits2 b && fits2 n
  | .ruleProbe _ c d x y => fits1 c && fits1 d && fits2 x && fits2 y
  | .editStep => true
  | .criterionWrite _ i f => fits2 i && f.wf
  | .criterionRead _ i => fits2 i
  | .routeWrite _ r f => fits1 r && f.wf
  | .routeRead _ r => fits1 r
  | .strokeLoad _ l i rs => fits1 l && fits2 i && decide (rs.length ≤ 85) && rs.all StrokeFields.wf
  | .strokeRead _ l i n => fits1 l && fits2 i && fits1 n
  | .armLane _ l c i n m a => fits1 l && fits1 c && fits2 i && fits2 n && fits1 m && fits1 a
  | .disarm _ l => fits1 l
  | .laneStatus _ l c => fits1 l && fits1 c
  | .prime _ a m => fits1 a && fits1 m
  | .purge _ a => fits1 a
  | .park _ a => fits1 a
  | .unpark _ a => fits1 a
  | .applicatorStatus _ a => fits1 a
  | .announce _ l g c d => fits1 l && decide (g.length ≤ 24) && fits1 c && fits1 d
  | .boardRead _ b v => fits1 b && fits1 v
  | .boardList _ l f => fits1 l && fits1 f
  | .retire _ b => fits1 b
  | .historyRead _ n c => fits4 n && fits1 c
  | .maskReport _ b k v => fits1 b && fits1 k && fits1 v
  | .finding _ b k d x y => fits1 b && fits1 k && fits1 d && fits2 x && fits2 y
  | .inspectDone _ b => fits1 b
  | .hold _ b => fits1 b
  | .holdTake _ => true
  | .holdRelease _ b r v => fits1 b && fits1 r && fits1 v
  | .holdStatus _ b f => fits1 b && fits1 f
  | .ovenStatus _ => true
  | .laneArrive _ => true
  | .laneClear _ => true
  | .maskWaitExpiry _ => true
  | .headDone _ _ => true
  | .headFault _ _ _ => true
  | .headDeadline _ => true
  | .keepWetExpiry _ => true
  | .primeWindowAgeOut => true
  | .flashReadyReached _ => true
  | .openDeadlineExpiry _ => true
  | .admitDeadline => true
  | .divertDeadline => true
  | .ovenEnter => true
  | .divertPass => true
  | .entryWindowExpiry => true
  | .entryDrop => true
  | .zoneSample _ _ _ => true
  | .zoneStale _ => true
  | .zoneChange _ => true
  | .overdueExpiry _ => true
  | .ovenExit => true
  | .noticeFrameSent => true
  | .headCommandSent _ _ => true
  | .fieldLinkFrameDiscard k _ => decide (k ≠ .message)

end Sys2Proof
end

