-- ==== Sys2Proof/Decode.lean ====
section
/-! DEFINITION. Frames, their check and the receivers' hunting (11 R174); the request payloads read and written
(11 R178); the field link payloads read (11 R179); the table's words (spec/opcode_table.json gives no bits). -/

namespace Sys2Proof

/-! ## The frame check -/

/-- One bit of the CRC register's shift, polynomial 1021h, most significant bit first (11 R174). -/
def crcShift (c : BitVec 16) : BitVec 16 :=
  if c.msb then (c <<< 1) ^^^ 0x1021#16 else c <<< 1

/-- The CRC register after one more byte. -/
def crcByte (c : BitVec 16) (b : Byte) : BitVec 16 :=
  let c := c ^^^ ((b.setWidth 16) <<< 8)
  crcShift (crcShift (crcShift (crcShift (crcShift (crcShift (crcShift (crcShift c)))))))

/-- CRC-16 of bytes from the initial value FFFFh, no reflection, no final inversion (11 R174). -/
def crc16 (bs : List Byte) : BitVec 16 := bs.foldl crcByte 0xFFFF#16

/-! ## Frames -/

/-- A received frame: what stands between its start byte and its CRC (11 R174). -/
structure Frame where
  kind : Byte
  tag : Byte
  payload : List Byte
  deriving DecidableEq, Repr

/-- The start byte of every frame. -/
def startByte : Byte := 0xA5#8

/-- The bytes a frame's CRC covers: length, kind, tag and payload. -/
def Frame.covered (f : Frame) : List Byte :=
  leBytes 2 f.payload.length ++ [f.kind, f.tag] ++ f.payload

/-- A frame as it is sent (11 R174). -/
def Frame.bytes (f : Frame) : List Byte :=
  startByte :: f.covered ++ leBytes 2 (crc16 f.covered).toNat

/-- What a receiver finds at a start byte, given the bytes after it. -/
inductive Hunt where
  /-- the frame's last byte has not come -/
  | unfinished
  /-- a length above 1024 or a wrong CRC -/
  | bad
  /-- a received frame, and the bytes after it -/
  | good (f : Frame) (after : List Byte)
  deriving DecidableEq, Repr

/-- The checks of R174 on the bytes after a start byte, in the order they can be made. -/
def huntAt (rest : List Byte) : Hunt :=
  if rest.length < 2 then .unfinished else
  let n := leNat (rest.take 2)
  if Config.payloadLimit < n then .bad else
  if rest.length < n + 6 then .unfinished else
  let covered := rest.take (n + 4)
  if leNat ((rest.drop (n + 4)).take 2) = (crc16 covered).toNat then
    .good ⟨rest.getD 2 0, rest.getD 3 0, covered.drop 4⟩ (rest.drop (n + 6))
  else .bad

/-- The receiver's hunting (11 R174). It discards bytes before a start byte; a discarded frame sends it back to the byte
after that frame's start byte; a received frame is consumed whole (log 8). With `silent` set the bytes have stopped for
20 ms, so an unfinished frame is discarded too. The answer is the received frames in order and the bytes of the frame in
progress. The first argument bounds the bytes looked at. -/
def hunt (silent : Bool) : Nat → List Byte → List Frame × List Byte
  | 0, bs => ([], bs)
  | _ + 1, [] => ([], [])
  | k + 1, b :: rest =>
    if b = startByte then
      match huntAt rest with
      | .unfinished => if silent then hunt silent k rest else ([], b :: rest)
      | .bad => hunt silent k rest
      | .good f after => let r := hunt silent k after; (f :: r.1, r.2)
    else hunt silent k rest

/-- A receiver's work on the bytes it holds. -/
def receive (silent : Bool) (bs : List Byte) : List Frame × List Byte := hunt silent (bs.length + 1) bs

/-! ## Reading fields -/

/-- The number in `k` bytes at an offset of a payload; bytes past its end read 0. -/
def numAt (p : List Byte) (offset k : Nat) : Nat := leNat ((p.drop offset).take k)

/-- A tag field: one length byte, then 24 bytes of characters (11 R178). A length above 24 reads as a tag of that many
characters, which its owning block refuses. -/
def tagAt (p : List Byte) (offset : Nat) : List Byte :=
  let n := numAt p offset 1
  let chars := ((p.drop (offset + 1)).take 24)
  chars.take n ++ List.replicate (n - 24) 0#8

/-- A material slot of CLASS_WRITE: a presence byte, then material, required dose and max dose. Every presence byte but
00h is taken as present (DESIGN CHOICE, log 10). -/
def slotAt (p : List Byte) (offset : Nat) : Option SlotFields :=
  if numAt p offset 1 = 0 then none
  else some ⟨numAt p (offset + 1) 1, numAt p (offset + 2) 2, numAt p (offset + 4) 2⟩

/-- A keep-out entry, 15 bytes (11 R178). -/
def entryAt (p : List Byte) (o : Nat) : EntryFields where
  enabled := numAt p o 1
  clsValue := numAt p (o + 1) 1
  clsCare := numAt p (o + 2) 1
  side := numAt p (o + 3) 1
  xValue := numAt p (o + 4) 2
  xCare := numAt p (o + 6) 2
  yValue := numAt p (o + 8) 2
  yCare := numAt p (o + 10) 2
  disposition := numAt p (o + 12) 1
  site := numAt p (o + 13) 1
  material := numAt p (o + 14) 1

/-- A stroke record, 12 bytes (11 R178). -/
def strokeAt (p : List Byte) (o : Nat) : StrokeFields where
  applicator := numAt p o 1
  material := numAt p (o + 1) 1
  axis := numAt p (o + 2) 1
  fixed := numAt p (o + 3) 2
  start := numAt p (o + 5) 2
  stop := numAt p (o + 7) 2
  swath := numAt p (o + 9) 1
  flow := numAt p (o + 10) 1
  lastUse := numAt p (o + 11) 1

/-- The records of a STROKE_LOAD from an offset on. -/
def strokesAt (p : List Byte) : Nat → Nat → List StrokeFields
  | _, 0 => []
  | o, n + 1 => strokeAt p o :: strokesAt p (o + 12) n

/-- The eight points of a rate table. -/
def pointsAt (p : List Byte) : Nat → Nat → List (Nat × Nat)
  | _, 0 => []
  | o, n + 1 => (numAt p o 2, numAt p (o + 2) 2) :: pointsAt p (o + 4) n

/-- The class record of a CLASS_WRITE, after the class id (log 10). -/
def classAt (p : List Byte) (o : Nat) : ClassFields where
  valid := numAt p o 1
  count := numAt p (o + 1) 1
  slot1 := slotAt p (o + 2)
  slot2 := slotAt p (o + 8)
  sites := BitVec.ofNat 16 (numAt p (o + 14) 2)
  dflt := numAt p (o + 16) 1
  gateLimit := numAt p (o + 17) 2
  flowCap := numAt p (o + 19) 1
  passLimit := numAt p (o + 20) 1
  maskWait := numAt p (o + 21) 2
  timeout := numAt p (o + 23) 2
  inspect := numAt p (o + 25) 1

/-- The material record of a MATERIAL_WRITE, after the material id; a point count other than 8 reads as no points, which
R32 refuses (log 11). -/
def materialAt (p : List Byte) (o : Nat) : MaterialFields where
  valid := numAt p o 1
  primeMs := numAt p (o + 1) 2
  purgeMs := numAt p (o + 3) 2
  keepWetS := numAt p (o + 5) 2
  capMaxMin := numAt p (o + 7) 2
  flashMinS := numAt p (o + 9) 2
  openMaxS := numAt p (o + 11) 2
  maxTemp := numAt p (o + 13) 2
  points := if numAt p (o + 15) 1 = 8 then pointsAt p (o + 16) 8 else []

/-- The group and values of a LINE_SET, one length for both groups (log 9). -/
def settingsAt (p : List Byte) : SettingsFields :=
  match numAt p 0 1 with
  | 0 => .application (numAt p 1 1) (numAt p 2 1) (numAt p 3 1) (numAt p 4 2)
  | 1 => .oven (numAt p 1 2) (numAt p 3 2) (numAt p 5 2) (numAt p 7 2) (numAt p 9 2)
  | g => .other g

/-! ## The request catalogue (11 R178 and 11.5) -/

/-- The payload length of a request kind, or none for a kind that is not in the catalogue. Only STROKE_LOAD's length
depends on its payload (its record count field). -/
def payloadLength (kind : Nat) (p : List Byte) : Option Nat :=
  match kind with
  | 0x01 => some 0
  | 0x02 => some 11
  | 0x03 => some 1
  | 0x04 => some 0
  | 0x05 => some 0
  | 0x06 => some 0
  | 0x08 => some 27
  | 0x09 => some 1
  | 0x0A => some 49
  | 0x0B => some 1
  | 0x10 => some 17
  | 0x11 => some 3
  | 0x12 => some 19
  | 0x13 => some 6
  | 0x14 => some 6
  | 0x18 => some 8
  | 0x19 => some 2
  | 0x1A => some 5
  | 0x1B => some 1
  | 0x20 => some (4 + 12 * numAt p 3 1)
  | 0x21 => some 4
  | 0x22 => some 8
  | 0x23 => some 1
  | 0x24 => some 2
  | 0x28 => some 2
  | 0x29 => some 1
  | 0x2A => some 1
  | 0x2B => some 1
  | 0x2C => some 1
  | 0x30 => some 28
  | 0x31 => some 2
  | 0x32 => some 2
  | 0x33 => some 1
  | 0x34 => some 3
  | 0x35 => some 7
  | 0x36 => some 1
  | 0x37 => some 1
  | 0x38 => some 0
  | 0x39 => some 3
  | 0x3A => some 2
  | 0x3C => some 0
  | 0x3D => some 5
  | _ => none

/-- The request that a payload of the right length spells, field after field in the order its owning rule names them. -/
def readRequest (kind : Nat) (t : Byte) (p : List Byte) : Option Instr :=
  match kind with
  | 0x01 => some (.lineStatus t)
  | 0x02 => some (.lineSet t (settingsAt p))
  | 0x03 => some (.mode t (numAt p 0 1))
  | 0x04 => some (.halt t)
  | 0x05 => some (.recover t)
  | 0x06 => some (.lineReset t)
  | 0x08 => some (.classWrite t (numAt p 0 1) (classAt p 1))
  | 0x09 => some (.classRead t (numAt p 0 1))
  | 0x0A => some (.materialWrite t (numAt p 0 1) (materialAt p 1))
  | 0x0B => some (.materialRead t (numAt p 0 1))
  | 0x10 => some (.ruleWrite t (numAt p 0 2) (entryAt p 2))
  | 0x11 => some (.ruleRead t (numAt p 0 2) (numAt p 2 1))
  | 0x12 => some (.ruleFill t (numAt p 0 2) (numAt p 2 2) (entryAt p 4))
  | 0x13 => some (.ruleMove t (numAt p 0 2) (numAt p 2 2) (numAt p 4 2))
  | 0x14 => some (.ruleProbe t (numAt p 0 1) (numAt p 1 1) (numAt p 2 2) (numAt p 4 2))
  | 0x18 => some (.criterionWrite t (numAt p 0 2)
      ⟨numAt p 2 1, numAt p 3 1, numAt p 4 1, numAt p 5 1, numAt p 6 1, numAt p 7 1⟩)
  | 0x19 => some (.criterionRead t (numAt p 0 2))
  | 0x1A => some (.routeWrite t (numAt p 0 1) ⟨numAt p 1 1, numAt p 2 1, numAt p 3 1, numAt p 4 1⟩)
  | 0x1B => some (.routeRead t (numAt p 0 1))
  | 0x20 => some (.strokeLoad t (numAt p 0 1) (numAt p 1 2) (strokesAt p 4 (numAt p 3 1)))
  | 0x21 => some (.strokeRead t (numAt p 0 1) (numAt p 1 2) (numAt p 3 1))
  | 0x22 => some (.armLane t (numAt p 0 1) (numAt p 1 1) (numAt p 2 2) (numAt p 4 2) (numAt p 6 1) (numAt p 7 1))
  | 0x23 => some (.disarm t (numAt p 0 1))
  | 0x24 => some (.laneStatus t (numAt p 0 1) (numAt p 1 1))
  | 0x28 => some (.prime t (numAt p 0 1) (numAt p 1 1))
  | 0x29 => some (.purge t (numAt p 0 1))
  | 0x2A => some (.park t (numAt p 0 1))
  | 0x2B => some (.unpark t (numAt p 0 1))
  | 0x2C => some (.applicatorStatus t (numAt p 0 1))
  | 0x30 => some (.announce t (numAt p 0 1) (tagAt p 1) (numAt p 26 1) (numAt p 27 1))
  | 0x31 => some (.boardRead t (numAt p 0 1) (numAt p 1 1))
  | 0x32 => some (.boardList t (numAt p 0 1) (numAt p 1 1))
  | 0x33 => some (.retire t (numAt p 0 1))
  | 0x34 => some (.maskReport t (numAt p 0 1) (numAt p 1 1) (numAt p 2 1))
  | 0x35 => some (.finding t (numAt p 0 1) (numAt p 1 1) (numAt p 2 1) (numAt p 3 2) (numAt p 5 2))
  | 0x36 => some (.inspectDone t (numAt p 0 1))
  | 0x37 => some (.hold t (numAt p 0 1))
  | 0x38 => some (.holdTake t)
  | 0x39 => some (.holdRelease t (numAt p 0 1) (numAt p 1 1) (numAt p 2 1))
  | 0x3A => some (.holdStatus t (numAt p 0 1) (numAt p 1 1))
  | 0x3C => some (.ovenStatus t)
  | 0x3D => some (.historyRead t (numAt p 0 4) (numAt p 4 1))
  | _ => none

/-! ## Writing requests -/

/-- A tag field as it is sent: the bytes beyond the length are 00h (11 R178). -/
def tagBytes (g : List Byte) : List Byte :=
  byteOf g.length :: (g.take 24 ++ List.replicate (24 - g.length) 0#8)

/-- A material slot, presence byte first; an absent slot's value reads 0. -/
def slotBytes : Option SlotFields → List Byte
  | none => leBytes 6 0
  | some f => leBytes 1 1 ++ leBytes 1 f.material ++ leBytes 2 f.required ++ leBytes 2 f.maximum

/-- The 15 bytes of a keep-out entry. -/
def entryBytes (e : EntryFields) : List Byte :=
  leBytes 1 e.enabled ++ leBytes 1 e.clsValue ++ leBytes 1 e.clsCare ++ leBytes 1 e.side ++ leBytes 2 e.xValue ++
  leBytes 2 e.xCare ++ leBytes 2 e.yValue ++ leBytes 2 e.yCare ++ leBytes 1 e.disposition ++ leBytes 1 e.site ++
  leBytes 1 e.material

/-- The 12 bytes of a stroke record. -/
def strokeBytes (f : StrokeFields) : List Byte :=
  leBytes 1 f.applicator ++ leBytes 1 f.material ++ leBytes 1 f.axis ++ leBytes 2 f.fixed ++ leBytes 2 f.start ++
  leBytes 2 f.stop ++ leBytes 1 f.swath ++ leBytes 1 f.flow ++ leBytes 1 f.lastUse

/-- The class record of a CLASS_WRITE. -/
def classBytes (f : ClassFields) : List Byte :=
  leBytes 1 f.valid ++ leBytes 1 f.count ++ slotBytes f.slot1 ++ slotBytes f.slot2 ++ leBytes 2 f.sites.toNat ++
  leBytes 1 f.dflt ++ leBytes 2 f.gateLimit ++ leBytes 1 f.flowCap ++ leBytes 1 f.passLimit ++ leBytes 2 f.maskWait ++
  leBytes 2 f.timeout ++ leBytes 1 f.inspect

/-- The material record of a MATERIAL_WRITE. -/
def materialBytes (f : MaterialFields) : List Byte :=
  leBytes 1 f.valid ++ leBytes 2 f.primeMs ++ leBytes 2 f.purgeMs ++ leBytes 2 f.keepWetS ++ leBytes 2 f.capMaxMin ++
  leBytes 2 f.flashMinS ++ leBytes 2 f.openMaxS ++ leBytes 2 f.maxTemp ++ leBytes 1 f.points.length ++
  f.points.flatMap (fun p => leBytes 2 p.1 ++ leBytes 2 p.2)

/-- The group and values of a LINE_SET, 11 bytes for either group (log 9). -/
def settingsBytes : SettingsFields → List Byte
  | .application l n el en => leBytes 1 0 ++ leBytes 1 l ++ leBytes 1 n ++ leBytes 1 el ++ leBytes 2 en ++ leBytes 5 0
  | .oven a b c d g => leBytes 1 1 ++ leBytes 2 a ++ leBytes 2 b ++ leBytes 2 c ++ leBytes 2 d ++ leBytes 2 g
  | .other g => leBytes 1 g ++ leBytes 10 0

/-- The kind and payload of a request, or none for a command that is no request. -/
def writeRequest : Instr → Option (Nat × List Byte)
  | .lineStatus _ => some (0x01, [])
  | .lineSet _ f => some (0x02, settingsBytes f)
  | .mode _ m => some (0x03, leBytes 1 m)
  | .halt _ => some (0x04, [])
  | .recover _ => some (0x05, [])
  | .lineReset _ => some (0x06, [])
  | .classWrite _ c f => some (0x08, leBytes 1 c ++ classBytes f)
  | .classRead _ c => some (0x09, leBytes 1 c)
  | .materialWrite _ m f => some (0x0A, leBytes 1 m ++ materialBytes f)
  | .materialRead _ m => some (0x0B, leBytes 1 m)
  | .ruleWrite _ i e => some (0x10, leBytes 2 i ++ entryBytes e)
  | .ruleRead _ i c => some (0x11, leBytes 2 i ++ leBytes 1 c)
  | .ruleFill _ a b e => some (0x12, leBytes 2 a ++ leBytes 2 b ++ entryBytes e)
  | .ruleMove _ a b n => some (0x13, leBytes 2 a ++ leBytes 2 b ++ leBytes 2 n)
  | .ruleProbe _ c d x y => some (0x14, leBytes 1 c ++ leBytes 1 d ++ leBytes 2 x ++ leBytes 2 y)
  | .criterionWrite _ i f => some (0x18, leBytes 2 i ++ leBytes 1 f.cls ++ leBytes 1 f.kind ++ leBytes 1 f.side ++
      leBytes 1 f.keepOutOnly ++ leBytes 1 f.threshold ++ leBytes 1 f.reason)
  | .criterionRead _ i => some (0x19, leBytes 2 i)
  | .routeWrite _ r f => some (0x1A, leBytes 1 r ++ leBytes 1 f.priority ++ leBytes 1 f.action ++ leBytes 1 f.masked ++
      leBytes 1 f.clearOnRelease)
  | .routeRead _ r => some (0x1B, leBytes 1 r)
  | .strokeLoad _ l i rs =>
      some (0x20, leBytes 1 l ++ leBytes 2 i ++ leBytes 1 rs.length ++ rs.flatMap strokeBytes)
  | .strokeRead _ l i n => some (0x21, leBytes 1 l ++ leBytes 2 i ++ leBytes 1 n)
  | .armLane _ l c i n m a => some (0x22, leBytes 1 l ++ leBytes 1 c ++ leBytes 2 i ++ leBytes 2 n ++ leBytes 1 m ++
      leBytes 1 a)
  | .disarm _ l => some (0x23, leBytes 1 l)
  | .laneStatus _ l c => some (0x24, leBytes 1 l ++ leBytes 1 c)
  | .prime _ a m => some (0x28, leBytes 1 a ++ leBytes 1 m)
  | .purge _ a => some (0x29, leBytes 1 a)
  | .park _ a => some (0x2A, leBytes 1 a)
  | .unpark _ a => some (0x2B, leBytes 1 a)
  | .applicatorStatus _ a => some (0x2C, leBytes 1 a)
  | .announce _ l g c d => some (0x30, leBytes 1 l ++ tagBytes g ++ leBytes 1 c ++ leBytes 1 d)
  | .boardRead _ b v => some (0x31, leBytes 1 b ++ leBytes 1 v)
  | .boardList _ l f => some (0x32, leBytes 1 l ++ leBytes 1 f)
  | .retire _ b => some (0x33, leBytes 1 b)
  | .maskReport _ b k v => some (0x34, leBytes 1 b ++ leBytes 1 k ++ leBytes 1 v)
  | .finding _ b k d x y => some (0x35, leBytes 1 b ++ leBytes 1 k ++ leBytes 1 d ++ leBytes 2 x ++ leBytes 2 y)
  | .inspectDone _ b => some (0x36, leBytes 1 b)
  | .hold _ b => some (0x37, leBytes 1 b)
  | .holdTake _ => some (0x38, [])
  | .holdRelease _ b r v => some (0x39, leBytes 1 b ++ leBytes 1 r ++ leBytes 1 v)
  | .holdStatus _ b f => some (0x3A, leBytes 1 b ++ leBytes 1 f)
  | .ovenStatus _ => some (0x3C, [])
  | .historyRead _ n c => some (0x3D, leBytes 4 n ++ leBytes 1 c)
  | .powerOn _ => none
  | .startUpEnd => none
  | .estopChange _ => none
  | .requestFrame _ => none
  | .frameTimeout _ => none
  | .replySend => none
  | .replySent => none
  | .noticeSend => none
  | .editStep => none
  | .laneArrive _ => none
  | .laneClear _ => none
  | .maskWaitExpiry _ => none
  | .headDone _ _ => none
  | .headFault _ _ _ => none
  | .headDeadline _ => none
  | .keepWetExpiry _ => none
  | .primeWindowAgeOut => none
  | .flashReadyReached _ => none
  | .openDeadlineExpiry _ => none
  | .admitDeadline => none
  | .divertDeadline => none
  | .ovenEnter => none
  | .divertPass => none
  | .entryWindowExpiry => none
  | .entryDrop => none
  | .zoneSample _ _ _ => none
  | .zoneStale _ => none
  | .zoneChange _ => none
  | .overdueExpiry _ => none
  | .ovenExit => none
  | .noticeFrameSent => none
  | .headCommandSent _ _ => none
  | .fieldLinkFrameDiscard _ _ => none

/-- The frame tag a request carries. -/
def Instr.requestTag : Instr → Byte
  | .lineStatus t | .lineSet t _ | .mode t _ | .halt t | .recover t | .lineReset t | .classWrite t _ _
  | .classRead t _ | .materialWrite t _ _ | .materialRead t _ | .ruleWrite t _ _ | .ruleRead t _ _
  | .ruleFill t _ _ _ | .ruleMove t _ _ _ | .ruleProbe t _ _ _ _ | .criterionWrite t _ _ | .criterionRead t _
  | .routeWrite t _ _ | .routeRead t _ | .strokeLoad t _ _ _ | .strokeRead t _ _ _ | .armLane t _ _ _ _ _ _
  | .disarm t _ | .laneStatus t _ _ | .prime t _ _ | .purge t _ | .park t _ | .unpark t _ | .applicatorStatus t _
  | .announce t _ _ _ _ | .boardRead t _ _ | .boardList t _ _ | .retire t _ | .historyRead t _ _
  | .maskReport t _ _ _ | .finding t _ _ _ _ _ | .inspectDone t _ | .hold t _ | .holdTake t | .holdRelease t _ _ _
  | .holdStatus t _ _ | .ovenStatus t => t
  | _ => 0#8

/-- The frame the line computer sends for a request. -/
def requestFrameOf (i : Instr) : Option Frame :=
  (writeRequest i).map fun kp => ⟨byteOf kp.1, i.requestTag, kp.2⟩

/-! ## Field links (11 R179) -/

/-- The event a received frame of a field link delivers, or none where its kind is not listed for the link or its length
does not match its kind. The tag of a head link frame is the op id. -/
def fieldEvent (link : Link) (f : Frame) : Option Instr :=
  match link with
  | .message => none
  | .head l =>
    if f.kind = 0x81#8 ∧ f.payload.length = 0 then some (.headDone l f.tag)
    else if f.kind = 0x82#8 ∧ f.payload.length = 1 then some (.headFault l f.tag (numAt f.payload 0 1))
    else none
  | .ovenNode =>
    if f.kind = 0x01#8 ∧ f.payload.length = 4 then
      some (.zoneSample (numAt f.payload 0 1) (BitVec.ofNat 16 (numAt f.payload 1 2)) (numAt f.payload 3 1 != 0))
    else none

/-! ## The table's words -/

/-- The command a word spells by the bits of spec/opcode_table.json: the table gives no bits for any row, so no word
spells a command. -/
def decodeTableWord (_nbits _w : Nat) : Option Instr := none

end Sys2Proof
end

