-- ==== Sys2Proof/Machine/State.lean ====
section
/-! DEFINITION. The state of the LC72 as plain data, block by block as 00_scope.md 0.4 divides it, and its value at
power-on. Tables numbered by the spec are lists of (number, record) pairs; an unlisted number reads as the reset record
(log 7). Times are values of the 64-bit millisecond count (00 R1; log 5). -/

namespace Sys2Proof.Machine

/-- A numbered table: pairs in rising number, no record equal to the reset record (log 7). -/
abbrev Table (α : Type) := List (Nat × α)

/-! ## Names of the spec -/

/-- The face of a board (00 0.6). -/
inductive Side where
  | top | bottom
  deriving DecidableEq, Repr

/-- The side of a keep-out entry or a criterion (04 R62, 06 R114). -/
inductive SideSel where
  | top | bottom | either
  deriving DecidableEq, Repr

/-- Line modes (10 R166). -/
inductive LineMode where
  | initializing | config | run | drain | halted
  deriving DecidableEq, Repr

/-- Causes of a mode change (10 R166). -/
inductive ChangeCause where
  | powerOn | startUpEnd | mode | drainEnd | halt | estop | recover
  deriving DecidableEq, Repr

/-- Life states of a board (01 R5). -/
inductive LifeState where
  | queued | atSpray | spraying | flashing | ovenReady | inOven
  deriving DecidableEq, Repr

/-- Locations of a board (01 R6). -/
inductive Location where
  | laneQueue | sprayPos | bay (n : Fin 8) | toDivert | oven
  deriving DecidableEq, Repr

/-- A divert mark (01 R7); a board without one holds `none`. -/
inductive Mark where
  | rework | scrap
  deriving DecidableEq, Repr

/-- The disposition of a retirement (01 1.6). -/
inductive Disposition where
  | cured | rework | scrap | removed
  deriving DecidableEq, Repr

/-- The state of a mask site (06 R107). -/
inductive SiteState where
  | unread | present | absent
  deriving DecidableEq, Repr

/-- Exit verdicts, in the order of 08 R146. -/
inductive Verdict where
  | overcure | doseUncertain | undercure | cured
  deriving DecidableEq, Repr

/-- Positions of the exit diverter (08 R145). -/
inductive Route where
  | curedStream | rework
  deriving DecidableEq, Repr

/-- Applicator states (03 R38). -/
inductive AppState where
  | idleDry | priming | primed | spraying | spitting | purging | capping | parked | uncapping | fouled
  deriving DecidableEq, Repr

/-- Applicator kinds (03 R38). -/
inductive AppKind where
  | spray | jet | needle
  deriving DecidableEq, Repr

/-- Head fault kinds (05 R97). -/
inductive FaultKind where
  | clog | pressure | position | other
  deriving DecidableEq, Repr

/-- How a head operation ended (03 3.2, 05 R97). -/
inductive OpEnd where
  | done | fault (k : FaultKind) | deadline
  deriving DecidableEq, Repr

/-- Why an applicator became FOULED (03 R38). -/
inductive FoulCause where
  | fault (k : FaultKind) | deadline | keepWet | capExpired | halt | lineReset
  deriving DecidableEq, Repr

/-- Origin of an applicator request (03 R38, R54). -/
inductive Origin where
  | lineComputer | automatic
  deriving DecidableEq, Repr

/-- Kinds of a waiting command (03 R38). -/
inductive WaitKind where
  | cap | uncap
  deriving DecidableEq, Repr

/-- Kinds of a prime request queue entry (03 R54). -/
inductive PrimeKind where
  | prime | purge
  deriving DecidableEq, Repr

/-- Head operation kinds (05 R96). -/
inductive OpKind where
  | stroke | prime | purge | spit | cap | uncap
  deriving DecidableEq, Repr

/-- Travel axis (05 R83). -/
inductive Axis where
  | x | y
  deriving DecidableEq, Repr

/-- Lane states (05 R86). -/
inductive LaneStatus where
  | idle | armed | running | waitApplicator | stopped
  deriving DecidableEq, Repr

/-- Arming modes (05 R86). -/
inductive ArmMode where
  | once | chain
  deriving DecidableEq, Repr

/-- Withholding causes of the start test, in the order of 05 R88. -/
inductive Withhold where
  | mode | notArmed | classMismatch | masks | blocked | marked | edit | spit
  deriving DecidableEq, Repr

/-- Checks of ARM_LANE (05 R87). -/
inductive StrokeCheck where
  | lane | material | swathKind | swathGrid
  deriving DecidableEq, Repr

/-- Dispositions of a keep-out entry (04 R62). -/
inductive CellRule where
  | coat | keepOut | masked | materialOnly
  deriving DecidableEq, Repr

/-- Causes returned with a resolved cell (04 R67). -/
inductive CellCause where
  | coat | keepOut | maskOpen | maskGated | materialOpen | materialGated
  deriving DecidableEq, Repr

/-- Kinds of a keep-out edit (04 R72). -/
inductive EditKind where
  | write | fill | move
  deriving DecidableEq, Repr

/-- Routing actions (09 R152). -/
inductive RouteAction where
  | flag | stop | divert
  deriving DecidableEq, Repr

/-- Verdicts of HOLD_RELEASE (09 R160); CONTINUE is `goOn`. -/
inductive ReleaseVerdict where
  | goOn | divert | scrap
  deriving DecidableEq, Repr

/-- Kinds of a shuttle operation (07 7.4). -/
inductive ShuttleKind where
  | admission | divert
  deriving DecidableEq, Repr

/-- Result codes, in code order (11 R176). -/
inductive ResultCode where
  | ok | malformed | unknownKind | outOfRange | wrongMode | wrongState | notFound | inUse | classInSpray | editInFlight
  | destOccupied | duplicateTag | scrappedTag | noRoom | strokeInvalid | strokesInUse | notInService | intakeFull
  deriving DecidableEq, Repr

/-- The members of the notice set (11 R177). -/
inductive Notice where
  | line | lane (l : Fin 2) | applicator (a : Fin 6) | board (slot : Nat) | hold | oven
  deriving DecidableEq, Repr

/-! ## Recipe store (02) -/

/-- One material slot of a class (02 R25). -/
structure MatSlot where
  material : Nat
  required : Nat
  maximum : Nat
  deriving DecidableEq, Repr

/-- A class record (02 R25); `keepOut` says whether the default disposition is KEEP_OUT. -/
structure ClassRecord where
  valid : Bool
  count : Nat
  slot1 : Option MatSlot
  slot2 : Option MatSlot
  sites : NumSet 16
  keepOut : Bool
  gateLimit : Nat
  flowCap : Nat
  passLimit : Nat
  maskWait : Nat
  timeout : Nat
  inspect : Bool
  useCount : Nat
  deriving DecidableEq, Repr

/-- A material record (02 R30); `points` are (T, r). -/
structure MaterialRecord where
  valid : Bool
  primeMs : Nat
  purgeMs : Nat
  keepWetS : Nat
  capMaxMin : Nat
  flashMinS : Nat
  openMaxS : Nat
  maxTemp : Nat
  points : List (Nat × Nat)
  deriving DecidableEq, Repr

/-- The reset value of a class record (02 R37). -/
def resetClass : ClassRecord :=
  ⟨false, 0, none, none, 0#16, false, 0, 0, 0, 0, 0, false, 0⟩

/-- The reset value of a material record (02 R37). -/
def resetMaterial : MaterialRecord := ⟨false, 0, 0, 0, 0, 0, 0, 0, List.replicate 8 (0, 0)⟩

structure Recipe where
  classes : Table ClassRecord
  materials : Table MaterialRecord
  deriving DecidableEq, Repr

/-! ## Boards (01) -/

/-- One coverage finding (06 R107). -/
structure Finding where
  kind : Nat
  side : Side
  x : Nat
  y : Nat
  time : Nat
  deriving DecidableEq, Repr

/-- A dose accumulator (08 R142). The last field is the model's own: whether a credit has saturated it (log 27). -/
structure Accumulator where
  material : Nat
  dose : Nat
  rest : Nat
  saturated : Bool
  deriving DecidableEq, Repr

/-- A board record: identity (01 R3), spray, inspection, cure and hold parts (01 R4). The last three fields are the
model's own: whether each timer has yet to expire (log 20). -/
structure Board where
  -- identity (R3)
  tag : List Byte
  cls : Nat
  lane : Fin 2
  side : Side
  pass : Nat
  life : LifeState
  loc : Location
  announced : Nat
  mark : Option Mark
  -- spray part (chapter 5)
  strokesDone : Nat
  gated : Nat
  used : NumSet 8
  sprayEnd : Option Nat
  flowClamped : Bool
  interrupted : Bool
  disarmed : Bool
  -- inspection part (R107)
  sites : List (Nat × SiteState)
  maskWait : Option Nat
  findings : List Finding
  overflow : Nat
  kindsSeen : NumSet 8
  tallies : Table Nat
  inspectDone : Bool
  -- cure part (chapters 7 and 8)
  flashReady : Option Nat
  openDeadline : Option Nat
  ovenEntry : Option Nat
  zone : Option Nat
  lastCredit : Option Nat
  verdict : Option Verdict
  accs : List Accumulator
  doseGap : Bool
  overTemp : Bool
  -- hold part (R151)
  pendingSet : NumSet 16
  inService : NumSet 16
  -- timers that have yet to expire
  flashArmed : Bool
  openArmed : Bool
  overdueArmed : Bool
  deriving DecidableEq, Repr

/-- A history entry (01 R20). -/
structure HistoryEntry where
  tag : List Byte
  cls : Nat
  pass : Nat
  disposition : Disposition
  reasons : NumSet 16
  time : Nat
  seq : BitVec 32
  deriving DecidableEq, Repr

structure Tracker where
  boards : Table (Option Board)
  queues : Vector (List Nat) 2
  history : List HistoryEntry
  nextSeq : BitVec 32
  deriving DecidableEq, Repr

/-! ## Applicators (03) -/

/-- A cap or uncap accepted and not yet sent (03 R38); `order` orders acceptances of one millisecond (log 17). -/
structure WaitCommand where
  kind : WaitKind
  origin : Origin
  time : Nat
  order : Nat
  deriving DecidableEq, Repr

/-- An applicator record (03 R38). -/
structure Applicator where
  state : AppState
  material : Option Nat
  debt : Nat
  keepWet : Option Nat
  parkedWet : Bool
  capTime : Option Nat
  foulCause : Option FoulCause
  waiting : Option WaitCommand
  need : Option Nat
  deriving DecidableEq, Repr

/-- The power-on value of an applicator record (03 R61). -/
def resetApplicator : Applicator := ⟨.idleDry, none, 0, none, false, none, none, none, none⟩

/-- An entry of the prime request queue (03 R54). -/
structure PrimeEntry where
  app : Fin 6
  kind : PrimeKind
  material : Option Nat
  origin : Origin
  deriving DecidableEq, Repr

structure AppManager where
  units : Vector Applicator 6
  startList : List Nat
  queue : List PrimeEntry
  accepted : Nat
  deriving DecidableEq, Repr

/-! ## Keep-out table (04) -/

/-- A keep-out entry (04 R62). -/
structure KeepOutEntry where
  enabled : Bool
  clsValue : BitVec 6
  clsCare : BitVec 6
  side : SideSel
  xValue : BitVec 10
  xCare : BitVec 10
  yValue : BitVec 10
  yCare : BitVec 10
  rule : CellRule
  site : Nat
  material : Nat
  hits : Nat
  sticky : Bool
  deriving DecidableEq, Repr

/-- The reset entry (04 R81). -/
def resetEntry : KeepOutEntry := ⟨false, 0#6, 0#6, .top, 0#10, 0#10, 0#10, 0#10, .coat, 0, 0, 0, false⟩

/-- One step of an edit (04 R75 to R77). -/
inductive EditStep where
  | write (index : Nat) (e : KeepOutEntry)
  | copy (src dst : Nat)
  | clear (index : Nat)
  deriving DecidableEq, Repr

/-- The edit-in-flight record (04 R72); `ranges` holds each range by its first and last index, the source of a move
before its destination; `taken` counts the steps taken; `place` says whether the request holds an intake place (log 2). -/
structure Edit where
  kind : EditKind
  ranges : List (Nat × Nat)
  tag : Byte
  place : Bool
  accepted : Nat
  affected : NumSet 48
  taken : Nat
  steps : List EditStep
  deriving DecidableEq, Repr

structure KeepOut where
  entries : Table KeepOutEntry
  edit : Option Edit
  deriving DecidableEq, Repr

/-! ## Path engine (05) -/

/-- A stroke record (05 R83). -/
structure Stroke where
  applicator : Fin 6
  material : Nat
  axis : Axis
  fixed : Nat
  start : Nat
  stop : Nat
  swath : Nat
  flow : Nat
  lastUse : Bool
  deriving DecidableEq, Repr

/-- The stroke record after power-on (05 R83). -/
def resetStroke : Stroke := ⟨0, 0, .x, 0, 0, 0, 0, 0, false⟩

/-- The arming record (05 R86); the armed class is absent while the lane is IDLE. -/
structure Arming where
  cls : Option Nat
  first : Nat
  count : Nat
  mode : ArmMode
  current : Nat
  remaining : Nat
  auto : Bool
  deriving DecidableEq, Repr

/-- The cleared arming record (05 R86). -/
def clearedArming : Arming := ⟨none, 0, 0, .once, 0, 0, false⟩

/-- What the operation record holds of a stroke (05 R96), with the stroke's material and last-use flag as sent. -/
structure StrokeRef where
  slot : Nat
  index : Nat
  detached : Bool
  material : Nat
  lastUse : Bool
  deriving DecidableEq, Repr

/-- The head operation in flight (05 R96). `span` is the length of its deadline (03 R40); the deadline is present from
the moment the command's last byte has been sent (11 R179). -/
structure HeadOp where
  opId : Nat
  kind : OpKind
  app : Fin 6
  span : Nat
  deadline : Option Nat
  stroke : Option StrokeRef
  deriving DecidableEq, Repr

/-- A command of a head link (11 R179). -/
inductive HeadCommand where
  | stroke (app : Fin 6) (material : Nat) (axis : Axis) (fixed start stop swath flow : Nat) (runs : List (Nat × Nat))
  | prime (app : Fin 6) (material ms : Nat)
  | purge (app : Fin 6) (ms : Nat)
  | spit (app : Fin 6)
  | cap (app : Fin 6)
  | uncap (app : Fin 6)
  deriving DecidableEq, Repr

/-- The last late reply (05 R97). Its kind is the reply's own, HEAD_DONE or HEAD_FAULT (`fault`); the fault kind that a
HEAD_FAULT carries is not recorded (DESIGN CHOICE, log 46). -/
structure LateReply where
  opId : Nat
  fault : Bool
  time : Nat
  deriving DecidableEq, Repr

/-- The last stroke fault (05 R98); `kind` absent stands for DEADLINE. -/
structure StrokeFault where
  kind : Option FaultKind
  index : Nat
  time : Nat
  deriving DecidableEq, Repr

/-- What the path engine holds for one lane (05). `command` is the last command put on the head link, with its op id. -/
structure Lane where
  strokes : Table Stroke
  status : LaneStatus
  arming : Arming
  op : Option HeadOp
  nextOp : Nat
  lateFlag : Bool
  lastLate : Option LateReply
  lastFault : Option StrokeFault
  command : Option (Nat × HeadCommand)
  deriving DecidableEq, Repr

/-- A lane after power-on (05 R105). -/
def resetLane : Lane := ⟨[], .idle, clearedArming, none, 1, false, none, none, none⟩

structure PathEngine where
  lanes : Vector Lane 2
  deriving DecidableEq, Repr

/-! ## Criteria (06) -/

/-- A criterion (06 R114). -/
structure Criterion where
  cls : Nat
  kind : Nat
  side : SideSel
  keepOutOnly : Bool
  threshold : Nat
  reason : Nat
  deriving DecidableEq, Repr

/-- The criterion after power-on (06 R114). -/
def resetCriterion : Criterion := ⟨0, 0, .either, false, 0, 8⟩

/-! ## Oven controller (07, 08) -/

/-- A buffer bay (07 R125). -/
inductive Bay where
  | empty | reserved (slot : Nat) | occupied (slot : Nat)
  deriving DecidableEq, Repr

/-- The shuttle operation (07 7.4). -/
structure ShuttleOp where
  kind : ShuttleKind
  slot : Nat
  bay : Fin 8
  release : Nat
  deadline : Nat
  deriving DecidableEq, Repr

/-- An entry of the entry start list (07 R129), with the model's mark that it has ceased to count (log 20). -/
structure EntryStart where
  time : Nat
  ceased : Bool
  deriving DecidableEq, Repr

/-- A zone record (08 R136). -/
structure Zone where
  temp : Nat
  sampled : Option Nat
  stale : Bool
  deadline : Option Nat
  deriving DecidableEq, Repr

/-- The zone record after power-on (08 R136). -/
def resetZone : Zone := ⟨0, none, true, none⟩

/-- The oven settings (08 R136). -/
structure OvenSettings where
  end1 : Nat
  end2 : Nat
  end3 : Nat
  end4 : Nat
  grace : Nat
  deriving DecidableEq, Repr

/-- The last exit record (08 R145). -/
structure ExitRecord where
  slot : Nat
  tag : List Byte
  cls : Nat
  pass : Nat
  entry : Nat
  exit : Nat
  verdict : Verdict
  route : Route
  disposition : Disposition
  doseGap : Bool
  overTemp : Bool
  accs : List Accumulator
  deriving DecidableEq, Repr

structure Oven where
  bays : Vector Bay 8
  waitList : List Nat
  gates : Vector Bool 2
  shuttle : Option ShuttleOp
  occupancy : List Nat
  entryStart : List EntryStart
  lastEntered : Fin 2
  zones : Vector Zone 4
  settings : OvenSettings
  staged : Option OvenSettings
  diverter : Route
  lastExit : Option ExitRecord
  deriving DecidableEq, Repr

/-! ## Hold controller (09) -/

/-- A routing entry (09 R152). -/
structure RouteEntry where
  priority : Nat
  action : RouteAction
  masked : Bool
  clearOnRelease : Bool
  deriving DecidableEq, Repr

/-- The routing entry of reason `n` after power-on (09 R152). -/
def resetRoute (n : Nat) : RouteEntry := ⟨n, .stop, false, false⟩

structure Hold where
  routing : Table RouteEntry
  lastTaken : Nat
  deriving DecidableEq, Repr

/-! ## Line control (10) -/

/-- The last-change record (10 R166). -/
structure ModeChange where
  before : LineMode
  after : LineMode
  cause : ChangeCause
  time : Nat
  deriving DecidableEq, Repr

/-- The application group of the line settings (10 R172). -/
structure Limits where
  windowLimit : Nat
  windowLength : Nat
  entryLimit : Nat
  entryLength : Nat
  deriving DecidableEq, Repr

structure Line where
  mode : LineMode
  lastChange : ModeChange
  estop : Bool
  limits : Limits
  deriving DecidableEq, Repr

/-! ## Replies (11)

A reply body holds the items its owning rule lists, as they stood when the reply was produced; Machine/Wire.lean gives
their bytes. -/

/-- One applicator of APPLICATOR_STATUS (03 R48). -/
structure AppView where
  app : Fin 6
  unit : Applicator
  /-- the parked time so far, while parked wet -/
  parkedFor : Option Nat
  /-- the queue entry and its position from the oldest -/
  entry : Option (PrimeEntry × Nat)
  /-- the operation in flight and the deadline shown -/
  op : Option (HeadOp × BitVec 32)
  deriving DecidableEq, Repr

/-- One board of BOARD_LIST (01 R23). -/
structure BoardView where
  slot : Nat
  board : Board
  blocked : Bool
  deriving DecidableEq, Repr

/-- One reason of HOLD_STATUS with its routing entry (09 R162). -/
structure ReasonView where
  reason : Nat
  route : RouteEntry
  deriving DecidableEq, Repr

/-- One board of HOLD_STATUS (09 R162): its reasons, pending first. -/
structure HoldView where
  view : BoardView
  reasons : List ReasonView
  deriving DecidableEq, Repr

/-- The choice of a take (09 R159). -/
structure TakeView where
  slot : Nat
  tag : List Byte
  reason : Nat
  route : RouteEntry
  deriving DecidableEq, Repr

/-- The lane of LANE_STATUS (05 R102). -/
structure LaneView where
  lane : Lane
  board : Option (Nat × Board)
  withhold : Option Withhold
  /-- the deadline shown for the operation in flight -/
  shownDeadline : BitVec 32
  deriving DecidableEq, Repr

/-- The line of LINE_STATUS (10 R173). -/
structure LineView where
  clock : Nat
  line : Line
  clearLeft : Option Nat
  settings : OvenSettings
  staged : Option OvenSettings
  counts : List Nat
  drainLeft : Option Nat
  deriving DecidableEq, Repr

/-- The oven of OVEN_STATUS (08 R147). -/
structure OvenView where
  oven : Oven
  limits : Limits
  /-- which entries of the entry start list still count -/
  counting : List Bool
  boards : List BoardView
  deriving DecidableEq, Repr

/-- Reply bodies. -/
inductive Body where
  | empty
  | lineStatus (v : LineView)
  | lineSetApplication
  | lineSetOven (staged : Bool)
  | modes (before after : LineMode)
  | modeBefore (before : LineMode)
  | lineReset (boards fouled : Nat)
  | recipeId (id : Nat)
  | classRead (r : ClassRecord) (inUse : Bool)
  | materialRead (r : MaterialRecord) (held : Bool) (named : Nat)
  | editDone (kind : EditKind) (first last steps : Nat) (affected : NumSet 48)
  | classInSpray (affected : NumSet 48) (slot cls : Nat)
  | ruleRead (index : Nat) (e : KeepOutEntry)
  | ruleProbe (decider : Option Nat) (rule : CellRule) (site material : Option Nat)
  | criterionWrite (index boards : Nat)
  | criterionRead (c : Criterion) (boards : Nat)
  | routeWrite (reason changed marked : Nat)
  | routeRead (r : RouteEntry) (level : Bool) (waiting inService : Nat)
  | strokeLoad (lane first count : Nat)
  | strokeRead (records : List Stroke)
  | armed (lane : Nat) (a : Arming)
  | strokeInvalid (index : Nat) (check : StrokeCheck)
  | disarmed (lane : Nat) (before : LaneStatus)
  | laneStatus (v : LaneView)
  | accepted
  | unchanged
  | applicators (views : List AppView) (limit length : Nat) (starts : List Nat)
  | announced (slot : Nat) (tag : List Byte) (pass time : Nat) (mark : Option Mark)
  | boardSummary (v : BoardView)
  | boardFindings (findings : List Finding) (overflow : Nat) (tallies : List Nat)
  | boardList (views : List BoardView)
  | retired (slot : Nat) (tag : List Byte) (time : Nat)
  | history (oldest next : BitVec 32) (entries : List HistoryEntry)
  | maskReport (slot : Nat) (tag : List Byte) (site : Nat) (before after : SiteState) (missing waits : Bool)
  | finding (slot : Nat) (tag : List Byte) (stored : Bool) (count overflow : Nat) (reached : List (Nat × Nat))
  | inspectDone (slot : Nat) (tag : List Byte) (before : Bool)
  | hold (slot : Nat) (tag : List Byte) (waiting inService blocked : Bool) (mark : Option Mark)
  | holdTake (choice : TakeView) (left : Nat)
  | holdRelease (slot : Nat) (tag : List Byte) (reason : Nat) (verdict : ReleaseVerdict) (cleared again blocked : Bool)
      (mark : Option Mark)
  | holdStatus (lastTaken : Nat) (next : Option TakeView) (candidates blocked : Nat) (boards : List HoldView)
      (further : Option (Option Nat))
  | ovenStatus (v : OvenView)
  deriving DecidableEq, Repr

/-- An entry of the reply queue (11 R176); `place` says whether its request holds an intake place. -/
structure Reply where
  kind : Nat
  tag : Byte
  code : ResultCode
  body : Body
  place : Bool
  deriving DecidableEq, Repr

/-! ## Link port (11) -/

/-- A receiver: the bytes from the start byte of the frame in progress, and the time of the last byte (11 R174). -/
structure Receiver where
  bytes : List Byte
  last : Nat
  deriving DecidableEq, Repr

/-- The transmitter of the message link (11 R176). -/
inductive Transmitter where
  | idle
  | reply (r : Reply)
  | notice (n : Notice)
  deriving DecidableEq, Repr

/-- An outstanding request (11 R175): its kind and tag. -/
structure Outstanding where
  kind : Nat
  tag : Byte
  deriving DecidableEq, Repr

structure LinkPort where
  rx : Vector Receiver 4
  intake : List Outstanding
  handed : List Instr
  replies : List Reply
  tx : Transmitter
  deriving DecidableEq, Repr

/-! ## The whole state -/

/-- The state of the LC72, with the queue of the commands that wait (log 1). -/
structure State where
  pending : List Instr
  clock : Nat
  line : Line
  link : LinkPort
  notices : List Notice
  recipe : Recipe
  tracker : Tracker
  apps : AppManager
  keepOut : KeepOut
  path : PathEngine
  criteria : Table Criterion
  oven : Oven
  hold : Hold
  deriving DecidableEq, Repr

/-- The state at the moment of power-on (10 R167 and each chapter's reset table), with the emergency-stop input as
sampled. The mode before is the model's, as is that the four receivers are empty, a frame in progress dropped (DESIGN CHOICE,
log 6). -/
def State.powerOn (estop : Bool) : State where
  pending := []
  clock := 0
  line :=
    { mode := .initializing, lastChange := ⟨.initializing, .initializing, .powerOn, 0⟩, estop := estop,
      limits := ⟨4, 20, 3, 45⟩ }
  link := { rx := Vector.replicate 4 ⟨[], 0⟩, intake := [], handed := [], replies := [], tx := .idle }
  notices := []
  recipe := { classes := [], materials := [] }
  tracker := { boards := [], queues := Vector.replicate 2 [], history := [], nextSeq := 0#32 }
  apps := { units := Vector.replicate 6 resetApplicator, startList := [], queue := [], accepted := 0 }
  keepOut := { entries := [], edit := none }
  path := { lanes := Vector.replicate 2 resetLane }
  criteria := []
  oven :=
    { bays := Vector.replicate 8 .empty, waitList := [], gates := Vector.replicate 2 false, shuttle := none,
      occupancy := [], entryStart := [], lastEntered := 1, zones := Vector.replicate 4 resetZone,
      settings := ⟨240, 480, 720, 960, 30⟩, staged := none, diverter := .curedStream, lastExit := none }
  hold := { routing := [], lastTaken := 31 }

/-- The machine right after reset: power-on with the emergency-stop input inactive (log 6). -/
def State.reset : State := State.powerOn false

/-- Reasons for which the machine stops with a fault. The spec describes no event that stops the LC72, so there is no
constructor: no command raises a fault. -/
inductive Fault where
  deriving DecidableEq, Repr

/-- Reasons for which a command has no meaning. -/
inductive Refusal where
  /-- Raised by `exec` alone, for a command whose meaning is not written yet. Safe: the model stops where the hardware
  goes on. No command of this model is refused with it. -/
  | notModelled (mnemonic : String)
  deriving DecidableEq, Repr

end Sys2Proof.Machine
end

