-- ==== Sys2Proof/Machine/Ops.lean ====
section
/-! DEFINITION. The named operations over the state: numbered tables, the clock, notices, replies, and the one write of
each kind of record, which posts the notices that go with it. -/

namespace Sys2Proof.Machine

/-! ## Numbered tables (log 7) -/

/-- The record of number `i`; an unlisted number reads as its reset record `d i`. -/
def Table.read {α : Type} (d : Nat → α) : Table α → Nat → α
  | [], i => d i
  | (j, v) :: t, i => if i = j then v else Table.read d t i

/-- The table with `v` listed at number `i`, in rising order. -/
def Table.put {α : Type} (i : Nat) (v : α) : Table α → Table α
  | [] => [(i, v)]
  | (j, w) :: t =>
    if i < j then (i, v) :: (j, w) :: t
    else if i = j then (i, v) :: t
    else (j, w) :: Table.put i v t

/-- The table with number `i` unlisted. -/
def Table.drop {α : Type} (i : Nat) (t : Table α) : Table α := t.filter fun p => p.1 != i

/-- Writing a record. Writing the reset record unlists the number, so that equal tables are equal data. -/
def Table.write {α : Type} [DecidableEq α] (d : Nat → α) (i : Nat) (v : α) (t : Table α) : Table α :=
  if v = d i then Table.drop i t else Table.put i v t

/-- Whether every number of a list is above a bound and the list rises. -/
def Table.rises {α : Type} : Option Nat → Table α → Bool
  | _, [] => true
  | lo, (i, _) :: t => (lo.all fun b => decide (b < i)) && Table.rises (some i) t

/-- The canonical form: numbers strictly rising, no record equal to its reset record (log 7). -/
def Table.wf {α : Type} [DecidableEq α] (d : Nat → α) (t : Table α) : Bool :=
  Table.rises none t && t.all fun p => decide (p.2 ≠ d p.1)

/-! ## Clock -/

/-- The clock has reached `t`: time passes on to it where it has not come yet (log 3). -/
def State.reach (t : Nat) (s : State) : State := { s with clock := max s.clock t }

/-! ## Notices (11 R177) -/

/-- Posting a pair: appended at the newest end, unless it is present. -/
def State.post (n : Notice) (s : State) : State :=
  if s.notices.contains n then s else { s with notices := s.notices ++ [n] }

/-! ## Replies (11 R175, R176) -/

/-- The tag of a request and whether it holds an intake place. -/
structure Header where
  tag : Byte
  place : Bool
  deriving DecidableEq, Repr

/-- A reply produced: appended to the reply queue, with the request's kind plus 80h. -/
def State.answer (h : Header) (kind : Nat) (code : ResultCode) (body : Body) (s : State) : State :=
  { s with link := { s.link with
      replies := s.link.replies ++ [⟨(kind + 0x80) % 0x100, h.tag, code, body, h.place⟩] } }

/-- A refusal with an empty body (11 R176). -/
def State.refuse (h : Header) (kind : Nat) (code : ResultCode) (s : State) : State :=
  s.answer h kind code .empty

/-- A request taken by its owning block: it leaves the requests handed on, if it stands among them, and then holds an
intake place (log 2). -/
def State.take (i : Instr) (s : State) : State :=
  { s with link := { s.link with handed := s.link.handed.erase i } }

/-- The header of a request that its owning block takes. -/
def State.header (s : State) (i : Instr) : Header := ⟨i.requestTag, s.link.handed.contains i⟩

/-- A request's step: the owning block takes it and does `f`. -/
def State.request (i : Instr) (s : State) (f : Header → State → State) : Host.Outcome State Fault Refusal :=
  .next (f (s.header i) (s.take i))

/-- A request that is refused with WRONG_MODE in INITIALIZING, before any other test (10 R167; log 30). -/
def State.unlessInit (h : Header) (kind : Nat) (s : State) (f : State → State) : State :=
  if s.line.mode = .initializing then s.refuse h kind .wrongMode else f s

/-- An event that is discarded in INITIALIZING (10 R167). -/
def State.discardInit (s : State) (f : State → State) : State :=
  if s.line.mode = .initializing then s else f s

/-! ## Recipes (02) -/

/-- A class record. -/
def State.cls (s : State) (c : Nat) : ClassRecord := Table.read (fun _ => resetClass) s.recipe.classes c

/-- Replacing a class record. -/
def State.setCls (c : Nat) (r : ClassRecord) (s : State) : State :=
  { s with recipe := { s.recipe with classes := Table.write (fun _ => resetClass) c r s.recipe.classes } }

/-- A material record. -/
def State.mat (s : State) (m : Nat) : MaterialRecord := Table.read (fun _ => resetMaterial) s.recipe.materials m

/-- Replacing a material record. -/
def State.setMat (m : Nat) (r : MaterialRecord) (s : State) : State :=
  { s with recipe := { s.recipe with materials := Table.write (fun _ => resetMaterial) m r s.recipe.materials } }

/-- Raising a class use count by 1 (02 R26). -/
def State.raiseUse (c : Nat) (s : State) : State :=
  s.setCls c { s.cls c with useCount := (s.cls c).useCount + 1 }

/-- Lowering a class use count by 1 (02 R26). -/
def State.lowerUse (c : Nat) (s : State) : State :=
  s.setCls c { s.cls c with useCount := (s.cls c).useCount - 1 }

/-! ## Boards (01) -/

/-- The record in a slot. -/
def State.board (s : State) (slot : Nat) : Option Board := Table.read (fun _ => none) s.tracker.boards slot

/-- Writing a slot without a notice. -/
def State.setBoard (slot : Nat) (b : Option Board) (s : State) : State :=
  { s with tracker := { s.tracker with boards := Table.write (fun _ => none) slot b s.tracker.boards } }

/-- Whether a change of a board posts a BOARD notice: its life state, location or divert mark changed (01 R24). -/
def Board.noticed (old new : Board) : Bool :=
  decide (old.life ≠ new.life) || decide (old.loc ≠ new.loc) || decide (old.mark ≠ new.mark)

/-- Changing the board in a slot, with the BOARD notice of R24. -/
def State.modBoard (slot : Nat) (f : Board → Board) (s : State) : State :=
  match s.board slot with
  | none => s
  | some b =>
    let s' := s.setBoard slot (some (f b))
    if b.noticed (f b) then s'.post (.board slot) else s'

/-- Changing the board in a slot without a notice. -/
def State.modBoardQuiet (slot : Nat) (f : Board → Board) (s : State) : State :=
  match s.board slot with
  | none => s
  | some b => s.setBoard slot (some (f b))

/-- The occupied slots with their boards, in ascending slot order. -/
def State.boards (s : State) : List (Nat × Board) :=
  (List.range Config.slots).filterMap fun k => (s.board k).map fun b => (k, b)

/-- The lowest empty slot (01 R2). -/
def State.emptySlot (s : State) : Option Nat := (List.range Config.slots).find? fun k => (s.board k).isNone

/-- Changing every board without a notice. -/
def State.mapBoards (f : Board → Board) (s : State) : State :=
  { s with tracker := { s.tracker with boards := s.tracker.boards.map fun p => (p.1, p.2.map f) } }

/-- The lane queue of a lane (01 R12). -/
def State.queueOf (s : State) (l : Fin 2) : List Nat := s.tracker.queues.get l

/-- Replacing a lane queue. -/
def State.setQueue (l : Fin 2) (q : List Nat) (s : State) : State :=
  { s with tracker := { s.tracker with queues := s.tracker.queues.set l q } }

/-- The board of a lane at its spray position, with its slot (01 R12). -/
def State.sprayBoard (s : State) (l : Fin 2) : Option (Nat × Board) :=
  s.boards.find? fun p => decide (p.2.lane = l) && decide (p.2.loc = .sprayPos)

/-- Appending a history entry (01 R20): with 64 held the oldest is dropped first; the counter wraps at 32 bits. -/
def State.appendHistory (tag : List Byte) (cls pass : Nat) (d : Disposition) (reasons : NumSet 16) (time : Nat)
    (s : State) : State :=
  let kept := if Config.historyLimit ≤ s.tracker.history.length then s.tracker.history.tail else s.tracker.history
  { s with tracker := { s.tracker with
      history := kept ++ [⟨tag, cls, pass, d, reasons, time, s.tracker.nextSeq⟩]
      nextSeq := s.tracker.nextSeq + 1#32 } }

/-! ## Applicators (03) -/

/-- An applicator record. -/
def State.unit (s : State) (a : Fin 6) : Applicator := s.apps.units.get a

/-- Replacing an applicator record without a notice. -/
def State.setUnit (a : Fin 6) (r : Applicator) (s : State) : State :=
  { s with apps := { s.apps with units := s.apps.units.set a r } }

/-- Whether a change of an applicator posts an APPLICATOR notice: state, material, spit debt or foul cause (03 R39). -/
def Applicator.noticed (old new : Applicator) : Bool :=
  decide (old.state ≠ new.state) || decide (old.material ≠ new.material) || decide (old.debt ≠ new.debt) ||
  decide (old.foulCause ≠ new.foulCause)

/-- Changing an applicator record, with the APPLICATOR notice of R39. -/
def State.modUnit (a : Fin 6) (f : Applicator → Applicator) (s : State) : State :=
  let s' := s.setUnit a (f (s.unit a))
  if (s.unit a).noticed (f (s.unit a)) then s'.post (.applicator a) else s'

/-- The lane of an applicator (03 R38). -/
def appLane (a : Fin 6) : Fin 2 := ⟨a.val / 3, by omega⟩

/-- The three applicators of a lane, lowest id first (03 R38). -/
def laneApps (l : Fin 2) : List (Fin 6) := [⟨3 * l.val, by omega⟩, ⟨3 * l.val + 1, by omega⟩, ⟨3 * l.val + 2, by omega⟩]

/-- The kind of an applicator (03 R38). -/
def appKind (a : Fin 6) : AppKind :=
  match a.val % 3 with
  | 0 => .spray
  | 1 => .jet
  | _ => .needle

/-- The swaths an applicator kind may have (03 R38). -/
def AppKind.allows (k : AppKind) (swath : Nat) : Bool :=
  match k with
  | .spray => decide (2 ≤ swath) && decide (swath ≤ 8)
  | .jet => decide (1 ≤ swath) && decide (swath ≤ 4)
  | .needle => decide (swath = 1)

/-! ## Lanes (05) -/

/-- What the path engine holds for a lane. -/
def State.lane (s : State) (l : Fin 2) : Lane := s.path.lanes.get l

/-- Replacing a lane's record. -/
def State.setLane (l : Fin 2) (r : Lane) (s : State) : State :=
  { s with path := { s.path with lanes := s.path.lanes.set l r } }

/-- Changing a lane's record without a notice. -/
def State.modLane (l : Fin 2) (f : Lane → Lane) (s : State) : State := s.setLane l (f (s.lane l))

/-- A change of the lane state by an event other than ARM_LANE and DISARM, with its LANE notice (05 R103). -/
def State.setStatus (l : Fin 2) (st : LaneStatus) (s : State) : State :=
  let s' := s.modLane l fun r => { r with status := st }
  if (s.lane l).status = st then s' else s'.post (.lane l)

/-- A stroke record (05 R83). -/
def Lane.stroke (r : Lane) (i : Nat) : Stroke := Table.read (fun _ => resetStroke) r.strokes i

/-! ## Keep-out entries, criteria, routing -/

/-- A keep-out entry (04 R62). -/
def State.entry (s : State) (i : Nat) : KeepOutEntry := Table.read (fun _ => resetEntry) s.keepOut.entries i

/-- Writing a keep-out entry. -/
def State.setEntry (i : Nat) (e : KeepOutEntry) (s : State) : State :=
  { s with keepOut := { s.keepOut with entries := Table.write (fun _ => resetEntry) i e s.keepOut.entries } }

/-- A criterion (06 R114). -/
def State.criterion (s : State) (i : Nat) : Criterion := Table.read (fun _ => resetCriterion) s.criteria i

/-- The routing entry of a reason (09 R152). -/
def State.route (s : State) (n : Nat) : RouteEntry := Table.read resetRoute s.hold.routing n

/-! ## Bays (07 R125) -/

/-- A buffer bay. -/
def State.bay (s : State) (n : Fin 8) : Bay := s.oven.bays.get n

/-- Writing a bay. -/
def State.setBay (n : Fin 8) (v : Bay) (s : State) : State :=
  { s with oven := { s.oven with bays := s.oven.bays.set n v } }

/-- Opening or closing a lane exit gate. -/
def State.setGate (l : Fin 2) (o : Bool) (s : State) : State :=
  { s with oven := { s.oven with gates := s.oven.gates.set l o } }

/-- The eight bays in ascending order. -/
def allBays : List (Fin 8) := [0, 1, 2, 3, 4, 5, 6, 7]

/-- Both lanes in ascending order. -/
def allLanes : List (Fin 2) := [0, 1]

/-- The six applicators in ascending order. -/
def allApps : List (Fin 6) := [0, 1, 2, 3, 4, 5]

/-- The four zones in ascending order. -/
def allZones : List (Fin 4) := [0, 1, 2, 3]

/-- The lowest-numbered EMPTY bay. -/
def State.emptyBay (s : State) : Option (Fin 8) := allBays.find? fun n => decide (s.bay n = .empty)

/-- The bay that a slot occupies or holds reserved. -/
def State.bayOf (s : State) (slot : Nat) : Option (Fin 8) :=
  allBays.find? fun n => decide (s.bay n = .reserved slot) || decide (s.bay n = .occupied slot)

/-- Whether the bay is held RESERVED for the slot. -/
def State.reservedBay (s : State) (slot : Nat) : Option (Fin 8) :=
  allBays.find? fun n => decide (s.bay n = .reserved slot)

/-- A bay request served: the bay becomes RESERVED for the board and its lane's exit gate opens. -/
def State.reserve (n : Fin 8) (slot : Nat) (s : State) : State :=
  let s' := s.setBay n (.reserved slot)
  match s.board slot with
  | none => s'
  | some b => s'.setGate b.lane true

/-- A bay request (01 R14, 07 R125). -/
def State.requestBay (slot : Nat) (s : State) : State :=
  match s.emptyBay with
  | some n => s.reserve n slot
  | none => { s with oven := { s.oven with waitList := s.oven.waitList ++ [slot] } }

/-- A bay becomes EMPTY: the oldest slot of the bay wait list takes it (07 R125). -/
def State.freeBay (n : Fin 8) (s : State) : State :=
  match s.oven.waitList with
  | [] => s.setBay n .empty
  | slot :: rest => { s with oven := { s.oven with waitList := rest } }.reserve n slot

/-- Freeing the bay a board occupies or holds reserved, if any (01 R16). -/
def State.freeBayOf (slot : Nat) (s : State) : State :=
  match s.bayOf slot with
  | none => s
  | some n => s.freeBay n

/-! ## Mode (10 R166) -/

/-- A change of the line mode with its last-change record. -/
def State.setMode (m : LineMode) (c : ChangeCause) (s : State) : State :=
  { s with line := { s.line with mode := m, lastChange := ⟨s.line.mode, m, c, s.clock⟩ } }

/-! ## Zones (08) -/

/-- A zone record; zone i of the spec is number i - 1. -/
def State.zone (s : State) (z : Fin 4) : Zone := s.oven.zones.get z

/-- Writing a zone record. -/
def State.setZone (z : Fin 4) (r : Zone) (s : State) : State :=
  { s with oven := { s.oven with zones := s.oven.zones.set z r } }

end Sys2Proof.Machine
end

