-- ==== Sys2Proof/Machine/Operands.lean ====
section
/-! DEFINITION. Operand values: the codes of R178 read as the names of the spec, and the range tests of every request.
A function here answers none for a value outside its range, which its owning block refuses with OUT_OF_RANGE. -/

namespace Sys2Proof.Machine

/-- A number between two ends, both included (00 0.7.1). -/
abbrev within (lo hi n : Nat) : Bool := decide (lo ≤ n) && decide (n ≤ hi)

/-- A flag byte: 00h or 01h (11 R178). -/
def flagOf (n : Nat) : Option Bool :=
  match n with
  | 0 => some false
  | 1 => some true
  | _ => none

/-- A lane number. -/
def laneOf (n : Nat) : Option (Fin 2) := if h : n < 2 then some ⟨n, h⟩ else none

/-- An applicator id. -/
def appOf (n : Nat) : Option (Fin 6) := if h : n < 6 then some ⟨n, h⟩ else none

/-- A zone number 1 to 4. -/
def zoneOf (n : Nat) : Option (Fin 4) := if h : 1 ≤ n ∧ n ≤ 4 then some ⟨n - 1, by omega⟩ else none

/-- A class id (02). -/
abbrev classOk (n : Nat) : Bool := within 1 48 n

/-- A material id (02). -/
abbrev materialOk (n : Nat) : Bool := decide (n < 8)

/-- A board slot (01 R2). -/
abbrev slotOk (n : Nat) : Bool := decide (n < Config.slots)

/-- A reason number (09 R150). -/
abbrev reasonOk (n : Nat) : Bool := decide (n < 16)

/-- A coordinate (00 0.7.1). -/
abbrev coordOk (n : Nat) : Bool := decide (n < 1024)

/-- The side of a board, a finding or a probe. -/
def sideOf (n : Nat) : Option Side :=
  match n with
  | 0 => some .top
  | 1 => some .bottom
  | _ => none

/-- The side of an entry or a criterion (TOP 0, BOTTOM 1, EITHER 2). -/
def sideSelOf (n : Nat) : Option SideSel :=
  match n with
  | 0 => some .top
  | 1 => some .bottom
  | 2 => some .either
  | _ => none

/-- A keep-out disposition (COAT 0 to MATERIAL_ONLY 3). -/
def ruleOf (n : Nat) : Option CellRule :=
  match n with
  | 0 => some .coat
  | 1 => some .keepOut
  | 2 => some .masked
  | 3 => some .materialOnly
  | _ => none

/-- A routing action, in the order of R152. -/
def actionOf (n : Nat) : Option RouteAction :=
  match n with
  | 0 => some .flag
  | 1 => some .stop
  | 2 => some .divert
  | _ => none

/-- A release verdict, in the order of R160. -/
def verdictOf (n : Nat) : Option ReleaseVerdict :=
  match n with
  | 0 => some .goOn
  | 1 => some .divert
  | 2 => some .scrap
  | _ => none

/-- The state a MASK_REPORT reports: PRESENT 0, ABSENT 1, the order of R108 (log 12). -/
def reportOf (n : Nat) : Option SiteState :=
  match n with
  | 0 => some .present
  | 1 => some .absent
  | _ => none

/-- A life state code (11 R178). -/
def lifeOf (n : Nat) : Option LifeState :=
  match n with
  | 0 => some .queued
  | 1 => some .atSpray
  | 2 => some .spraying
  | 3 => some .flashing
  | 4 => some .ovenReady
  | 5 => some .inOven
  | _ => none

/-- A filter of BOARD_LIST: ANY is FFh. -/
def filterOf {α : Type} (read : Nat → Option α) (n : Nat) : Option (Option α) :=
  if n = 0xFF then some none else (read n).map some

/-- The target of MODE, with the fixed line mode codes (10 R168, 11 R178). -/
def targetOf (n : Nat) : Option LineMode :=
  match n with
  | 1 => some .config
  | 2 => some .run
  | 3 => some .drain
  | _ => none

/-- An arming mode, in the order of R86. -/
def armModeOf (n : Nat) : Option ArmMode :=
  match n with
  | 0 => some .once
  | 1 => some .chain
  | _ => none

/-- A travel axis (X 0, Y 1). -/
def axisOf (n : Nat) : Option Axis :=
  match n with
  | 0 => some .x
  | 1 => some .y
  | _ => none

/-- A head fault kind: CLOG 1, PRESSURE 2, POSITION 3, OTHER 4; any other value is taken as OTHER (11 R179). -/
def faultOf (n : Nat) : FaultKind :=
  match n with
  | 1 => .clog
  | 2 => .pressure
  | 3 => .position
  | _ => .other

/-- A board tag: 1 to 24 characters, each 21h to 7Eh (01 R8). -/
def tagOk (g : List Byte) : Bool :=
  within 1 24 g.length && g.all fun b => within 0x21 0x7E b.toNat

/-- A keep-out entry supplied by an edit, with no hits: valid when every field is in range and a MASKED entry names a
site 1 to 16 (04 R62). -/
def readEntry (e : EntryFields) : Option KeepOutEntry :=
  match flagOf e.enabled, sideSelOf e.side, ruleOf e.disposition with
  | some en, some sd, some r =>
    if decide (e.clsValue < 64) && decide (e.clsCare < 64) && coordOk e.xValue && coordOk e.xCare && coordOk e.yValue &&
        coordOk e.yCare && decide (e.site ≤ 16) && (decide (r ≠ .masked) || decide (1 ≤ e.site)) && materialOk e.material
    then
      some ⟨en, BitVec.ofNat 6 e.clsValue, BitVec.ofNat 6 e.clsCare, sd, BitVec.ofNat 10 e.xValue,
        BitVec.ofNat 10 e.xCare, BitVec.ofNat 10 e.yValue, BitVec.ofNat 10 e.yCare, r, e.site, e.material, 0, false⟩
    else none
  | _, _, _ => none

/-- A stroke record whose every field is in its range (05 R83, R84). -/
def readStroke (f : StrokeFields) : Option Stroke :=
  match appOf f.applicator, axisOf f.axis, flagOf f.lastUse with
  | some a, some ax, some lu =>
    if materialOk f.material && coordOk f.fixed && coordOk f.start && coordOk f.stop && within 1 8 f.swath &&
        decide (f.flow ≤ 15)
    then some ⟨a, f.material, ax, f.fixed, f.start, f.stop, f.swath, f.flow, lu⟩
    else none
  | _, _, _ => none

/-- The records of a STROKE_LOAD, or none if one has a field out of range. -/
def readStrokes : List StrokeFields → Option (List Stroke)
  | [] => some []
  | f :: fs =>
    match readStroke f, readStrokes fs with
    | some r, some rs => some (r :: rs)
    | _, _ => none

/-- A criterion in range (06 R114). -/
def readCriterion (f : CriterionFields) : Option Criterion :=
  match sideSelOf f.side, flagOf f.keepOutOnly with
  | some sd, some ko =>
    if decide (f.cls ≤ 48) && decide (f.kind ≤ 5) && decide (f.threshold ≤ 16) && within 8 9 f.reason
    then some ⟨f.cls, f.kind, sd, ko, f.threshold, f.reason⟩
    else none
  | _, _ => none

/-- A routing entry in range (09 R152, R153). -/
def readRoute (f : RouteFields) : Option RouteEntry :=
  match actionOf f.action, flagOf f.masked, flagOf f.clearOnRelease with
  | some a, some m, some c => if decide (f.priority < 16) then some ⟨f.priority, a, m, c⟩ else none
  | _, _, _ => none

/-- A material slot in range (02 R25). -/
def readSlot (f : SlotFields) : Option MatSlot :=
  if materialOk f.material && within 1 16000 f.required && within f.required 16777 f.maximum
  then some ⟨f.material, f.required, f.maximum⟩
  else none

/-- The slots of a class record: as many as the material count, of different materials (02 R25, R27 test 4; log 10). -/
def readSlots (f : ClassFields) : Option (Option MatSlot × Option MatSlot) :=
  match f.count, f.slot1, f.slot2 with
  | 1, some a, none => (readSlot a).map fun x => (some x, none)
  | 2, some a, some b =>
    match readSlot a, readSlot b with
    | some x, some y => if x.material = y.material then none else some (some x, some y)
    | _, _ => none
  | _, _, _ => none

/-- A class record to be valid, every field in range (02 R27 test 4), with use count 0. -/
def readClass (f : ClassFields) : Option ClassRecord :=
  match readSlots f, flagOf f.inspect, flagOf f.dflt with
  | some (x, y), some i, some d =>
    if decide (f.gateLimit ≤ 65535) && within 1 15 f.flowCap && decide (f.passLimit ≤ 2) && within 1 600 f.maskWait &&
        within 100 25500 f.timeout && decide (f.timeout % 100 = 0)
    then some ⟨true, f.count, x, y, f.sites, d, f.gateLimit, f.flowCap, f.passLimit, f.maskWait, f.timeout, i, 0⟩
    else none
  | _, _, _ => none

/-- Temperatures strictly ascending (02 R30). -/
def ascends : List (Nat × Nat) → Bool
  | [] => true
  | [_] => true
  | p :: q :: r => decide (p.1 < q.1) && ascends (q :: r)

/-- A material record to be valid: every field in range, open_max_s above flash_min_s, eight points with temperatures
strictly ascending (02 R30, R32 test 5). -/
def readMaterial (f : MaterialFields) : Option MaterialRecord :=
  if within 500 60000 f.primeMs && within 500 60000 f.purgeMs && within 5 600 f.keepWetS && within 1 1440 f.capMaxMin &&
      decide (f.flashMinS ≤ 3600) && within 60 14400 f.openMaxS && decide (f.maxTemp ≤ 3000) &&
      decide (f.flashMinS < f.openMaxS) && decide (f.points.length = 8) &&
      (f.points.all fun p => decide (p.1 ≤ 3000) && decide (p.2 ≤ 4095)) && ascends f.points
  then some ⟨true, f.primeMs, f.purgeMs, f.keepWetS, f.capMaxMin, f.flashMinS, f.openMaxS, f.maxTemp, f.points⟩
  else none

/-- The application group in range (10 R172). -/
def readLimits (limit length entryLimit entryLength : Nat) : Option Limits :=
  if within 1 8 limit && within 5 120 length && within 1 8 entryLimit && within 10 600 entryLength
  then some ⟨limit, length, entryLimit, entryLength⟩
  else none

/-- The oven group in range, its zone end times strictly increasing (10 R172, 08 R136). -/
def readOvenSettings (a b c d g : Nat) : Option OvenSettings :=
  if within 1 7200 a && within 1 7200 b && within 1 7200 c && within 1 7200 d && decide (a < b) && decide (b < c) &&
      decide (c < d) && within 5 300 g
  then some ⟨a, b, c, d, g⟩
  else none

end Sys2Proof.Machine
end

