-- ==== Sys2Proof/Machine/Flags.lean ====
section
/-! DEFINITION. What the blocks derive from the state and do not store: blocked, in use, held, ready, open, pending, and
the other yes-or-no questions of the rules. -/

namespace Sys2Proof.Machine

/-! ## Holds -/

/-- Whether a reason blocks: its entry is unmasked with action STOP or DIVERT (09 R158). -/
def RouteEntry.blocks (r : RouteEntry) : Bool := !r.masked && decide (r.action ≠ .flag)

/-- Whether a reason stands in either set of a board. -/
def Board.holds (b : Board) (n : Nat) : Bool := b.pendingSet.has n || b.inService.has n

/-- Whether a board is blocked (09 R158). -/
def State.blocked (s : State) (b : Board) : Bool :=
  (List.range 16).any fun n => b.holds n && (s.route n).blocks

/-- Whether the board of a slot is blocked; an empty slot is not. -/
def State.blockedAt (s : State) (slot : Nat) : Bool := (s.board slot).any fun b => s.blocked b

/-! ## Recipes -/

/-- Whether a lane state is one of the four armed states (05 R86). -/
def LaneStatus.armedState (st : LaneStatus) : Bool := decide (st ≠ .idle)

/-- Whether a class is in use (02 R28). -/
def State.inUse (s : State) (c : Nat) : Bool :=
  decide (0 < (s.cls c).useCount) ||
  allLanes.any fun l => decide ((s.lane l).arming.cls = some c) && (s.lane l).status.armedState

/-- Whether a class names a material in one of its slots. -/
def ClassRecord.names (r : ClassRecord) (m : Nat) : Bool :=
  (r.slot1.any fun x => decide (x.material = m)) || (r.slot2.any fun x => decide (x.material = m))

/-- The slot of a class that names a material. -/
def ClassRecord.slotOf (r : ClassRecord) (m : Nat) : Option MatSlot :=
  [r.slot1, r.slot2].findSome? fun o => o.bind fun x => if x.material = m then some x else none

/-- The class ids 1 to 48. -/
def classIds : List Nat := (List.range 48).map (· + 1)

/-- Whether an applicator holds a material so that the material is held (02 R31): any state but IDLE_DRY and PARKED
dry. -/
def Applicator.holdsMaterial (r : Applicator) (m : Nat) : Bool :=
  decide (r.material = some m) && decide (r.state ≠ .idleDry) && !(decide (r.state = .parked) && !r.parkedWet)

/-- Whether a material is held (02 R31). -/
def State.held (s : State) (m : Nat) : Bool :=
  (allApps.any fun a => (s.unit a).holdsMaterial m) ||
  (s.apps.queue.any fun e => decide (e.material = some m)) ||
  classIds.any fun c => (s.cls c).valid && decide (0 < (s.cls c).useCount) && (s.cls c).names m

/-- The number of valid classes that name a material (02 R33). -/
def State.namedBy (s : State) (m : Nat) : Nat := classIds.countP fun c => (s.cls c).valid && (s.cls c).names m

/-! ## Mask sites -/

/-- The state of a mask site on a board, none for a site its class does not list (06 R107). -/
def Board.site (b : Board) (k : Nat) : Option SiteState := (b.sites.find? fun p => decide (p.1 = k)).map (·.2)

/-- The MASK_MISSING condition (06 R109). -/
def Board.masksMissing (b : Board) : Bool := b.sites.any fun p => decide (p.2 = .absent)

/-- Whether a listed site is UNREAD (06 R110). -/
def Board.unread (b : Board) : Bool := b.sites.any fun p => decide (p.2 = .unread)

/-- Whether every listed site is PRESENT (05 R88 condition 5). -/
def Board.masksPresent (b : Board) : Bool := b.sites.all fun p => decide (p.2 = .present)

/-- The mask sites a class lists, 1 to 16, ascending. That a board keeps and BOARD_READ sends them in this order is
DESIGN CHOICE (log 39). -/
def ClassRecord.siteList (r : ClassRecord) : List Nat := r.sites.members.map (· + 1)

/-- Whether the inspection gate of a board is open (06 R118). -/
def State.gateOpen (s : State) (b : Board) : Bool := !(s.cls b.cls).inspect || b.inspectDone

/-! ## Applicators and heads -/

/-- Whether an applicator has an entry in the prime request queue. -/
def State.queued (s : State) (a : Fin 6) : Bool := s.apps.queue.any fun e => decide (e.app = a)

/-- The head operation of an applicator in flight. -/
def State.opOf (s : State) (a : Fin 6) : Option HeadOp :=
  (s.lane (appLane a)).op.bind fun o => if o.app = a then some o else none

/-- Whether an applicator is ready for a stroke with material `m` (03 R57). -/
def State.ready (s : State) (a : Fin 6) (m : Nat) : Bool :=
  decide ((s.unit a).state = .primed) && decide ((s.unit a).material = some m) && !s.queued a

/-- The stroke of a board in flight on its lane, if any. -/
def State.strokeInFlight (s : State) (slot : Nat) (l : Fin 2) : Bool :=
  ((s.lane l).op.bind (·.stroke)).any fun r => decide (r.slot = slot)

/-- Whether the head of a lane is free (05 R96). -/
def State.headFree (s : State) (l : Fin 2) : Bool := (s.lane l).op.isNone

/-- Whether heads are taken and grants made in the line mode (03 R55, R56, 05 R96). -/
def LineMode.headsRun (m : LineMode) : Bool := decide (m ≠ .halted) && decide (m ≠ .initializing)

/-- Whether a spit is in flight on the head of a lane (05 R88 condition 9). -/
def State.spitting (s : State) (l : Fin 2) : Bool := (s.lane l).op.any fun o => decide (o.kind = .spit)

/-- Whether a board of a lane is SPRAYING (03 R52). -/
def State.laneSpraying (s : State) (l : Fin 2) : Bool :=
  s.boards.any fun p => decide (p.2.lane = l) && decide (p.2.life = .spraying)

/-! ## Line -/

/-- Whether a board keeps the drain condition from holding (10 R168). -/
def Board.beforeBuffer (b : Board) : Bool :=
  decide (b.life = .queued) || decide (b.life = .atSpray) || decide (b.life = .spraying)

/-- The drain condition (10 R168). -/
def State.drained (s : State) : Bool := s.boards.all fun p => !p.2.beforeBuffer

/-- Whether shuttle decisions are made in the line mode (07 R127). -/
def LineMode.shuttleRuns (m : LineMode) : Bool := decide (m = .run) || decide (m = .drain) || decide (m = .config)

/-- Whether an applicator request is accepted in the line mode (03 R42). -/
def LineMode.production (m : LineMode) : Bool := decide (m = .config) || decide (m = .run) || decide (m = .drain)

/-! ## Oven -/

/-- Whether an entry of the entry start list counts (07 R129). -/
def State.counts (s : State) (e : EntryStart) : Bool := decide (s.clock < e.time + 1000 * s.line.limits.entryLength)

/-- Whether a zone is STALE. -/
def State.anyStale (s : State) : Bool := allZones.any fun z => (s.zone z).stale

/-- Whether an admission of the slot is in flight (07 R128). -/
def State.admitting (s : State) (slot : Nat) : Bool :=
  s.oven.shuttle.any fun o => decide (o.kind = .admission) && decide (o.slot = slot)

/-- Whether a location is a bay. -/
def Location.isBay : Location → Bool
  | .bay _ => true
  | .laneQueue => false
  | .sprayPos => false
  | .toDivert => false
  | .oven => false

/-- The conditions of OVEN_READY on a board as it stands (07 R126). -/
def State.readyForOven (s : State) (b : Board) : Bool :=
  b.loc.isBay && (b.flashReady.any fun t => decide (t ≤ s.clock)) && s.gateOpen b && !s.blocked b && b.mark.isNone

/-- The shuttle release output: the kind of the operation present, or none while it is inactive (07 7.4). -/
def State.shuttleRelease (s : State) : Option ShuttleKind := s.oven.shuttle.map (·.kind)

/-- The buffer divert gate output (07 7.4). -/
def State.divertGateOpen (s : State) : Bool := s.oven.shuttle.any fun o => decide (o.kind = .divert)

/-- The pending flag of the staged oven settings (07 R133). -/
def State.stagedPending (s : State) : Bool := s.oven.staged.isSome

end Sys2Proof.Machine
end

