-- ==== Sys2Proof/Machine/Lookup.lean ====
section
/-! DEFINITION. Keep-out lookups and the resolution of a stroke (04 R63 to R69, 05 R91). -/

namespace Sys2Proof.Machine

/-! ## Matching (04 R63, R64) -/

/-- A ternary field matches a key that agrees with its value in every bit its care mask selects. -/
def ternary {w : Nat} (value care key : BitVec w) : Bool := (key ^^^ value) &&& care == 0

/-- Whether a side field matches a side. -/
def SideSel.takes (f : SideSel) (d : Side) : Bool :=
  match f, d with
  | .either, _ => true
  | .top, .top => true
  | .top, .bottom => false
  | .bottom, .bottom => true
  | .bottom, .top => false

/-- Whether the class field of an entry matches a class. -/
def KeepOutEntry.takesClass (e : KeepOutEntry) (c : Nat) : Bool := ternary e.clsValue e.clsCare (BitVec.ofNat 6 c)

/-- Whether an entry matches a key (04 R63). -/
def KeepOutEntry.takes (e : KeepOutEntry) (c : Nat) (d : Side) (x y : Nat) : Bool :=
  e.enabled && e.takesClass c && e.side.takes d && ternary e.xValue e.xCare (BitVec.ofNat 10 x) &&
  ternary e.yValue e.yCare (BitVec.ofNat 10 y)

/-- The deciding entry of a key: the matching entry with the highest index (04 R64). Only listed indices can hold an
enabled entry, and the table lists them in rising order. -/
def deciding (c : Nat) (d : Side) (x y : Nat) : Table KeepOutEntry → Option (Nat × KeepOutEntry)
  | [] => none
  | p :: t =>
    match deciding c d x y t with
    | some q => some q
    | none => if p.2.takes c d x y then some p else none

/-- The result of a lookup (04 R64). -/
structure LookupResult where
  decider : Option Nat
  rule : CellRule
  site : Nat
  material : Nat
  deriving DecidableEq, Repr

/-- A lookup of the key (class, side, x, y) (04 R64). -/
def State.lookup (s : State) (c : Nat) (d : Side) (x y : Nat) : LookupResult :=
  match deciding c d x y s.keepOut.entries with
  | some (i, e) => ⟨some i, e.rule, e.site, e.material⟩
  | none => ⟨none, if (s.cls c).keepOut then .keepOut else .coat, 0, 0⟩

/-- Whether a cell is withheld for a finding (06 R115): KEEP_OUT or MASKED. -/
def LookupResult.withheld (r : LookupResult) : Bool := decide (r.rule = .keepOut) || decide (r.rule = .masked)

/-! ## Cells of a stroke (04 R66, R67) -/

/-- A resolved cell: open or closed with its cause, and the deciding index or DEFAULT. -/
structure Cell where
  isOpen : Bool
  cause : CellCause
  decider : Option Nat
  deriving DecidableEq, Repr

/-- The table of R67 for a stroke of material `m` on a board. -/
def LookupResult.cell (r : LookupResult) (b : Board) (m : Nat) : Cell :=
  match r.rule with
  | .coat => ⟨true, .coat, r.decider⟩
  | .keepOut => ⟨false, .keepOut, r.decider⟩
  | .masked =>
    if b.site r.site = some .present then ⟨true, .maskOpen, r.decider⟩ else ⟨false, .maskGated, r.decider⟩
  | .materialOnly => if r.material = m then ⟨true, .materialOpen, r.decider⟩ else ⟨false, .materialGated, r.decider⟩

/-- The positions of a stroke along its axis, in travel order. -/
def Stroke.positions (st : Stroke) : List Nat :=
  if st.start ≤ st.stop then List.range' st.start (st.stop - st.start + 1)
  else (List.range' st.stop (st.start - st.stop + 1)).reverse

/-- The cells of one column of a stroke, with their coordinates (04 R66). -/
def Stroke.column (st : Stroke) (pos : Nat) : List (Nat × Nat) :=
  (List.range st.swath).map fun j =>
    match st.axis with
    | .x => (pos, st.fixed + j)
    | .y => (st.fixed + j, pos)

/-- The resolution of a stroke on a board: every column in travel order with its resolved cells, all at one instant
(04 R67, R68). -/
def State.resolve (s : State) (b : Board) (st : Stroke) : List (Nat × List Cell) :=
  st.positions.map fun p => (p, (st.column p).map fun c => (s.lookup b.cls b.side c.1 c.2).cell b st.material)

/-! ## Columns, runs and hits (05 R91, 04 R69) -/

/-- A column is open when every one of its cells is open. -/
def columnOpen (cells : List Cell) : Bool := cells.all (·.isOpen)

/-- The open runs of columns in travel order; the first argument is the run in progress. -/
def runsFrom : Option (Nat × Nat) → List (Nat × List Cell) → List (Nat × Nat)
  | cur, [] => cur.toList
  | cur, (p, cells) :: rest =>
    if columnOpen cells then
      match cur with
      | none => runsFrom (some (p, p)) rest
      | some r => runsFrom (some (r.1, p)) rest
    else cur.toList ++ runsFrom none rest

/-- The open runs of a resolution. -/
def openRuns (cols : List (Nat × List Cell)) : List (Nat × Nat) := runsFrom none cols

/-- The closed columns of a resolution. -/
def closedColumns (cols : List (Nat × List Cell)) : Nat := cols.countP fun c => !columnOpen c.2

/-- Whether an entry decided a cell of a resolution. -/
def decidedBy (cols : List (Nat × List Cell)) (i : Nat) : Bool :=
  cols.any fun c => c.2.any fun cell => decide (cell.decider = some i)

/-- An entry with one hit more, saturating at 65535, and its sticky hit flag set (04 R69). -/
def KeepOutEntry.hit (e : KeepOutEntry) : KeepOutEntry := { e with hits := min 65535 (e.hits + 1), sticky := true }

/-- Counting the hits of a resolution: once for each entry that decided a cell (04 R69). -/
def State.countHits (cols : List (Nat × List Cell)) (s : State) : State :=
  { s with keepOut := { s.keepOut with
      entries := s.keepOut.entries.map fun p => if decidedBy cols p.1 then (p.1, p.2.hit) else p } }

end Sys2Proof.Machine
end

