-- ==== Sys2Proof/Machine/Raise.lean ====
section
/-! DEFINITION. Raising a hold reason: the routing entry, the sets and the divert mark (01 R7, 09 R155). What the raise
does to the board's life state is in Machine/React.lean. -/

namespace Sys2Proof.Machine

/-- The divert mark after a request for a mark (01 R7): SCRAP replaces REWORK and is never replaced. -/
def newMark (old : Option Mark) (asked : Mark) : Mark :=
  match old with
  | some .scrap => .scrap
  | some .rework => asked
  | none => asked

/-- The board with a divert mark asked for. -/
def Board.withMark (b : Board) (m : Mark) : Board := { b with mark := some (newMark b.mark m) }

/-- A raise of reason `n` on a board, by the table of R155: the sets, the HOLD notice and the divert mark REWORK with its
BOARD notice. `quiet` is set within the ANNOUNCE that creates the board, whose reply carries the mark (01 R7). -/
def State.raiseCore (quiet : Bool) (slot n : Nat) (s : State) : State :=
  match s.board slot with
  | none => s
  | some b =>
    if (s.route n).masked then s.modBoardQuiet slot fun b => { b with pendingSet := b.pendingSet.join n }
    else if (s.route n).action = .divert then
      let f := fun b : Board => { b.withMark .rework with inService := b.inService.join n }
      if quiet then s.modBoardQuiet slot f else s.modBoard slot f
    else if b.pendingSet.has n then s
    else (s.modBoardQuiet slot fun b => { b with pendingSet := b.pendingSet.join n }).post .hold

end Sys2Proof.Machine
end

