-- ==== Sys2Proof/Machine/Shuttle.lean ====
section
/-! DEFINITION. The buffer shuttle: the open deadline held over, withdrawal, and the shuttle decision (07 R124, R126 to
R128, R131, R134). -/

namespace Sys2Proof.Machine

/-! ## OVEN_READY (07 R126) -/

/-- An OVEN_READY board that has ceased to meet a condition returns to FLASHING. -/
def State.leaveReady (slot : Nat) (s : State) : State :=
  match s.board slot with
  | none => s
  | some b =>
    if b.life = .ovenReady ∧ (s.blocked b ∨ b.mark.isSome ∨ !s.gateOpen b) then
      s.modBoard slot fun b => { b with life := .flashing }
    else s

/-- The OVEN_READY test of a FLASHING board. -/
def State.testReady (slot : Nat) (s : State) : State :=
  match s.board slot with
  | none => s
  | some b =>
    if b.life = .flashing ∧ s.readyForOven b then s.modBoard slot fun b => { b with life := .ovenReady } else s

/-! ## Open deadline (07 R124) -/

/-- Whether the open deadline of a board is still to expire: present, not expired, no divert mark, not in the oven. -/
def Board.openRuns (b : Board) : Bool :=
  b.openArmed && b.mark.isNone && (decide (b.life = .flashing) || decide (b.life = .ovenReady))

/-- The expiry of an open deadline: OPEN_TIME is raised, once for the spray-end time. -/
def State.openExpiry (slot : Nat) (s : State) : State :=
  ((s.modBoardQuiet slot fun b => { b with openArmed := false }).raiseCore false slot 7).leaveReady slot

/-- The expiry held over during an admission, taken when the admission ends without entry. -/
def State.heldOver (slot : Nat) (s : State) : State :=
  match s.board slot with
  | none => s
  | some b => if b.openRuns ∧ b.openDeadline.any (fun d => decide (d ≤ s.clock)) then s.openExpiry slot else s

/-! ## Withdrawal and abandonment (07 R131, R134) -/

/-- The shuttle operation record becomes absent: the release is withdrawn and the divert gate closes. -/
def State.clearShuttle (s : State) : State := { s with oven := { s.oven with shuttle := none } }

/-- Withdrawal of the admission in flight, or the expiry of its deadline (07 R131). The shuttle decision that follows is
made at the end of the step (log 18). -/
def State.withdraw (slot : Nat) (s : State) : State := ((s.clearShuttle).post .oven).heldOver slot

/-- HALT and LINE_RESET abandon the shuttle operation (07 R134). -/
def State.abandonShuttle (s : State) : State :=
  match s.oven.shuttle with
  | none => s
  | some o =>
    match o.kind with
    | .admission => s.clearShuttle.heldOver o.slot
    | .divert => s.clearShuttle.modBoard o.slot fun b => { b with loc := .bay o.bay }

/-! ## The shuttle decision (07 R127, R128) -/

/-- The marked FLASHING board in the lowest-numbered bay it occupies. -/
def State.divertChoice (s : State) : Option (Fin 8 × Nat) :=
  allBays.findSome? fun n =>
    match s.bay n with
    | .occupied slot =>
      if (s.board slot).any fun b => decide (b.life = .flashing) && b.mark.isSome then some (n, slot) else none
    | .empty => none
    | .reserved _ => none

/-- The conditions of admission that do not concern the board chosen. -/
def State.admissionOpen (s : State) : Bool :=
  decide (s.oven.occupancy.length < Config.ovenLimit) &&
  decide (s.oven.entryStart.countP s.counts < s.line.limits.entryLimit) && !s.anyStale && !s.stagedPending

/-- An earlier time, where an absent time comes after every present one. -/
def earlier : Option Nat → Option Nat → Bool
  | some a, some b => decide (a < b)
  | some _, none => true
  | none, _ => false

/-- Whether one OVEN_READY board comes before another by the first three keys of R128. `last` is the last-entered
lane. -/
def Board.admittedBefore (last : Fin 2) (a b : Board) : Bool :=
  if a.openDeadline ≠ b.openDeadline then earlier a.openDeadline b.openDeadline
  else if a.sprayEnd ≠ b.sprayEnd then earlier a.sprayEnd b.sprayEnd
  else decide (a.lane ≠ last) && decide (b.lane = last)

/-- The OVEN_READY boards with their bays and slots, in bay order. -/
def State.readyBoards (s : State) : List (Fin 8 × Nat × Board) :=
  allBays.filterMap fun n =>
    match s.bay n with
    | .occupied slot =>
      match s.board slot with
      | some b => if b.life = .ovenReady then some (n, slot, b) else none
      | none => none
    | .empty => none
    | .reserved _ => none

/-- The first of a list by the keys of R128; the list is in bay order, so a tie goes to the lowest bay. -/
def bestReady (last : Fin 2) : List (Fin 8 × Nat × Board) → Option (Fin 8 × Nat × Board)
  | [] => none
  | c :: cs =>
    match bestReady last cs with
    | none => some c
    | some d => if Board.admittedBefore last d.2.2 c.2.2 then some d else some c

/-- The board admitted (07 R128). -/
def State.admitChoice (s : State) : Option (Fin 8 × Nat) :=
  (bestReady s.oven.lastEntered s.readyBoards).map fun c => (c.1, c.2.1)

/-- A shuttle operation made present, released now. -/
def State.startShuttle (k : ShuttleKind) (n : Fin 8) (slot : Nat) (s : State) : State :=
  { s with oven := { s.oven with shuttle := some ⟨k, slot, n, s.clock, s.clock + Config.shuttleDeadline⟩ } }

/-- The shuttle decision: a divert before any admission (07 R127). -/
def State.decideShuttle (s : State) : State :=
  if s.oven.shuttle.isSome ∨ !s.line.mode.shuttleRuns then s
  else
    match s.divertChoice with
    | some (n, slot) => (s.startShuttle .divert n slot).modBoard slot fun b => { b with loc := .toDivert }
    | none =>
      if s.admissionOpen then
        match s.admitChoice with
        | some (n, slot) => s.startShuttle .admission n slot
        | none => s
      else s

end Sys2Proof.Machine
end

