-- ==== Sys2Proof/Machine/Heads.lean ====
section
/-! DEFINITION. The heads: the applicator manager's operations, waits, grants and steps (chapter 3), the path engine's
start, stroke loop, terminal count and abandonment (chapter 5), and the order in which a free head takes work
(03 R56, 05 R96). -/

namespace Sys2Proof.Machine

/-! ## Applicator records (03 R39 to R41, R47, R49) -/

/-- FOULED as R41 defines it, with a cause. Parked-wet and the cap time stand, as R61 has it of LINE_RESET; that they stand
at HALT too is the model's reading (DESIGN CHOICE, log 43). -/
def Applicator.foul (c : FoulCause) (r : Applicator) : Applicator :=
  { r with state := .fouled, debt := 0, keepWet := none, foulCause := some c }

/-- Parked-wet clear and the cap time absent (03 R38). -/
def Applicator.unparked (r : Applicator) : Applicator := { r with parkedWet := false, capTime := none }

/-- An operation that fouls its applicator by a HEAD_FAULT or its deadline (03 R41): an uncap ends parked-wet and the cap
time. -/
def Applicator.failed (k : OpKind) (c : FoulCause) (r : Applicator) : Applicator :=
  if k = .uncap then r.unparked.foul c else r.foul c

/-- The next keep-wet expiry of a timer started now for the material held (03 R49). -/
def State.timerFrom (s : State) (r : Applicator) : Option Nat :=
  r.material.map fun m => s.clock + 1000 * (s.mat m).keepWetS

/-- PRIMED with the keep-wet timer started (03 R41). -/
def State.wetted (s : State) (r : Applicator) : Applicator :=
  { r with state := .primed, keepWet := s.timerFrom r }

/-- An uncap that ends with HEAD_DONE (03 R47). -/
def State.uncapped (s : State) (r : Applicator) : Applicator :=
  match r.material with
  | none => { r.unparked with state := .idleDry }
  | some m =>
    if s.clock - r.capTime.getD s.clock ≤ (s.mat m).capMaxMin * 60000 then s.wetted r.unparked
    else r.unparked.foul .capExpired

/-- An operation that ends with HEAD_DONE (03 R41). A purge ends a parked-wet that a HALT or a LINE_RESET left, with its cap
time, since no material is left (DESIGN CHOICE, log 43). -/
def State.doneUnit (s : State) (k : OpKind) (r : Applicator) : Applicator :=
  match k with
  | .prime => { s.wetted r with debt := 0 }
  | .purge => { r.unparked with state := .idleDry, material := none, debt := 0, keepWet := none, foulCause := none }
  | .spit => { r with state := .primed, debt := r.debt - 1 }
  | .cap =>
    if r.material.isSome then { r with state := .parked, parkedWet := true, capTime := some s.clock }
    else { r.unparked with state := .parked }
  | .uncap => s.uncapped r
  | .stroke => { s.wetted r with debt := 0 }

/-- The table of R41: an applicator that fouled while its stroke or spit was in flight stays FOULED. -/
def State.endUnit (s : State) (k : OpKind) (e : OpEnd) (r : Applicator) : Applicator :=
  if r.state = .fouled then r
  else
    match e with
    | .done => s.doneUnit k r
    | .fault f => if k = .stroke ∧ f ≠ .clog then { r with state := .primed } else r.failed k (.fault f)
    | .deadline => if k = .stroke then { r with state := .primed } else r.failed k .deadline

/-! ## The prime request queue and waiting commands (03 R40, R54) -/

/-- Appending an entry to the prime request queue. -/
def State.enqueue (e : PrimeEntry) (s : State) : State := { s with apps := { s.apps with queue := s.apps.queue ++ [e] } }

/-- The automatic purge of a last-use stroke, unless an entry is already queued (03 R41, R54). -/
def State.autoPurge (a : Fin 6) (s : State) : State :=
  if s.queued a then s else s.enqueue ⟨a, .purge, (s.unit a).material, .automatic⟩

/-- A cap or uncap accepted: the state and the waiting command (03 R40, R45, R46); a cap stops the keep-wet timer. -/
def Applicator.awaiting (k : WaitKind) (o : Origin) (time order : Nat) (r : Applicator) : Applicator :=
  match k with
  | .cap => { r with state := .capping, keepWet := none, waiting := some ⟨.cap, o, time, order⟩ }
  | .uncap => { r with state := .uncapping, waiting := some ⟨.uncap, o, time, order⟩ }

/-- Giving the next acceptance number. -/
def State.nextOrder (s : State) : State := { s with apps := { s.apps with accepted := s.apps.accepted + 1 } }

/-! ## Sending (05 R96, 03 R40) -/

/-- The op id after another: 1 after 255. -/
def opAfter (n : Nat) : Nat := if n = 255 then 1 else n + 1

/-- An operation sent on a lane's head link with the lane's next op id. Its deadline begins when the command's last byte
has been sent (11 R179). -/
def State.sendOp (l : Fin 2) (k : OpKind) (a : Fin 6) (span : Nat) (st : Option StrokeRef) (c : HeadCommand)
    (s : State) : State :=
  s.modLane l fun r =>
    { r with op := some ⟨r.nextOp, k, a, span, none, st⟩, nextOp := opAfter r.nextOp, command := some (r.nextOp, c) }

/-- The earliest accepted waiting command of a lane among those `p` picks. -/
def State.firstWaiting (s : State) (l : Fin 2) (p : WaitCommand → Bool) : Option (Fin 6) :=
  let waits := (laneApps l).filterMap fun a => (s.unit a).waiting.bind fun w => if p w then some (a, w.order) else none
  (waits.foldl (fun best c =>
    match best with
    | none => some c
    | some d => if c.2 < d.2 then some c else some d) none).map (·.1)

/-- The waiting cap or uncap of an applicator sent (03 R40, R56). It posts no APPLICATOR notice, since nothing that R39 lists
changes (DESIGN CHOICE, log 48). -/
def State.sendWaiting (l : Fin 2) (a : Fin 6) (s : State) : State :=
  match (s.unit a).waiting with
  | none => s
  | some w =>
    let s := s.modUnit a fun r => { r with waiting := none }
    match w.kind with
    | .cap => s.sendOp l .cap a Config.capDeadline none (.cap a)
    | .uncap => s.sendOp l .uncap a Config.capDeadline none (.uncap a)

/-- A spit sent (03 R40). -/
def State.sendSpit (l : Fin 2) (a : Fin 6) (s : State) : State :=
  (s.modUnit a fun r => { r with state := .spitting }).sendOp l .spit a Config.spitDeadline none (.spit a)

/-! ## Grants (03 R55) -/

/-- A waiting command of origin line computer. -/
def WaitCommand.ofLine (w : WaitCommand) : Bool := decide (w.origin = .lineComputer)

/-- A waiting uncap of origin automatic. -/
def WaitCommand.autoUncap (w : WaitCommand) : Bool := decide (w.origin = .automatic) && decide (w.kind = .uncap)

/-- Whether a lane is ready for a grant. -/
def State.grantReady (s : State) (l : Fin 2) : Bool := s.headFree l && (s.firstWaiting l WaitCommand.ofLine).isNone

/-- A prime or purge granted: it leaves the queue, its time joins the start list, and its command is sent. -/
def State.grant (e : PrimeEntry) (s : State) : State :=
  let s := { s with apps := { s.apps with queue := s.apps.queue.erase e, startList := s.apps.startList ++ [s.clock] } }
  match e.kind with
  | .prime =>
    let m := e.material.getD 0
    (s.modUnit e.app fun r => { r with state := .priming, material := some m, keepWet := none }).sendOp (appLane e.app)
      .prime e.app ((s.mat m).primeMs + Config.primeMargin) none (.prime e.app m (s.mat m).primeMs)
  | .purge =>
    let s' := s.modUnit e.app fun r => { r with state := .purging, keepWet := none }
    match (s.unit e.app).material with
    | some m =>
      s'.sendOp (appLane e.app) .purge e.app ((s.mat m).purgeMs + Config.primeMargin) none
        (.purge e.app (s.mat m).purgeMs)
    | none =>
      s'.sendOp (appLane e.app) .purge e.app Config.dryPurgeDeadline none (.purge e.app Config.dryPurgeTime)

/-- Grants while the start list holds fewer entries than the limit; the first argument bounds their number. -/
def State.grants : Nat → State → State
  | 0, s => s
  | n + 1, s =>
    if s.apps.startList.length < s.line.limits.windowLimit then
      match s.apps.queue.find? fun e => s.grantReady (appLane e.app) with
      | some e => (s.grant e).grants n
      | none => s
    else s

/-- A grant decision. No grant is made in HALTED or INITIALIZING. -/
def State.grantDecision (s : State) : State := if s.line.mode.headsRun then s.grants s.apps.queue.length else s

/-! ## Automatic steps (03 R57) -/

/-- The step of R57 for an applicator whose need stands. -/
def State.autoStep (a : Fin 6) (s : State) : State :=
  match (s.unit a).need with
  | none => s
  | some m =>
    if s.queued a then s
    else
      match (s.unit a).state with
      | .parked =>
        (s.modUnit a fun r => r.awaiting .uncap .automatic s.clock s.apps.accepted).nextOrder
      | .primed =>
        if (s.unit a).material = some m then s else s.enqueue ⟨a, .purge, (s.unit a).material, .automatic⟩
      | .fouled => if (s.opOf a).isSome then s else s.enqueue ⟨a, .purge, (s.unit a).material, .automatic⟩
      | .idleDry => s.enqueue ⟨a, .prime, some m, .automatic⟩
      | .priming => s
      | .purging => s
      | .spitting => s
      | .spraying => s
      | .capping => s
      | .uncapping => s

/-! ## The lane (05 R86) -/

/-- The current stroke of a lane. -/
def State.currentStroke (s : State) (l : Fin 2) : Stroke := (s.lane l).stroke (s.lane l).arming.current

/-- The need of the current stroke's applicator set to absent (05 R99, R101). -/
def State.clearNeed (l : Fin 2) (s : State) : State :=
  s.modUnit (s.currentStroke l).applicator fun r => { r with need := none }

/-- The lane STOPPED (05 R99). -/
def State.stopLane (l : Fin 2) (s : State) : State := (s.clearNeed l).setStatus l .stopped

/-- The lane stops waiting: a need stands only on the applicator that a waiting lane waits for (03 R57, 05 R90). A lane
that does not wait leaves every need as it is. -/
def State.stopWaiting (l : Fin 2) (s : State) : State :=
  if (s.lane l).status = .waitApplicator then s.clearNeed l else s

/-- The lane as its mode has it at terminal count and at abandonment (05 R95, R100). -/
def State.laneOver (l : Fin 2) (s : State) : State :=
  let s := s.stopWaiting l
  match (s.lane l).arming.mode with
  | .once => (s.setStatus l .idle).modLane l fun r => { r with arming := clearedArming }
  | .chain =>
    (s.setStatus l .armed).modLane l fun r =>
      { r with arming := { r.arming with current := r.arming.first, remaining := r.arming.count } }

/-! ## Spray end (05 R95, R100, 07 R123) -/

/-- The largest of a list, 0 for none. -/
def largest (xs : List Nat) : Nat := xs.foldl max 0

/-- The smallest of a list, absent for none. -/
def smallest : List Nat → Option Nat
  | [] => none
  | x :: xs => some (xs.foldl min x)

/-- The flash-ready time and the open deadline at the spray end of an unmarked board (07 R123). -/
def State.sprayTimes (s : State) (b : Board) : Board :=
  if b.mark.isSome then b
  else
    let used := b.used.members
    let opens := (smallest (used.map fun m => (s.mat m).openMaxS)).map fun o => s.clock + 1000 * o
    { b with
      flashReady := some (s.clock + 1000 * largest (used.map fun m => (s.mat m).flashMinS))
      openDeadline := opens
      flashArmed := true
      openArmed := opens.isSome }

/-- A board that becomes FLASHING at SPRAY_POS: a bay is asked for (01 R14). -/
def State.toFlashing (slot : Nat) (f : Board → Board) (s : State) : State :=
  (s.modBoard slot fun b => { f b with life := .flashing }).requestBay slot

/-- Terminal count (05 R95). -/
def State.terminal (l : Fin 2) (slot : Nat) (s : State) : State :=
  (s.toFlashing slot fun b => s.sprayTimes { b with sprayEnd := some s.clock }).laneOver l

/-- The part of an abandonment that concerns the board (05 R100, R101): INTERRUPTED set, disarmed clear, FLASHING with
its mark, spray end now. -/
def State.abandonBoard (slot : Nat) (s : State) : State :=
  s.toFlashing slot fun b => { b with interrupted := true, disarmed := false, sprayEnd := some s.clock }

/-- Abandonment of a board's spraying (05 R100). -/
def State.abandon (l : Fin 2) (slot : Nat) (s : State) : State := (s.abandonBoard slot).laneOver l

/-- What the path engine does with a SPRAYING board after a raise or a stroke's end: a marked board is abandoned, a
blocked one stops the lane, another goes on as `k` says (05 R91, R92, R94, R98). -/
def State.judge (l : Fin 2) (slot : Nat) (k : State → State) (s : State) : State :=
  match s.board slot with
  | none => s
  | some b => if b.mark.isSome then s.abandon l slot else if s.blocked b then s.stopLane l else k s

/-! ## Starting a board (05 R88, R89) -/

/-- The first condition of R88 that fails after the first, for a board at the spray position. -/
def State.withhold (s : State) (l : Fin 2) (b : Board) : Option Withhold :=
  if s.line.mode ≠ .run then some .mode
  else if (s.lane l).status ≠ .armed then some .notArmed
  else if (s.lane l).arming.cls ≠ some b.cls then some .classMismatch
  else if !b.masksPresent then some .masks
  else if s.blocked b then some .blocked
  else if b.mark.isSome then some .marked
  else if s.keepOut.edit.any (fun e => e.affected.has (b.cls - 1)) then some .edit
  else if s.spitting l then some .spit
  else none

/-- The start of a board (05 R89). -/
def State.startBoard (l : Fin 2) (slot : Nat) (s : State) : State :=
  ((s.modBoard slot fun b => { b with life := .spraying, strokesDone := 0, gated := 0 }).setStatus l .running).modLane l
    fun r => { r with arming := { r.arming with current := r.arming.first, remaining := r.arming.count } }

/-- The start test of R88 for the board at a lane's spray position. -/
def State.startTest (l : Fin 2) (s : State) : State :=
  match s.sprayBoard l with
  | none => s
  | some (slot, b) =>
    if b.life = .atSpray then
      match s.withhold l b with
      | none => s.startBoard l slot
      | some .classMismatch => s.post (.lane l)
      | some .mode => s
      | some .notArmed => s
      | some .masks => s
      | some .blocked => s
      | some .marked => s
      | some .edit => s
      | some .spit => s
    else s

/-- A disarmed board leaves SPRAYING when no stroke of it is in flight and it is marked or not blocked (05 R101). -/
def State.departDisarmed (slot : Nat) (s : State) : State :=
  match s.board slot with
  | none => s
  | some b =>
    if b.life = .spraying ∧ b.disarmed = true ∧ !s.strokeInFlight slot b.lane then
      if b.mark.isSome then s.abandonBoard slot
      else if s.blocked b then s
      else (s.modBoard slot fun b => { b with life := .atSpray, disarmed := false }).startTest b.lane
    else s

/-! ## The stroke loop (05 R90 to R94) -/

/-- A stroke passed over, skipped or done: the current index rises by 1 and the remaining count falls by 1. -/
def State.advance (l : Fin 2) (s : State) : State :=
  s.modLane l fun r =>
    { r with arming := { r.arming with current := r.arming.current + 1, remaining := r.arming.remaining - 1 } }

/-- After an advance: terminal count, or `k`. -/
def State.afterAdvance (l : Fin 2) (slot : Nat) (k : State → State) (s : State) : State :=
  if (s.lane l).arming.remaining = 0 then s.terminal l slot else k s

/-- The automatic purge of a last-use stroke that is skipped or passed over. -/
def State.lastUse (st : Stroke) (s : State) : State := if st.lastUse then s.autoPurge st.applicator else s

/-- A FRAGMENTED resolution (05 R91). -/
def State.fragmented (l : Fin 2) (slot : Nat) (st : Stroke) (s : State) : State :=
  (s.raiseCore false slot 4).judge l slot fun s => ((s.lastUse st).advance l).afterAdvance l slot id

/-- A stroke with no open run is skipped (05 R93, R94). -/
def State.skipStroke (l : Fin 2) (slot : Nat) (st : Stroke) (cols : List (Nat × List Cell)) (s : State) : State :=
  ((((s.countHits cols).modBoardQuiet slot fun b => { b with strokesDone := b.strokesDone + 1 }).lastUse st).advance
    l).afterAdvance l slot fun s => s.judge l slot id

/-- A stroke with an open run is sent (05 R93). -/
def State.sendStroke (l : Fin 2) (slot : Nat) (b : Board) (st : Stroke) (cols : List (Nat × List Cell))
    (s : State) : State :=
  let cap := (s.cls b.cls).flowCap
  let s1 := (s.countHits cols).modBoardQuiet slot fun b => { b with flowClamped := b.flowClamped || decide (cap < st.flow) }
  (s1.modUnit st.applicator fun r => { r with need := none, state := .spraying }).sendOp l .stroke st.applicator
    (s.cls b.cls).timeout (some ⟨slot, (s.lane l).arming.current, false, st.material, st.lastUse⟩)
    (.stroke st.applicator st.material st.axis st.fixed st.start st.stop st.swath (min st.flow cap) (openRuns cols))

/-- The gated-column total after a resolution, and GATE_LIMIT where it first exceeds the class gate limit (05 R92). -/
def State.addGated (slot : Nat) (b : Board) (closed : Nat) (s : State) : State :=
  let total := min 65535 (b.gated + closed)
  let limit := (s.cls b.cls).gateLimit
  let s := s.modBoardQuiet slot fun b => { b with gated := total }
  if b.gated ≤ limit ∧ limit < total then s.raiseCore false slot 3 else s

/-- A ready stroke resolved (05 R91, R92). -/
def State.resolveStroke (l : Fin 2) (slot : Nat) (b : Board) (st : Stroke) (s : State) : State :=
  let cols := s.resolve b st
  if Config.runLimit < (openRuns cols).length then s.fragmented l slot st
  else
    (s.addGated slot b (closedColumns cols)).judge l slot fun s =>
      if (openRuns cols).length = 0 then s.skipStroke l slot st cols else s.sendStroke l slot b st cols

/-- The lane waits for its applicator; with AUTO_MATERIAL on the need is set and the first step taken (05 R90). -/
def State.awaitApp (l : Fin 2) (st : Stroke) (s : State) : State :=
  let s := s.setStatus l .waitApplicator
  if (s.lane l).arming.auto then
    (s.modUnit st.applicator fun r => { r with need := some st.material }).autoStep st.applicator
  else s

/-- The head takes the current stroke of a RUNNING lane (05 R90). -/
def State.takeStroke (l : Fin 2) (s : State) : State :=
  match s.sprayBoard l with
  | none => s
  | some (slot, b) =>
    let st := s.currentStroke l
    if s.ready st.applicator st.material then s.resolveStroke l slot b st else s.awaitApp l st

/-! ## The ends of a stroke (05 R94, R98, R101) -/

/-- A stroke of a board that is not detached ends with HEAD_DONE (05 R94). -/
def State.strokeDone (l : Fin 2) (r : StrokeRef) (s : State) : State :=
  ((s.modBoardQuiet r.slot fun b => { b with strokesDone := b.strokesDone + 1, used := b.used.join r.material }).advance
    l).afterAdvance l r.slot fun s => s.judge l r.slot id

/-- A stroke fault or deadline recorded, with its LANE notice (05 R98, R103). -/
def State.recordFault (l : Fin 2) (k : Option FaultKind) (index : Nat) (s : State) : State :=
  (s.modLane l fun r => { r with lastFault := some ⟨k, index, s.clock⟩ }).post (.lane l)

/-- A stroke that ends with a fault or at its deadline (05 R98). -/
def State.strokeFailed (l : Fin 2) (r : StrokeRef) (k : Option FaultKind) (s : State) : State :=
  ((s.recordFault l k r.index).raiseCore false r.slot 5).judge l r.slot id

/-- The fault kind of an end that is no HEAD_DONE; DEADLINE is absent. -/
def OpEnd.faultKind : OpEnd → Option FaultKind
  | .done => none
  | .fault k => some k
  | .deadline => none

/-- A detached stroke ends: HEAD_DONE adds its material and nothing else, another end is recorded, and the board leaves
SPRAYING where it may (05 R101). -/
def State.detachedEnd (l : Fin 2) (r : StrokeRef) (e : OpEnd) (s : State) : State :=
  (if e = .done then s.modBoardQuiet r.slot fun b => { b with used := b.used.join r.material }
    else s.recordFault l e.faultKind r.index).departDisarmed r.slot

/-- What the end of a stroke does at the path engine. -/
def State.strokeEnd (l : Fin 2) (r : StrokeRef) (e : OpEnd) (s : State) : State :=
  if r.detached then s.detachedEnd l r e
  else if e = .done then s.strokeDone l r
  else s.strokeFailed l r e.faultKind

/-- The end of a head operation: the head is free, the applicator changes by R41 with the automatic purge of a completed
last-use stroke, and the path engine acts on a stroke (R94, R98, R101) or makes the start test after a spit (R88). A start test
goes before the freed head takes its next operation, perhaps another spit, at the end of the step (DESIGN CHOICE, log 45). -/
def State.opEnd (l : Fin 2) (o : HeadOp) (e : OpEnd) (s : State) : State :=
  let s1 := s.modLane l fun r => { r with op := none }
  let s2 := s1.modUnit o.app (s1.endUnit o.kind e)
  match o.stroke with
  | none => if o.kind = .spit then s2.startTest l else s2
  | some r => (if e = .done ∧ r.lastUse = true then s2.autoPurge o.app else s2).strokeEnd l r e

/-! ## The order of a free head (03 R52, R56, 05 R96) -/

/-- The applicator of a lane that spits next: the highest debt, and among equal debts the lowest id (03 R52). -/
def State.spitChoice (s : State) (l : Fin 2) : Option (Fin 6) :=
  if s.laneSpraying l then none
  else
    ((laneApps l).foldl (fun best a =>
      if (s.unit a).state = .primed ∧ 0 < (s.unit a).debt then
        match best with
        | none => some a
        | some c => if (s.unit c).debt < (s.unit a).debt then some a else some c
      else best) none)

/-- A waiting lane looks at its applicator: ready, it returns to RUNNING and the need ends; not ready, the next automatic
step is taken (05 R90, 03 R57). -/
def State.wake (l : Fin 2) (s : State) : State :=
  if (s.lane l).status = .waitApplicator then
    let st := s.currentStroke l
    if s.ready st.applicator st.material then (s.clearNeed l).setStatus l .running
    else s.autoStep st.applicator
  else s

/-- The head of a lane takes work in the order of R56 until it is busy or nothing is ready; the first argument bounds
the takes. -/
def State.serve : Nat → Fin 2 → State → State
  | 0, _, s => s
  | n + 1, l, s =>
    let s := s.wake l
    if !s.line.mode.headsRun || !s.headFree l then s
    else
      match s.firstWaiting l WaitCommand.ofLine with
      | some a => s.sendWaiting l a
      | none =>
        let s := s.grantDecision
        if !s.headFree l then s
        else
          match s.firstWaiting l WaitCommand.autoUncap with
          | some a => s.sendWaiting l a
          | none =>
            if (s.lane l).status = .running then (s.takeStroke l).serve n l
            else
              match s.spitChoice l with
              | some a => s.sendSpit l a
              | none => s

/-- Takes of one lane in one step: each take of a stroke that sends nothing lowers the remaining count, stops the lane or
makes it wait. -/
def State.serveLane (l : Fin 2) (s : State) : State := s.serve ((s.lane l).arming.remaining + 4) l

end Sys2Proof.Machine
end

