-- ==== Sys2Proof/Machine/React.lean ====
section
/-! DEFINITION. What a change of a board's blocked state or divert mark does (01 R7, 05 R99, R101, 07 R126, R131,
09 R158), raises with their effect, retirement, and what closes every step: the heads, the drain and the shuttle. -/

namespace Sys2Proof.Machine

/-! ## Changes of the blocked state and the mark (09 R158) -/

/-- What a mark does to an AT_SPRAY board: it is FLASHING, its mask wait ends and its bay is asked for (01 R7, R14, 06
R111). -/
def State.markedAtSpray (slot : Nat) (s : State) : State := s.toFlashing slot fun b => { b with maskWait := none }

/-- An AT_SPRAY board: a mark makes it FLASHING (01 R7); the end of a block makes the start test again (05 R88). -/
def State.reactAtSpray (slot : Nat) (b : Board) (was : Bool) (s : State) : State :=
  if b.mark.isSome then s.markedAtSpray slot
  else if was && !s.blocked b then s.startTest b.lane
  else s

/-- A SPRAYING board with no stroke of it in flight (05 R99, R101). -/
def State.reactSpraying (slot : Nat) (b : Board) (s : State) : State :=
  if s.strokeInFlight slot b.lane then s
  else if b.disarmed then s.departDisarmed slot
  else if b.mark.isSome then s.abandon b.lane slot
  else if s.blocked b then
    if (s.lane b.lane).status = .running ∨ (s.lane b.lane).status = .waitApplicator then s.stopLane b.lane else s
  else if (s.lane b.lane).status = .stopped then s.setStatus b.lane .running
  else s

/-- A FLASHING or OVEN_READY board: it leaves OVEN_READY, with its admission withdrawn, or is tested for it
(07 R126, R131). -/
def State.reactBuffered (slot : Nat) (was : Bool) (s : State) : State :=
  let s1 := s.leaveReady slot
  let s2 := if s.admitting slot && !(s1.board slot).any (fun b => decide (b.life = .ovenReady)) then s1.withdraw slot else s1
  if was && !s2.blockedAt slot then s2.testReady slot else s2

/-- The change reported for the board of a slot; `was` says whether it was blocked before. -/
def State.react (slot : Nat) (was : Bool) (s : State) : State :=
  match s.board slot with
  | none => s
  | some b =>
    match b.life with
    | .queued => s
    | .atSpray => s.reactAtSpray slot b was
    | .spraying => s.reactSpraying slot b
    | .flashing => s.reactBuffered slot was
    | .ovenReady => s.reactBuffered slot was
    | .inOven => s

/-- A raise of reason `n` on the board of a slot, with its effect on the board (09 R155). -/
def State.raise (n slot : Nat) (s : State) : State := (s.raiseCore false slot n).react slot (s.blockedAt slot)

/-! ## Retirement (01 R16) -/

/-- Retiring the board of a slot with a disposition. `quiet` leaves out the BOARD notice (RETIRE). -/
def State.retire (quiet : Bool) (slot : Nat) (d : Disposition) (s : State) : State :=
  match s.board slot with
  | none => s
  | some b =>
    let s1 := s.appendHistory b.tag b.cls b.pass d (b.pendingSet ||| b.inService) s.clock
    let s2 := s1.setQueue b.lane ((s1.queueOf b.lane).filter fun k => k != slot)
    let s3 := ((s2.freeBayOf slot).lowerUse b.cls).setBoard slot none
    if quiet then s3 else s3.post (.board slot)

/-! ## The end of a step -/

/-- Whether a board has left the states before the buffer between two states of the line (10 R168). -/
def leftBeforeBuffer (s0 s1 : State) : Bool :=
  s0.boards.any fun p => p.2.beforeBuffer && !(s1.board p.1).any Board.beforeBuffer

/-- The end of a drain by its condition, tested at the reports of R168. -/
def State.drainEnd (s s0 : State) : State :=
  if s.line.mode = .drain ∧ leftBeforeBuffer s0 s ∧ s.drained then (s.setMode .config .drainEnd).post .line else s

/-- Whether a FLASHING board of a slot carries a mark in the bay it occupies. -/
def State.markedInBay (s : State) (slot : Nat) : Bool :=
  (s.board slot).any fun b => b.mark.isSome && b.loc.isBay

/-- Whether the board of a slot is OVEN_READY. -/
def State.readyAt (s : State) (slot : Nat) : Bool := (s.board slot).any fun b => decide (b.life = .ovenReady)

/-- Whether a shuttle decision is prompted between two states (07 R127): the shuttle became free, a board became
OVEN_READY, a marked board came to stand in a bay, or the line mode changed. -/
def shuttlePrompt (s0 s : State) : Bool :=
  (s0.oven.shuttle.isSome && s.oven.shuttle.isNone) || decide (s0.line.mode ≠ s.line.mode) ||
  (List.range Config.slots).any fun k =>
    (s.readyAt k && !s0.readyAt k) || (s.markedInBay k && !s0.markedInBay k)

/-- The end of a step that began in `s0`: free heads take work, a drain may end, and a prompted shuttle decision is made
(log 18, log 19). `prompt` is set by an event that prompts the decision by itself. -/
def State.settle (prompt : Bool) (s s0 : State) : State :=
  let s1 := (s.serveLane 0).serveLane 1
  let s2 := s1.drainEnd s0
  if prompt || shuttlePrompt s0 s2 then s2.decideShuttle else s2

end Sys2Proof.Machine
end

