-- ==== Sys2Proof/Machine/Path.lean ====
section
/-! DEFINITION. The path engine's requests and the head links' events (chapter 5). -/

namespace Sys2Proof.Machine

/-! ## The stroke buffer (05 R84, R85) -/

/-- Whether an index lies in the armed range of a lane. -/
def Lane.inArmed (r : Lane) (i : Nat) : Bool :=
  r.status.armedState && decide (r.arming.first ≤ i) && decide (i < r.arming.first + r.arming.count)

/-- The stroke buffer with records written from an index on. -/
def writeStrokes : Nat → List Stroke → Table Stroke → Table Stroke
  | _, [], t => t
  | i, r :: rs, t => writeStrokes (i + 1) rs (Table.write (fun _ => resetStroke) i r t)

/-- STROKE_LOAD. -/
def execStrokeLoad (t : Byte) (lane first : Nat) (records : List StrokeFields) (s : State) :
    Host.Outcome State Fault Refusal :=
  s.request (.strokeLoad t lane first records) fun h s => s.unlessInit h 0x20 fun s =>
    match laneOf lane, readStrokes records with
    | some l, some rs =>
      if within 1 16 rs.length && decide (first + rs.length ≤ Config.strokeRecords) then
        if (List.range' first rs.length).any (s.lane l).inArmed then s.refuse h 0x20 .strokesInUse
        else
          (s.modLane l fun r => { r with strokes := writeStrokes first rs r.strokes }).answer h 0x20 .ok
            (.strokeLoad lane first rs.length)
      else s.refuse h 0x20 .outOfRange
    | _, _ => s.refuse h 0x20 .outOfRange

/-- STROKE_READ. -/
def execStrokeRead (t : Byte) (lane first count : Nat) (s : State) : Host.Outcome State Fault Refusal :=
  s.request (.strokeRead t lane first count) fun h s => s.unlessInit h 0x21 fun s =>
    match laneOf lane with
    | none => s.refuse h 0x21 .outOfRange
    | some l =>
      if within 1 16 count && decide (first + count ≤ Config.strokeRecords) then
        s.answer h 0x21 .ok (.strokeRead ((List.range' first count).map (s.lane l).stroke))
      else s.refuse h 0x21 .outOfRange

/-! ## ARM_LANE (05 R87) -/

/-- The first check of R87 that a stroke fails. -/
def Stroke.failing (st : Stroke) (l : Fin 2) (c : ClassRecord) : Option StrokeCheck :=
  if appLane st.applicator ≠ l then some .lane
  else if !c.names st.material then some .material
  else if !(appKind st.applicator).allows st.swath then some .swathKind
  else if 1024 < st.fixed + st.swath then some .swathGrid
  else none

/-- The first stroke of a range that fails, with its check. -/
def State.rangeFault (s : State) (l : Fin 2) (c : ClassRecord) (first count : Nat) : Option (Nat × StrokeCheck) :=
  (List.range' first count).findSome? fun i => (((s.lane l).stroke i).failing l c).map fun k => (i, k)

/-- ARM_LANE. The AUTO_MATERIAL option is a flag, off 0 and on 1 (DESIGN CHOICE, log 42). -/
def execArmLane (t : Byte) (lane c first count chain auto : Nat) (s : State) : Host.Outcome State Fault Refusal :=
  s.request (.armLane t lane c first count chain auto) fun h s =>
    if !s.line.mode.production then s.refuse h 0x22 .wrongMode
    else
      match laneOf lane, armModeOf chain, flagOf auto with
      | some l, some m, some a =>
        if !(classOk c && decide (first < 512) && within 1 512 count && decide (first + count ≤ 512)) then
          s.refuse h 0x22 .outOfRange
        else if (s.lane l).status ≠ .idle then s.refuse h 0x22 .wrongState
        else if !(s.cls c).valid then s.refuse h 0x22 .notFound
        else
          match s.rangeFault l (s.cls c) first count with
          | some (i, k) => s.answer h 0x22 .strokeInvalid (.strokeInvalid i k)
          | none =>
            let arm : Arming := ⟨some c, first, count, m, first, count, a⟩
            (((s.modLane l fun r => { r with status := .armed, arming := arm }).answer h 0x22 .ok
              (.armed lane arm)).startTest l).settle false s
      | _, _, _ => s.refuse h 0x22 .outOfRange

/-! ## DISARM (05 R101) -/

/-- The board at the spray position becomes a disarmed board, its stroke in flight detached; with none in flight the
raise itself lets it leave SPRAYING where it may. -/
def State.disarmBoard (l : Fin 2) (s : State) : State :=
  match s.sprayBoard l with
  | none => s
  | some (slot, b) =>
    if b.life = .spraying then
      let s1 := s.modLane l fun r =>
        { r with op := r.op.map fun o => { o with stroke := o.stroke.map fun x => { x with detached := true } } }
      (s1.modBoardQuiet slot fun b => { b with disarmed := true, interrupted := true }).raise 6 slot
    else s

/-- The lane IDLE with its arming cleared; the change is reported by the reply (05 R103). -/
def State.clearArming (l : Fin 2) (s : State) : State :=
  s.modLane l fun r => { r with status := .idle, arming := clearedArming }

/-- What DISARM does in each lane state. -/
def State.disarm (l : Fin 2) (s : State) : State :=
  match (s.lane l).status with
  | .idle => s
  | .armed => s.clearArming l
  | .running => ((s.clearNeed l).clearArming l).disarmBoard l
  | .waitApplicator => ((s.clearNeed l).clearArming l).disarmBoard l
  | .stopped => ((s.clearNeed l).clearArming l).disarmBoard l

/-- DISARM. -/
def execDisarm (t : Byte) (lane : Nat) (s : State) : Host.Outcome State Fault Refusal :=
  s.request (.disarm t lane) fun h s => s.unlessInit h 0x23 fun s =>
    match laneOf lane with
    | none => s.refuse h 0x23 .outOfRange
    | some l => ((s.disarm l).answer h 0x23 .ok (.disarmed lane (s.lane l).status)).settle false s

/-! ## LANE_STATUS (05 R102) -/

/-- The deadline shown for a head operation; before its command has been sent no rule fixes it (log 14). -/
def State.shownDeadline (s : State) (o : HeadOp) : BitVec 32 :=
  match o.deadline with
  | some d => BitVec.ofNat 32 d
  | none => Config.unstartedDeadline o.opId s.clock

/-- What LANE_STATUS reads. -/
def State.laneView (s : State) (l : Fin 2) : LaneView where
  lane := s.lane l
  board := s.sprayBoard l
  withhold := (s.sprayBoard l).bind fun p => if p.2.life = .atSpray then s.withhold l p.2 else none
  shownDeadline := (s.lane l).op.elim 0#32 s.shownDeadline

/-- LANE_STATUS: clear option NONE 0, LATE 1. -/
def execLaneStatus (t : Byte) (lane clear : Nat) (s : State) : Host.Outcome State Fault Refusal :=
  s.request (.laneStatus t lane clear) fun h s => s.unlessInit h 0x24 fun s =>
    match laneOf lane with
    | none => s.refuse h 0x24 .outOfRange
    | some l =>
      if clear = 0 then s.answer h 0x24 .ok (.laneStatus (s.laneView l))
      else if clear = 1 then
        (s.modLane l fun r => { r with lateFlag := false }).answer h 0x24 .ok (.laneStatus (s.laneView l))
      else s.refuse h 0x24 .outOfRange

/-! ## Head replies and deadlines (05 R97, 11 R179) -/

/-- A late reply recorded (05 R97), a HEAD_FAULT without its fault kind (DESIGN CHOICE, log 46). -/
def State.lateReply (l : Fin 2) (op : Nat) (fault : Bool) (s : State) : State :=
  (s.modLane l fun r => { r with lateFlag := true, lastLate := some ⟨op, fault, s.clock⟩ }).post (.lane l)

/-- A head reply matched against the operation in flight. -/
def State.headReply (l : Fin 2) (op : Nat) (e : OpEnd) (s : State) : State :=
  match (s.lane l).op with
  | none => s.lateReply l op (decide (e ≠ .done))
  | some o => if o.opId = op then (s.opEnd l o e).settle false s else s.lateReply l op (decide (e ≠ .done))

/-- HEAD_DONE. -/
def execHeadDone (l : Fin 2) (op : Byte) (s : State) : Host.Outcome State Fault Refusal :=
  .next (s.discardInit (·.headReply l op.toNat .done))

/-- HEAD_FAULT; a kind outside 1 to 4 is taken as OTHER (11 R179). -/
def execHeadFault (l : Fin 2) (op : Byte) (kind : Nat) (s : State) : Host.Outcome State Fault Refusal :=
  .next (s.discardInit (·.headReply l op.toNat (.fault (faultOf kind))))

/-- The expiry of the deadline of a lane's operation. -/
def State.headDeadline (l : Fin 2) (s : State) : State :=
  match (s.lane l).op with
  | none => s
  | some o =>
    match o.deadline with
    | none => s
    | some d => ((s.reach d).opEnd l o .deadline).settle false s

/-- HEAD_DEADLINE. -/
def execHeadDeadline (l : Fin 2) (s : State) : Host.Outcome State Fault Refusal := .next (s.headDeadline l)

/-- The last byte of a head command sent: its operation's deadline begins (11 R179). -/
def State.commandSent (l : Fin 2) (op : Nat) (s : State) : State :=
  s.modLane l fun r =>
    { r with op := r.op.map fun o =>
        if o.opId = op ∧ o.deadline.isNone then { o with deadline := some (s.clock + o.span) } else o }

/-- HEAD_COMMAND_SENT. -/
def execHeadCommandSent (l : Fin 2) (op : Byte) (s : State) : Host.Outcome State Fault Refusal :=
  .next (s.commandSent l op.toNat)

end Sys2Proof.Machine
end

