-- ==== Sys2Proof/Machine/Applicators.lean ====
section
/-! DEFINITION. The applicator manager's requests and its own expiries (chapter 3). -/

namespace Sys2Proof.Machine

/-! ## Tests 1 and 4 of R42 -/

/-- Whether an applicator is busy: a queued entry or an operation in flight. -/
def State.busy (s : State) (a : Fin 6) : Bool := s.queued a || (s.opOf a).isSome

/-- The tests of R42 but the material's, then `f`. -/
def State.appRequest (h : Header) (kind app : Nat) (s : State) (f : Fin 6 → State) : State :=
  if !s.line.mode.production then s.refuse h kind .wrongMode
  else
    match appOf app with
    | none => s.refuse h kind .outOfRange
    | some a => if s.busy a then s.refuse h kind .wrongState else f a

/-! ## PRIME and PURGE (03 R43, R44) -/

/-- PRIME after its tests. -/
def State.primeRequest (h : Header) (a : Fin 6) (m : Nat) (s : State) : State :=
  match (s.unit a).state with
  | .idleDry =>
    ((s.enqueue ⟨a, .prime, some m, .lineComputer⟩).answer h 0x28 .ok .accepted).settle false s
  | .primed =>
    if (s.unit a).material = some m then s.answer h 0x28 .ok .unchanged else s.refuse h 0x28 .wrongState
  | .priming | .spraying | .spitting | .purging | .capping | .parked | .uncapping | .fouled =>
    s.refuse h 0x28 .wrongState

/-- PRIME. -/
def execPrime (t : Byte) (app m : Nat) (s : State) : Host.Outcome State Fault Refusal :=
  s.request (.prime t app m) fun h s =>
    if !s.line.mode.production then s.refuse h 0x28 .wrongMode
    else
      match appOf app with
      | none => s.refuse h 0x28 .outOfRange
      | some a =>
        if !materialOk m then s.refuse h 0x28 .outOfRange
        else if !(s.mat m).valid then s.refuse h 0x28 .notFound
        else if s.busy a then s.refuse h 0x28 .wrongState
        else s.primeRequest h a m

/-- PURGE after its tests. -/
def State.purgeRequest (h : Header) (a : Fin 6) (s : State) : State :=
  match (s.unit a).state with
  | .idleDry => s.answer h 0x29 .ok .unchanged
  | .primed | .fouled =>
    ((s.enqueue ⟨a, .purge, (s.unit a).material, .lineComputer⟩).answer h 0x29 .ok .accepted).settle false s
  | .priming | .spraying | .spitting | .purging | .capping | .parked | .uncapping => s.refuse h 0x29 .wrongState

/-- PURGE. -/
def execPurge (t : Byte) (app : Nat) (s : State) : Host.Outcome State Fault Refusal :=
  s.request (.purge t app) fun h s => s.appRequest h 0x29 app fun a => s.purgeRequest h a

/-! ## PARK and UNPARK (03 R45, R46) -/

/-- A cap or uncap of origin line computer accepted; the reply reports the change of state (03 R39). -/
def State.acceptWait (h : Header) (kind : Nat) (k : WaitKind) (a : Fin 6) (s : State) : State :=
  ((((s.setUnit a ((s.unit a).awaiting k .lineComputer s.clock s.apps.accepted)).nextOrder).answer h kind .ok
    .accepted)).settle false s

/-- PARK after its tests. -/
def State.parkRequest (h : Header) (a : Fin 6) (s : State) : State :=
  match (s.unit a).state with
  | .primed | .idleDry => s.acceptWait h 0x2A .cap a
  | .capping | .parked => s.answer h 0x2A .ok .unchanged
  | .priming | .spraying | .spitting | .purging | .uncapping | .fouled => s.refuse h 0x2A .wrongState

/-- PARK. -/
def execPark (t : Byte) (app : Nat) (s : State) : Host.Outcome State Fault Refusal :=
  s.request (.park t app) fun h s => s.appRequest h 0x2A app fun a => s.parkRequest h a

/-- UNPARK after its tests. -/
def State.unparkRequest (h : Header) (a : Fin 6) (s : State) : State :=
  match (s.unit a).state with
  | .parked => s.acceptWait h 0x2B .uncap a
  | .uncapping => s.answer h 0x2B .ok .unchanged
  | .idleDry | .priming | .primed | .spraying | .spitting | .purging | .capping | .fouled =>
    s.refuse h 0x2B .wrongState

/-- UNPARK. -/
def execUnpark (t : Byte) (app : Nat) (s : State) : Host.Outcome State Fault Refusal :=
  s.request (.unpark t app) fun h s => s.appRequest h 0x2B app fun a => s.unparkRequest h a

/-! ## APPLICATOR_STATUS (03 R48) -/

/-- What APPLICATOR_STATUS reads of one applicator. The parked time so far is shown in state PARKED alone, not while
UNCAPPING and not where a HALT or a LINE_RESET fouled an applicator that was (DESIGN CHOICE, log 34). -/
def State.appView (s : State) (a : Fin 6) : AppView where
  app := a
  unit := s.unit a
  parkedFor :=
    if (s.unit a).state = .parked ∧ (s.unit a).parkedWet = true then (s.unit a).capTime.map fun c => s.clock - c else none
  entry := (s.apps.queue.find? fun e => decide (e.app = a)).map fun e => (e, s.apps.queue.idxOf e)
  op := (s.opOf a).map fun o => (o, s.shownDeadline o)

/-- What APPLICATOR_STATUS answers for a list of applicators. -/
def State.appBody (s : State) (as : List (Fin 6)) : Body :=
  .applicators (as.map s.appView) s.line.limits.windowLimit s.line.limits.windowLength s.apps.startList

/-- APPLICATOR_STATUS: ALL is FFh. -/
def execApplicatorStatus (t : Byte) (app : Nat) (s : State) : Host.Outcome State Fault Refusal :=
  s.request (.applicatorStatus t app) fun h s => s.unlessInit h 0x2C fun s =>
    if app = 0xFF then s.answer h 0x2C .ok (s.appBody allApps)
    else
      match appOf app with
      | none => s.refuse h 0x2C .outOfRange
      | some a => s.answer h 0x2C .ok (s.appBody [a])

/-! ## Keep-wet timer and prime window (03 R49 to R51, R53) -/

/-- An applicator at an expiry of its keep-wet timer at `d`: debt raised with the next expiry one interval on, or FOULED
where the debt stands at 4. -/
def State.dried (s : State) (d : Nat) (r : Applicator) : Applicator :=
  if Config.debtLimit ≤ r.debt then r.foul .keepWet
  else { r with debt := r.debt + 1, keepWet := r.material.map fun m => d + 1000 * (s.mat m).keepWetS }

/-- The expiry of a keep-wet timer. -/
def State.keepWetExpiry (a : Fin 6) (s : State) : State :=
  match (s.unit a).keepWet with
  | none => s
  | some d => ((s.reach d).modUnit a (s.dried d)).settle false s

/-- KEEP_WET_EXPIRY. -/
def execKeepWetExpiry (a : Fin 6) (s : State) : Host.Outcome State Fault Refusal := .next (s.keepWetExpiry a)

/-- The oldest entry of the start list ages out, and a grant decision is made. -/
def State.ageOut (s : State) : State :=
  match s.apps.startList with
  | [] => s
  | t :: rest =>
    let s1 := s.reach (t + 1000 * s.line.limits.windowLength)
    { s1 with apps := { s1.apps with startList := rest } }.settle false s

/-- PRIME_WINDOW_AGE_OUT. -/
def execPrimeWindowAgeOut (s : State) : Host.Outcome State Fault Refusal := .next s.ageOut

end Sys2Proof.Machine
end

