-- ==== Sys2Proof/Machine/Inspection.lean ====
section
/-! DEFINITION. The inspection unit (chapter 6): criteria, mask reports, findings, the inspection gate. -/

namespace Sys2Proof.Machine

/-! ## Tallies and criteria (06 R114) -/

/-- A criterion tally of a board. -/
def Board.tally (b : Board) (i : Nat) : Nat := Table.read (fun _ => 0) b.tallies i

/-- The board with a tally set. -/
def Board.setTally (i n : Nat) (b : Board) : Board := { b with tallies := Table.write (fun _ => 0) i n b.tallies }

/-- Replacing a criterion. -/
def State.setCriterion (i : Nat) (c : Criterion) (s : State) : State :=
  { s with criteria := Table.write (fun _ => resetCriterion) i c s.criteria }

/-- CRITERION_WRITE: the criterion's tally on every board becomes 0. -/
def execCriterionWrite (t : Byte) (index : Nat) (f : CriterionFields) (s : State) :
    Host.Outcome State Fault Refusal :=
  s.request (.criterionWrite t index f) fun h s => s.unlessInit h 0x18 fun s =>
    match readCriterion f with
    | none => s.refuse h 0x18 .outOfRange
    | some c =>
      if index < 32 then
        ((s.setCriterion index c).mapBoards (Board.setTally index 0)).answer h 0x18 .ok
          (.criterionWrite index (s.boards.countP fun p => decide (0 < p.2.tally index)))
      else s.refuse h 0x18 .outOfRange

/-- The number of boards whose tally for a criterion is at or above its threshold, 0 for a disabled criterion. -/
def State.reachedCount (s : State) (i : Nat) : Nat :=
  if (s.criterion i).threshold = 0 then 0
  else s.boards.countP fun p => decide ((s.criterion i).threshold ≤ p.2.tally i)

/-- CRITERION_READ. -/
def execCriterionRead (t : Byte) (index : Nat) (s : State) : Host.Outcome State Fault Refusal :=
  s.request (.criterionRead t index) fun h s => s.unlessInit h 0x19 fun s =>
    if index < 32 then s.answer h 0x19 .ok (.criterionRead (s.criterion index) (s.reachedCount index))
    else s.refuse h 0x19 .outOfRange

/-! ## Mask reports (06 R108 to R111) -/

/-- The board with a mask site state set. -/
def Board.setSite (k : Nat) (v : SiteState) (b : Board) : Board :=
  { b with sites := b.sites.map fun p => if p.1 = k then (k, v) else p }

/-- The mask wait deadline ends when no listed site is UNREAD (06 R111). -/
def Board.endMaskWait (b : Board) : Board := if b.unread then b else { b with maskWait := none }

/-- A site state written, with MASK_MISSING, the mask wait and, for an AT_SPRAY board whose site changed, the start test
of R108, in that order. -/
def State.reportMask (slot k : Nat) (v : SiteState) (b : Board) (s : State) : State :=
  let s1 := s.modBoardQuiet slot (Board.setSite k v)
  let s2 := if !b.masksMissing && (b.setSite k v).masksMissing then s1.raise 1 slot else s1
  let s3 := s2.modBoardQuiet slot Board.endMaskWait
  if b.life = .atSpray ∧ b.site k ≠ some v then s3.startTest b.lane else s3

/-- Whether a board takes mask reports (06 R108 test 5). -/
def Board.takesMasks (b : Board) : Bool := b.beforeBuffer

/-- What a MASK_REPORT answers, from the board before and after. -/
def maskBody (slot k : Nat) (before after : Board) : Body :=
  .maskReport slot before.tag k ((before.site k).getD .unread) ((after.site k).getD .unread) after.masksMissing
    after.maskWait.isSome

/-- MASK_REPORT. -/
def execMaskReport (t : Byte) (slot k v : Nat) (s : State) : Host.Outcome State Fault Refusal :=
  s.request (.maskReport t slot k v) fun h s => s.unlessInit h 0x34 fun s =>
    match reportOf v with
    | none => s.refuse h 0x34 .outOfRange
    | some st =>
      if !(slotOk slot && within 1 16 k) then s.refuse h 0x34 .outOfRange
      else
        match s.board slot with
        | none => s.refuse h 0x34 .notFound
        | some b =>
          if (b.site k).isNone then s.refuse h 0x34 .outOfRange
          else if !b.takesMasks then s.refuse h 0x34 .wrongState
          else
            let s1 := s.reportMask slot k st b
            (s1.answer h 0x34 .ok (maskBody slot k b ((s1.board slot).getD b))).settle false s

/-- The expiry of a mask wait deadline raises MASK_UNREAD (06 R111). -/
def State.maskWaitExpiry (slot : Nat) (s : State) : State :=
  match (s.board slot).bind (·.maskWait) with
  | none => s
  | some d =>
    (((s.reach d).modBoardQuiet slot fun b => { b with maskWait := none }).raise 2 slot).settle false s

/-- MASK_WAIT_EXPIRY. -/
def execMaskWaitExpiry (slot : Nat) (s : State) : Host.Outcome State Fault Refusal := .next (s.maskWaitExpiry slot)

/-! ## Findings (06 R112 to R116) -/

/-- A finding recorded: stored, or counted as overflow; its kind joins the kinds seen (06 R113). -/
def Board.record (f : Finding) (b : Board) : Board :=
  if b.findings.length < Config.findingLimit then
    { b with findings := b.findings ++ [f], kindsSeen := b.kindsSeen.join f.kind }
  else { b with overflow := min 255 (b.overflow + 1), kindsSeen := b.kindsSeen.join f.kind }

/-- Whether a criterion matches a finding; `withheld` is the lookup of the finding's cell (06 R115). -/
def Criterion.takes (c : Criterion) (b : Board) (f : Finding) (withheld : Bool) : Bool :=
  decide (0 < c.threshold) && (decide (c.cls = 0) || decide (c.cls = b.cls)) &&
  (decide (c.kind = 0) || decide (c.kind = f.kind)) &&
  (match c.side with
   | .either => true
   | .top => decide (f.side = .top)
   | .bottom => decide (f.side = .bottom)) &&
  (!c.keepOutOnly || withheld)

/-- The indices of the criteria that match a finding, ascending. -/
def State.matching (s : State) (b : Board) (f : Finding) : List Nat :=
  let withheld := (s.lookup b.cls b.side f.x f.y).withheld
  (List.range 32).filter fun i => (s.criterion i).takes b f withheld

/-- The tallies of the matching criteria raised by 1 each, saturating at 255 (06 R116). -/
def Board.raiseTallies (hits : List Nat) (b : Board) : Board :=
  hits.foldl (fun b i => b.setTally i (min 255 (b.tally i + 1))) b

/-- The matching criteria whose tally comes to its threshold at this finding (06 R116). -/
def State.reaching (s : State) (b : Board) (hits : List Nat) : List Nat :=
  hits.filter fun i => decide (b.tally i < (s.criterion i).threshold) &&
    decide (min 255 (b.tally i + 1) = (s.criterion i).threshold)

/-- A finding taken: recorded, tallied, and the reasons of the criteria reached raised in ascending index. -/
def State.takeFinding (slot : Nat) (b : Board) (f : Finding) (s : State) : State :=
  let hits := s.matching b f
  let reached := s.reaching b hits
  reached.foldl (fun s' i => s'.raise (s.criterion i).reason slot)
    (s.modBoardQuiet slot fun b => (b.record f).raiseTallies hits)

/-- Whether a board takes findings and INSPECT_DONE: FLASHING or OVEN_READY (06 R112, R117). -/
def Board.takesFindings (b : Board) : Bool := decide (b.life = .flashing) || decide (b.life = .ovenReady)

/-- What a FINDING answers. -/
def State.findingBody (s : State) (slot : Nat) (b : Board) (f : Finding) : Body :=
  let after := b.record f
  .finding slot b.tag (decide (b.findings.length < Config.findingLimit)) after.findings.length after.overflow
    ((s.reaching b (s.matching b f)).map fun i => (i, (s.criterion i).reason))

/-- FINDING. -/
def execFinding (t : Byte) (slot kind side x y : Nat) (s : State) : Host.Outcome State Fault Refusal :=
  s.request (.finding t slot kind side x y) fun h s => s.unlessInit h 0x35 fun s =>
    match sideOf side with
    | none => s.refuse h 0x35 .outOfRange
    | some d =>
      if !(slotOk slot && within 1 5 kind && coordOk x && coordOk y) then s.refuse h 0x35 .outOfRange
      else
        match s.board slot with
        | none => s.refuse h 0x35 .notFound
        | some b =>
          if !b.takesFindings then s.refuse h 0x35 .wrongState
          else
            let f : Finding := ⟨kind, d, x, y, s.clock⟩
            ((s.takeFinding slot b f).answer h 0x35 .ok (s.findingBody slot b f)).settle false s

/-! ## The inspection gate (06 R117) -/

/-- INSPECT_DONE: a flag that becomes set has the OVEN_READY conditions tested again. -/
def execInspectDone (t : Byte) (slot : Nat) (s : State) : Host.Outcome State Fault Refusal :=
  s.request (.inspectDone t slot) fun h s => s.unlessInit h 0x36 fun s =>
    if !slotOk slot then s.refuse h 0x36 .outOfRange
    else
      match s.board slot with
      | none => s.refuse h 0x36 .notFound
      | some b =>
        if !b.takesFindings then s.refuse h 0x36 .wrongState
        else
          let s1 := s.modBoardQuiet slot fun b => { b with inspectDone := true }
          let s2 := if b.inspectDone then s1 else s1.testReady slot
          (s2.answer h 0x36 .ok (.inspectDone slot b.tag b.inspectDone)).settle false s

/-- A board cleared on release (06 R119). -/
def Board.clearFindings (b : Board) : Board :=
  { b with findings := [], overflow := 0, kindsSeen := 0#8, tallies := [], inspectDone := false }

end Sys2Proof.Machine
end

