-- ==== Sys2Proof/Machine/Holds.lean ====
section
/-! DEFINITION. The hold controller's requests (chapter 9). -/

namespace Sys2Proof.Machine

/-! ## The routing table (09 R152 to R154) -/

/-- Replacing a routing entry. -/
def State.setRoute (n : Nat) (r : RouteEntry) (s : State) : State :=
  { s with hold := { s.hold with routing := Table.write resetRoute n r s.hold.routing } }

/-- Step 1 of R153 on one board: a pending reason moves to in service, and a board that holds it is marked REWORK. -/
def Board.divertFor (n : Nat) (b : Board) : Board :=
  if b.holds n then
    { b.withMark .rework with
      pendingSet := b.pendingSet.leave n
      inService := if b.pendingSet.has n then b.inService.join n else b.inService }
  else b

/-- The slots of the table, ascending. -/
def allSlots : List Nat := List.range Config.slots

/-- The marks of step 1 of R153, in ascending slot. -/
def State.markAll (n : Nat) (s : State) : State := allSlots.foldl (fun u k => u.modBoard k (Board.divertFor n)) s

/-- Whether the board of a slot is AT_SPRAY and holds a reason. -/
def State.holdsAtSpray (s : State) (n k : Nat) : Bool := (s.board k).any fun b => decide (b.life = .atSpray) && b.holds n

/-- Step 1 of R153: the marks, and what R7 has them do to AT_SPRAY boards at once. Both go in ascending slot, which orders the
BOARD notices and the bay requests, an order R153 does not give; what a mark does to a SPRAYING or an OVEN_READY board comes
with the report of R158 in step 2 (DESIGN CHOICE, log 33). -/
def State.divertAll (n : Nat) (s : State) : State :=
  if !(s.route n).masked ∧ (s.route n).action = .divert then
    allSlots.foldl (fun u k => if (s.markAll n).holdsAtSpray n k then u.markedAtSpray k else u) (s.markAll n)
  else s

/-- The divert mark of a slot's board. -/
def State.markAt (s : State) (slot : Nat) : Option Mark := (s.board slot).bind (·.mark)

/-- Whether the blocked state or the mark of a slot's board differs between two states. -/
def reported (s0 s1 : State) (k : Nat) : Bool :=
  decide (s0.blockedAt k ≠ s1.blockedAt k) || decide (s0.markAt k ≠ s1.markAt k)

/-- Step 2 of R153: each change since `s0` reported; `s1` is the state whose blocked states are compared. The reports go in
ascending slot, so of two SPRAYING boards that one write marks and that have no stroke in flight the lower slot asks for its bay
first; R153 and R158 give no order (DESIGN CHOICE, log 33). -/
def reportAll (s0 s1 : State) : State :=
  allSlots.foldl (fun s k => if reported s0 s1 k then s.react k (s0.blockedAt k) else s) s1

/-- The three steps of an accepted ROUTE_WRITE (09 R153). -/
def State.routeWrite (n : Nat) (r : RouteEntry) (s : State) : State :=
  let s1 := (s.setRoute n r).divertAll n
  let s2 := reportAll s s1
  if (s.route n).masked ∧ !r.masked ∧ s2.boards.any (fun p => p.2.pendingSet.has n) then s2.post .hold else s2

/-- ROUTE_WRITE. The counts are of boards whose blocked state changed and of boards whose mark changed (log 21). -/
def execRouteWrite (t : Byte) (n : Nat) (f : RouteFields) (s : State) : Host.Outcome State Fault Refusal :=
  s.request (.routeWrite t n f) fun h s => s.unlessInit h 0x1A fun s =>
    match readRoute f with
    | none => s.refuse h 0x1A .outOfRange
    | some r =>
      if reasonOk n then
        let s1 := (s.setRoute n r).divertAll n
        ((s.routeWrite n r).answer h 0x1A .ok
          (.routeWrite n (allSlots.countP fun k => decide (s.blockedAt k ≠ s1.blockedAt k))
            (allSlots.countP fun k => decide (s.markAt k ≠ s1.markAt k)))).settle false s
      else s.refuse h 0x1A .outOfRange

/-- ROUTE_READ: reason 1 is the one of level type (09 R150). The number of boards that R154 has last is read as two counts,
of the boards with the reason pending and of those with it in service (DESIGN CHOICE, log 47). -/
def execRouteRead (t : Byte) (n : Nat) (s : State) : Host.Outcome State Fault Refusal :=
  s.request (.routeRead t n) fun h s => s.unlessInit h 0x1B fun s =>
    if reasonOk n then
      s.answer h 0x1B .ok (.routeRead (s.route n) (decide (n = 1)) (s.boards.countP fun p => p.2.pendingSet.has n)
        (s.boards.countP fun p => p.2.inService.has n))
    else s.refuse h 0x1B .outOfRange

/-! ## HOLD (09 R157) -/

/-- HOLD: reason 0 is raised. -/
def execHold (t : Byte) (slot : Nat) (s : State) : Host.Outcome State Fault Refusal :=
  s.request (.hold t slot) fun h s => s.unlessInit h 0x37 fun s =>
    if !slotOk slot then s.refuse h 0x37 .outOfRange
    else
      match s.board slot with
      | none => s.refuse h 0x37 .notFound
      | some b =>
        let s1 := s.raise 0 slot
        (s1.answer h 0x37 .ok (.hold slot b.tag (b.pendingSet.has 0) (b.inService.has 0) (s1.blockedAt slot)
          (s1.markAt slot))).settle false s

/-! ## HOLD_TAKE (09 R159) -/

/-- A candidate of a take. -/
structure Candidate where
  slot : Nat
  reason : Nat
  deriving DecidableEq, Repr

/-- The candidates: each board and each of its pending unmasked reasons, ascending. -/
def State.candidates (s : State) : List Candidate :=
  s.boards.flatMap fun p => (p.2.pendingSet.members.filter fun n => !(s.route n).masked).map fun n => ⟨p.1, n⟩

/-- How far a slot stands in the rotation that begins after the last-taken slot. -/
def rotation (last slot : Nat) : Nat := (slot + 63 - last) % 32

/-- The order of the keys of R159 as one number: priority, then rotation, then reason. -/
def State.takeKey (s : State) (c : Candidate) : Nat :=
  (s.route c.reason).priority * 512 + rotation s.hold.lastTaken c.slot * 16 + c.reason

/-- The first of a list by a key, the earliest among equals. -/
def firstBy {α : Type} (key : α → Nat) : List α → Option α
  | [] => none
  | c :: cs =>
    match firstBy key cs with
    | none => some c
    | some d => if key d < key c then some d else some c

/-- The candidate that HOLD_TAKE chooses. -/
def State.takeChoice (s : State) : Option Candidate := firstBy s.takeKey s.candidates

/-- A candidate with its board's tag and its routing entry. -/
def State.takeView (s : State) (c : Candidate) : TakeView :=
  ⟨c.slot, (s.board c.slot).elim [] (·.tag), c.reason, s.route c.reason⟩

/-- A take: the reason leaves pending and joins in service; the last-taken slot is the board's. -/
def State.takeReason (c : Candidate) (s : State) : State :=
  let s1 := s.modBoardQuiet c.slot fun b =>
    { b with pendingSet := b.pendingSet.leave c.reason, inService := b.inService.join c.reason }
  { s1 with hold := { s1.hold with lastTaken := c.slot } }

/-- HOLD_TAKE: with no candidate the reply is OK with an empty body. -/
def execHoldTake (t : Byte) (s : State) : Host.Outcome State Fault Refusal :=
  s.request (.holdTake t) fun h s => s.unlessInit h 0x38 fun s =>
    match s.takeChoice with
    | none => s.answer h 0x38 .ok .empty
    | some c =>
      (s.takeReason c).answer h 0x38 .ok (.holdTake (s.takeView c) (s.takeReason c).candidates.length)

/-! ## HOLD_RELEASE (09 R160, R161) -/

/-- TOP: the in-service reason of the lowest priority number, and among equals the lowest reason number. -/
def State.topReason (s : State) (b : Board) : Option Nat :=
  firstBy (fun n => (s.route n).priority * 16 + n) b.inService.members

/-- The reason a release names: FFh is TOP; none where it does not stand in service. -/
def State.namedReason (s : State) (b : Board) (n : Nat) : Option Nat :=
  if n = 0xFF then s.topReason b else if b.inService.has n then some n else none

/-- Whether a CONTINUE release of a reason clears the board (06 R119). -/
def State.clears (s : State) (n : Nat) (v : ReleaseVerdict) : Bool :=
  decide (v = .goOn) && (s.route n).clearOnRelease

/-- Whether reason 1 is raised again at a CONTINUE release (09 R156). -/
def raisedAgain (b : Board) (n : Nat) (v : ReleaseVerdict) : Bool :=
  decide (v = .goOn) && decide (n = 1) && b.masksMissing

/-- The verdict applied (09 R161 step 2). -/
def State.applyVerdict (slot n : Nat) (v : ReleaseVerdict) (b : Board) (s : State) : State :=
  match v with
  | .goOn =>
    let s1 := if (s.route n).clearOnRelease then s.modBoardQuiet slot Board.clearFindings else s
    if raisedAgain b n v then s1.raiseCore false slot 1 else s1
  | .divert => s.modBoard slot fun b => b.withMark .rework
  | .scrap => s.modBoard slot fun b => b.withMark .scrap

/-- An accepted release (09 R161). -/
def State.release (slot n : Nat) (v : ReleaseVerdict) (b : Board) (s : State) : State :=
  ((s.modBoardQuiet slot fun b => { b with inService := b.inService.leave n }).applyVerdict slot n v b).react slot
    (s.blockedAt slot)

/-- HOLD_RELEASE. -/
def execHoldRelease (t : Byte) (slot reason verdict : Nat) (s : State) : Host.Outcome State Fault Refusal :=
  s.request (.holdRelease t slot reason verdict) fun h s => s.unlessInit h 0x39 fun s =>
    match verdictOf verdict with
    | none => s.refuse h 0x39 .outOfRange
    | some v =>
      if !(slotOk slot && (reasonOk reason || decide (reason = 0xFF))) then s.refuse h 0x39 .outOfRange
      else
        match s.board slot with
        | none => s.refuse h 0x39 .notFound
        | some b =>
          match s.namedReason b reason with
          | none => s.refuse h 0x39 .notInService
          | some n =>
            let s1 := s.release slot n v b
            (s1.answer h 0x39 .ok (.holdRelease slot b.tag n v (s.clears n v) (raisedAgain b n v) (s1.blockedAt slot)
              (s1.markAt slot))).settle false s

/-! ## HOLD_STATUS (09 R162) -/

/-- A board as lists show it. -/
def State.boardView (s : State) (slot : Nat) (b : Board) : BoardView := ⟨slot, b, s.blocked b⟩

/-- A board of HOLD_STATUS: its pending reasons and then its in-service ones, each set in ascending reason number,
with their routing entries. A reason that stands in both sets is listed twice (DESIGN CHOICE, log 36). -/
def State.holdView (s : State) (slot : Nat) (b : Board) : HoldView :=
  ⟨s.boardView slot b, (b.pendingSet.members ++ b.inService.members).map fun n => ⟨n, s.route n⟩⟩

/-- The boards that hold a reason, from a slot on, ascending. -/
def State.heldFrom (s : State) (first : Nat) : List (Nat × Board) :=
  s.boards.filter fun p => decide (first ≤ p.1) && (decide (p.2.pendingSet ≠ 0#16) || decide (p.2.inService ≠ 0#16))

/-- The items of HOLD_STATUS before the boards. -/
def State.holdBody (s : State) (boards : List (Nat × Board)) (further : Option (Option Nat)) : Body :=
  .holdStatus s.hold.lastTaken (s.takeChoice.map s.takeView) s.candidates.length
    (s.boards.countP fun p => s.blocked p.2) (boards.map fun p => s.holdView p.1 p.2) further

/-- HOLD_STATUS: ALL is FFh, and the first slot is read only with it. -/
def execHoldStatus (t : Byte) (slot first : Nat) (s : State) : Host.Outcome State Fault Refusal :=
  s.request (.holdStatus t slot first) fun h s => s.unlessInit h 0x3A fun s =>
    if slot = 0xFF then
      if slotOk first then
        s.answer h 0x3A .ok
          (s.holdBody ((s.heldFrom first).take 8) (some (((s.heldFrom first).drop 8).head?.map (·.1))))
      else s.refuse h 0x3A .outOfRange
    else if slotOk slot then
      match s.board slot with
      | none => s.refuse h 0x3A .notFound
      | some b => s.answer h 0x3A .ok (s.holdBody [(slot, b)] none)
    else s.refuse h 0x3A .outOfRange

end Sys2Proof.Machine
end

