-- ==== Sys2Proof/Machine/Boards.lean ====
section
/-! DEFINITION. The board tracker (chapter 1): ANNOUNCE, RETIRE, the reads, and the lane sensor events. -/

namespace Sys2Proof.Machine

/-! ## ANNOUNCE (01 R8 to R10) -/

/-- The newest history entry of a tag (01 R9). -/
def State.newestOf (s : State) (g : List Byte) : Option HistoryEntry := s.tracker.history.reverse.find? fun e => decide (e.tag = g)

/-- The pass computed from the newest entry of a tag, before saturation (01 R9). -/
def computedPass : Option HistoryEntry → Nat
  | none => 0
  | some e =>
    match e.disposition with
    | .cured => 0
    | .removed => 0
    | .rework => e.pass + 1
    | .scrap => 0

/-- A record as ANNOUNCE creates it (01 R4, R10). -/
def newBoard (g : List Byte) (c : Nat) (l : Fin 2) (d : Side) (pass time : Nat) (sites : List Nat) : Board where
  tag := g
  cls := c
  lane := l
  side := d
  pass := pass
  life := .queued
  loc := .laneQueue
  announced := time
  mark := none
  strokesDone := 0
  gated := 0
  used := 0#8
  sprayEnd := none
  flowClamped := false
  interrupted := false
  disarmed := false
  sites := sites.map fun k => (k, .unread)
  maskWait := none
  findings := []
  overflow := 0
  kindsSeen := 0#8
  tallies := []
  inspectDone := false
  flashReady := none
  openDeadline := none
  ovenEntry := none
  zone := none
  lastCredit := none
  verdict := none
  accs := []
  doseGap := false
  overTemp := false
  pendingSet := 0#16
  inService := 0#16
  flashArmed := false
  openArmed := false
  overdueArmed := false

/-- Tests 3 to 6 of R8, answering the slot. -/
def State.announceTests (s : State) (l : Fin 2) (g : List Byte) (c : Nat) : Except ResultCode Nat :=
  if !(s.cls c).valid then .error .notFound
  else if s.boards.any fun p => decide (p.2.tag = g) then .error .duplicateTag
  else if (s.newestOf g).any fun e => decide (e.disposition = .scrap) then .error .scrappedTag
  else
    match s.emptySlot with
    | none => .error .noRoom
    | some slot => if (s.queueOf l).length < Config.laneQueueLimit then .ok slot else .error .noRoom

/-- The record created, queued and counted, with PASS_LIMIT where R9 requires it (01 R10). -/
def State.create (slot : Nat) (l : Fin 2) (g : List Byte) (c : Nat) (d : Side) (s : State) : State :=
  let pass := computedPass (s.newestOf g)
  let s1 := s.setBoard slot (some (newBoard g c l d (min 2 pass) s.clock (s.cls c).siteList))
  let s2 := (s1.setQueue l (s1.queueOf l ++ [slot])).raiseUse c
  if (s.cls c).passLimit < pass then s2.raiseCore true slot 14 else s2

/-- ANNOUNCE: the reply carries the divert mark as it stands after the step. -/
def execAnnounce (t : Byte) (lane : Nat) (g : List Byte) (c side : Nat) (s : State) :
    Host.Outcome State Fault Refusal :=
  s.request (.announce t lane g c side) fun h s =>
    if s.line.mode = .run ∨ s.line.mode = .config then
      match laneOf lane, sideOf side with
      | some l, some d =>
        if classOk c && tagOk g then
          match s.announceTests l g c with
          | .error e => s.refuse h 0x30 e
          | .ok slot =>
            let s1 := s.create slot l g c d
            s1.answer h 0x30 .ok
              (.announced slot g (min 2 (computedPass (s.newestOf g))) s.clock (s1.markAt slot))
        else s.refuse h 0x30 .outOfRange
      | _, _ => s.refuse h 0x30 .outOfRange
    else s.refuse h 0x30 .wrongMode

/-! ## RETIRE (01 R19) -/

/-- Whether RETIRE may take the board of a slot. -/
def State.retirable (s : State) (slot : Nat) (b : Board) : Bool :=
  match b.life with
  | .queued => decide (b.loc = .laneQueue)
  | .atSpray => decide (b.loc = .sprayPos)
  | .flashing => b.loc.isBay && !s.admitting slot
  | .ovenReady => b.loc.isBay && !s.admitting slot
  | .spraying => false
  | .inOven => false

/-- RETIRE. -/
def execRetire (t : Byte) (slot : Nat) (s : State) : Host.Outcome State Fault Refusal :=
  s.request (.retire t slot) fun h s => s.unlessInit h 0x33 fun s =>
    if !slotOk slot then s.refuse h 0x33 .outOfRange
    else
      match s.board slot with
      | none => s.refuse h 0x33 .notFound
      | some b =>
        if s.retirable slot b then
          ((s.retire true slot .removed).answer h 0x33 .ok (.retired slot b.tag s.clock)).settle false s
        else s.refuse h 0x33 .wrongState

/-! ## Reads (01 R21 to R23) -/

/-- BOARD_READ: view SUMMARY 0, FINDINGS 1. The FINDINGS reply carries what R22 lists for it, which names no tag, although
00 0.7.4 has replies that concern a board echo its tag (DESIGN CHOICE, log 41). -/
def execBoardRead (t : Byte) (slot view : Nat) (s : State) : Host.Outcome State Fault Refusal :=
  s.request (.boardRead t slot view) fun h s => s.unlessInit h 0x31 fun s =>
    if !(slotOk slot && decide (view < 2)) then s.refuse h 0x31 .outOfRange
    else
      match s.board slot with
      | none => s.refuse h 0x31 .notFound
      | some b =>
        if view = 0 then s.answer h 0x31 .ok (.boardSummary (s.boardView slot b))
        else s.answer h 0x31 .ok (.boardFindings b.findings b.overflow ((List.range 32).map b.tally))

/-- Whether a filter lets a value pass; none stands for ANY. -/
def passes {α : Type} [DecidableEq α] (f : Option α) (a : α) : Bool := f.all fun x => decide (x = a)

/-- BOARD_LIST. -/
def execBoardList (t : Byte) (lane life : Nat) (s : State) : Host.Outcome State Fault Refusal :=
  s.request (.boardList t lane life) fun h s => s.unlessInit h 0x32 fun s =>
    match filterOf laneOf lane, filterOf lifeOf life with
    | some fl, some fs =>
      s.answer h 0x32 .ok (.boardList
        ((s.boards.filter fun p => passes fl p.2.lane && passes fs p.2.life).map fun p => s.boardView p.1 p.2))
    | _, _ => s.refuse h 0x32 .outOfRange

/-- The entries that HISTORY_READ returns, at most `c` from sequence number `n` on (01 R21). -/
def State.historyFrom (s : State) (n c : Nat) : List HistoryEntry :=
  let held := s.tracker.history.length
  let d := (s.tracker.nextSeq - BitVec.ofNat 32 n).toNat
  (s.tracker.history.drop (held - d)).take c

/-- The sequence number of the oldest entry held, or the next-sequence counter with none. -/
def State.oldestSeq (s : State) : BitVec 32 := s.tracker.history.head?.elim s.tracker.nextSeq (·.seq)

/-- HISTORY_READ. -/
def execHistoryRead (t : Byte) (start count : Nat) (s : State) : Host.Outcome State Fault Refusal :=
  s.request (.historyRead t start count) fun h s => s.unlessInit h 0x3D fun s =>
    if within 1 16 count then
      s.answer h 0x3D .ok (.history s.oldestSeq s.tracker.nextSeq (s.historyFrom start count))
    else s.refuse h 0x3D .outOfRange

/-! ## Lane sensor events (01 R13, R15) -/

/-- The oldest QUEUED board of a lane queue. -/
def State.nextQueued (s : State) (l : Fin 2) : Option (Nat × Board) :=
  (s.queueOf l).findSome? fun k => (s.board k).bind fun b => if b.life = .queued then some (k, b) else none

/-- A board as LANE_ARRIVE leaves it: a marked one is FLASHING, another AT_SPRAY with its mask wait (06 R110). -/
def State.arrived (s : State) (b : Board) : Board :=
  if b.mark.isSome then { b with loc := .sprayPos, life := .flashing }
  else
    { b with
      loc := .sprayPos
      life := .atSpray
      maskWait := if b.unread then some (s.clock + 1000 * (s.cls b.cls).maskWait) else none }

/-- LANE_ARRIVE on a lane (01 R13). The BOARD notice is posted before the start test, and so before that test's LANE notice,
an order R13 does not give (DESIGN CHOICE, log 38). -/
def State.laneArrive (l : Fin 2) (s : State) : State :=
  if (s.sprayBoard l).isSome then s.post (.lane l)
  else
    match s.nextQueued l with
    | none => s.post (.lane l)
    | some (slot, b) =>
      let s1 := s.modBoard slot s.arrived
      (if b.mark.isSome then s1.requestBay slot else s1.startTest l).settle false s

/-- LANE_ARRIVE. -/
def execLaneArrive (l : Fin 2) (s : State) : Host.Outcome State Fault Refusal := .next (s.discardInit (·.laneArrive l))

/-- LANE_CLEAR on a lane (01 R15, 07 R125, R126). -/
def State.laneClear (l : Fin 2) (s : State) : State :=
  match s.sprayBoard l with
  | none => s.post (.lane l)
  | some (slot, _) =>
    match s.reservedBay slot with
    | none => s.post (.lane l)
    | some n =>
      let s1 := s.modBoard slot fun b => { b with loc := .bay n }
      let s2 := s1.setQueue l ((s1.queueOf l).filter fun k => k != slot)
      ((((s2.setBay n (.occupied slot)).setGate l false)).testReady slot).settle false s

/-- LANE_CLEAR. -/
def execLaneClear (l : Fin 2) (s : State) : Host.Outcome State Fault Refusal := .next (s.discardInit (·.laneClear l))

end Sys2Proof.Machine
end

