-- ==== Sys2Proof/Machine/KeepOutTable.lean ====
section
/-! DEFINITION. The keep-out table's requests and its timed edits (chapter 4). -/

namespace Sys2Proof.Machine

/-! ## Affected classes (04 R73) -/

/-- The set of classes 1 to 48 that an enabled entry of a list matches, class c at bit c - 1. -/
def affectedBy (es : List KeepOutEntry) : NumSet 48 :=
  (classIds.filter fun c => es.any fun e => e.enabled && e.takesClass c).foldl (fun x c => x.join (c - 1)) 0#48

/-- The entries listed at the indices `p` picks; an unlisted index holds the disabled reset entry. -/
def State.entriesAt (s : State) (p : Nat → Bool) : List KeepOutEntry :=
  (s.keepOut.entries.filter fun q => p q.1).map (·.2)

/-- Whether a number lies in a block. -/
def inBlock (first count i : Nat) : Bool := decide (first ≤ i) && decide (i < first + count)

/-! ## Steps (04 R75 to R77) -/

/-- The steps of a fill. -/
def fillSteps (first count : Nat) (e : KeepOutEntry) : List EditStep :=
  (List.range' first count).map fun i => .write i e

/-- The copy steps of a move: ascending offsets, or descending when the destination lies above the source. -/
def copySteps (src dst count : Nat) : List EditStep :=
  let offsets := if src < dst then (List.range count).reverse else List.range count
  offsets.map fun i => .copy (src + i) (dst + i)

/-- The clear steps of a move: the source indices that do not lie in the destination, ascending. -/
def clearSteps (src dst count : Nat) : List EditStep :=
  ((List.range' src count).filter fun i => !inBlock dst count i).map .clear

/-- The steps of a move. -/
def moveSteps (src dst count : Nat) : List EditStep := copySteps src dst count ++ clearSteps src dst count

/-- Whether the destination of a move is free (04 R77). -/
def State.destFree (s : State) (src dst count : Nat) : Bool :=
  s.keepOut.entries.all fun p => !(inBlock dst count p.1 && !inBlock src count p.1) || !p.2.enabled

/-! ## Acceptance (04 R74) -/

/-- The lowest SPRAYING board whose class lies in a set. -/
def State.sprayingIn (s : State) (x : NumSet 48) : Option (Nat × Board) :=
  s.boards.find? fun p => decide (p.2.life = .spraying) && x.has (p.2.cls - 1)

/-- Tests 3 to 5 of R74 and the acceptance of an edit of the ranges `rs`; the fourth test comes in `free`. -/
def State.startEdit (h : Header) (kind : Nat) (k : EditKind) (rs : List (Nat × Nat)) (free : Bool) (x : NumSet 48)
    (steps : List EditStep) (s : State) : State :=
  if s.keepOut.edit.isSome then s.refuse h kind .editInFlight
  else if !free then s.refuse h kind .destOccupied
  else
    match s.sprayingIn x with
    | some (slot, b) => s.answer h kind .classInSpray (.classInSpray x slot b.cls)
    | none =>
      { s with keepOut := { s.keepOut with
          edit := some ⟨k, rs, h.tag, h.place, s.clock, x, 0, steps⟩ } }

/-- RULE_WRITE (04 R75). -/
def execRuleWrite (t : Byte) (index : Nat) (f : EntryFields) (s : State) : Host.Outcome State Fault Refusal :=
  s.request (.ruleWrite t index f) fun h s => s.unlessInit h 0x10 fun s =>
    match readEntry f with
    | none => s.refuse h 0x10 .outOfRange
    | some e =>
      if index < Config.keepOutEntries then
        s.startEdit h 0x10 .write [(index, index)] true (affectedBy (e :: s.entriesAt fun i => decide (i = index)))
          [.write index e]
      else s.refuse h 0x10 .outOfRange

/-- RULE_FILL (04 R76). -/
def execRuleFill (t : Byte) (first last : Nat) (f : EntryFields) (s : State) : Host.Outcome State Fault Refusal :=
  s.request (.ruleFill t first last f) fun h s => s.unlessInit h 0x12 fun s =>
    match readEntry f with
    | none => s.refuse h 0x12 .outOfRange
    | some e =>
      if first ≤ last ∧ last < Config.keepOutEntries then
        s.startEdit h 0x12 .fill [(first, last)] true
          (affectedBy (e :: s.entriesAt (inBlock first (last - first + 1)))) (fillSteps first (last - first + 1) e)
      else s.refuse h 0x12 .outOfRange

/-- RULE_MOVE (04 R77). -/
def execRuleMove (t : Byte) (src dst count : Nat) (s : State) : Host.Outcome State Fault Refusal :=
  s.request (.ruleMove t src dst count) fun h s => s.unlessInit h 0x13 fun s =>
    if 1 ≤ count ∧ src + count ≤ Config.keepOutEntries ∧ dst + count ≤ Config.keepOutEntries then
      s.startEdit h 0x13 .move [(src, src + count - 1), (dst, dst + count - 1)] (s.destFree src dst count)
        (affectedBy (s.entriesAt fun i => inBlock src count i || inBlock dst count i)) (moveSteps src dst count)
    else s.refuse h 0x13 .outOfRange

/-! ## The edit in flight (04 R72) -/

/-- One step of an edit. A write clears the hit count and the sticky flag, a copy keeps them (04 R75 to R77). -/
def State.editStep (st : EditStep) (s : State) : State :=
  match st with
  | .write i e => s.setEntry i e
  | .copy src dst => s.setEntry dst (s.entry src)
  | .clear i => s.setEntry i resetEntry

/-- The request kind of an edit. -/
def EditKind.code : EditKind → Nat
  | .write => 0x10
  | .fill => 0x12
  | .move => 0x13

/-- The lowest index of an edit's ranges: the first index written (04 R72). -/
def Edit.first (e : Edit) : Nat :=
  match e.ranges with
  | [] => 0
  | r :: rs => rs.foldl (fun n q => min n q.1) r.1

/-- The highest index of an edit's ranges: the last index written (04 R72). -/
def Edit.last (e : Edit) : Nat := e.ranges.foldl (fun n q => max n q.2) 0

/-- The completion of an edit: its reply, the record absent, and the start tests of both lanes (04 R72, 05 R88). -/
def State.editDone (e : Edit) (s : State) : State :=
  ((({ s with keepOut := { s.keepOut with edit := none } }).answer ⟨e.tag, e.place⟩ e.kind.code .ok
    (.editDone e.kind e.first e.last (e.taken + 1) e.affected)).startTest 0).startTest 1

/-- The next step of the edit in flight, and its completion with the last. -/
def State.nextEditStep (s : State) : State :=
  match s.keepOut.edit with
  | none => s
  | some e =>
    match e.steps with
    | [] => s
    | st :: rest =>
      let s1 := (s.reach (e.accepted + e.taken + 1)).editStep st
      if rest.isEmpty then (s1.editDone e).settle false s
      else { s1 with keepOut := { s1.keepOut with edit := some { e with taken := e.taken + 1, steps := rest } } }

/-- EDIT_STEP. -/
def execEditStep (s : State) : Host.Outcome State Fault Refusal := .next s.nextEditStep

/-! ## Reading -/

/-- What a RULE_READ leaves of an entry: clear option NONE 0, COUNT 1, ALL FFh (04 R70; log 12). -/
def KeepOutEntry.cleared (clear : Nat) (e : KeepOutEntry) : Option KeepOutEntry :=
  match clear with
  | 0 => some e
  | 1 => some { e with hits := 0 }
  | 0xFF => some { e with hits := 0, sticky := false }
  | _ => none

/-- RULE_READ: the reply carries the values before any clearing. -/
def execRuleRead (t : Byte) (index clear : Nat) (s : State) : Host.Outcome State Fault Refusal :=
  s.request (.ruleRead t index clear) fun h s => s.unlessInit h 0x11 fun s =>
    if index < Config.keepOutEntries then
      match (s.entry index).cleared clear with
      | none => s.refuse h 0x11 .outOfRange
      | some e => (s.setEntry index e).answer h 0x11 .ok (.ruleRead index (s.entry index))
    else s.refuse h 0x11 .outOfRange

/-- What RULE_PROBE answers: the mask site with MASKED and the material with MATERIAL_ONLY (04 R71). -/
def LookupResult.probeBody (r : LookupResult) : Body :=
  .ruleProbe r.decider r.rule (if r.rule = .masked then some r.site else none)
    (if r.rule = .materialOnly then some r.material else none)

/-- RULE_PROBE. -/
def execRuleProbe (t : Byte) (c side x y : Nat) (s : State) : Host.Outcome State Fault Refusal :=
  s.request (.ruleProbe t c side x y) fun h s => s.unlessInit h 0x14 fun s =>
    match sideOf side with
    | none => s.refuse h 0x14 .outOfRange
    | some d =>
      if classOk c && coordOk x && coordOk y then s.answer h 0x14 .ok (s.lookup c d x y).probeBody
      else s.refuse h 0x14 .outOfRange

end Sys2Proof.Machine
end

