-- ==== Sys2Proof/Machine/Line.lean ====
section
/-! DEFINITION. Line control (chapter 10): power-on, the emergency-stop input, the mode machine, HALT, LINE_RESET and
the line settings. -/

namespace Sys2Proof.Machine

/-! ## Entering HALTED (10 R169) -/

/-- A cap or uncap that has not been sent returns to the state it was accepted from (03 R59). -/
def State.unwait (s : State) (r : Applicator) : Applicator :=
  match r.state with
  | .capping =>
    if r.material.isSome then { s.wetted r with waiting := none } else { r with state := .idleDry, waiting := none }
  | .uncapping => { r with state := .parked, waiting := none }
  | .idleDry | .priming | .primed | .spraying | .spitting | .purging | .parked | .fouled => r

/-- An applicator at HALT (03 R59). A wet applicator fouled with its uncap in flight keeps parked-wet and its cap time
(DESIGN CHOICE, log 43). -/
def State.haltUnit (s : State) (a : Fin 6) (r : Applicator) : Applicator :=
  if (s.opOf a).isSome then (if r.state = .fouled then { r with need := none } else { r.foul .halt with need := none })
  else { s.unwait r with need := none }

/-- Changing every applicator, lowest id first, with the notices of R39 (the order is DESIGN CHOICE, log 33). -/
def State.eachUnit (f : Fin 6 → Applicator → Applicator) (s : State) : State :=
  allApps.foldl (fun s a => s.modUnit a (f a)) s

/-- The applicator manager at HALT: the operations in flight are those of the state before (03 R59). -/
def State.haltApps (s : State) : State :=
  let s1 := s.eachUnit fun a r => s.haltUnit a r
  { s1 with apps := { s1.apps with queue := [] } }

/-- The head operation abandoned and the lane IDLE with its arming cleared (05 R104, R105). -/
def State.idleLane (l : Fin 2) (s : State) : State :=
  ((s.modLane l fun r => { r with op := none }).setStatus l .idle).modLane l fun r => { r with arming := clearedArming }

/-- A SPRAYING board at HALT: unmarked it returns to AT_SPRAY with LANE_ABORT raised; marked its spraying is abandoned
(05 R104). -/
def State.haltBoard (l : Fin 2) (s : State) : State :=
  match s.sprayBoard l with
  | none => s
  | some (slot, b) =>
    if b.life = .spraying then
      if b.mark.isSome then s.abandonBoard slot
      else (s.modBoard slot fun b => { b with life := .atSpray, interrupted := true, disarmed := false }).raise 6 slot
    else s

/-- The path engine at HALT for one lane. -/
def State.haltLane (l : Fin 2) (s : State) : State := (s.idleLane l).haltBoard l

/-- The line enters HALTED and each block acts on its own state (10 R169). The spec names no order of the two lanes and of
the six applicators; the model takes them in ascending number, so with two marked SPRAYING boards lane 0's asks for a bay
first (DESIGN CHOICE, log 33). Nor does it name an order of the blocks: the applicators' notices are posted first, then for
each lane its LANE notice before its board's BOARD and HOLD notices, then those of the shuttle (DESIGN CHOICE, log 38). -/
def State.enterHalted (c : ChangeCause) (s : State) : State :=
  ((((s.setMode .halted c).haltApps).haltLane 0).haltLane 1).abandonShuttle.settle false s

/-! ## Power-on and the emergency-stop input -/

/-- POWER_ON: every piece of state takes its power-on value, with the input as sampled (10 R167). The commands that wait
stay, as they come from outside (log 1). -/
def execPowerOn (estop : Bool) (s : State) : Host.Outcome State Fault Refusal :=
  .next { State.powerOn estop with pending := s.pending }

/-- The end of the start-up clear (10 R166, R167). -/
def State.startUpEnd (s : State) : State :=
  if s.line.mode = .initializing then
    let s := s.reach Config.startUpClear
    (if s.line.estop then s.setMode .halted .estop else s.setMode .config .startUpEnd).post .line
  else s

/-- START_UP_END. -/
def execStartUpEnd (s : State) : Host.Outcome State Fault Refusal := .next s.startUpEnd

/-- A change of the emergency-stop input (10 R166, R169). An input reported as it already stands is no change (log 28). The
LINE notice of an entry to HALTED is posted after those of the blocks (DESIGN CHOICE, log 38). -/
def State.estopChange (active : Bool) (s : State) : State :=
  if s.line.estop = active then s
  else
    let s1 := { s with line := { s.line with estop := active } }
    match s.line.mode with
    | .initializing => s1
    | .config => if active then (s1.enterHalted .estop).post .line else s1.post .line
    | .run => if active then (s1.enterHalted .estop).post .line else s1.post .line
    | .drain => if active then (s1.enterHalted .estop).post .line else s1.post .line
    | .halted => s1.post .line

/-- ESTOP_CHANGE. -/
def execEstopChange (active : Bool) (s : State) : Host.Outcome State Fault Refusal := .next (s.estopChange active)

/-! ## Reading the line -/

/-- The number of boards in each life state, QUEUED first (10 R173). -/
def State.lifeCounts (s : State) : List Nat :=
  [.queued, .atSpray, .spraying, .flashing, .ovenReady, .inOven].map fun k =>
    s.boards.countP fun p => decide (p.2.life = k)

/-- What LINE_STATUS reads (10 R173). -/
def State.lineView (s : State) : LineView where
  clock := s.clock
  line := s.line
  clearLeft := if s.line.mode = .initializing then some (Config.startUpClear - s.clock) else none
  settings := s.oven.settings
  staged := s.oven.staged
  counts := s.lifeCounts
  drainLeft := if s.line.mode = .drain then some (s.boards.countP fun p => p.2.beforeBuffer) else none

/-- LINE_STATUS: accepted in every mode. -/
def execLineStatus (t : Byte) (s : State) : Host.Outcome State Fault Refusal :=
  s.request (.lineStatus t) fun h s => s.answer h 0x01 .ok (.lineStatus s.lineView)

/-! ## LINE_SET (10 R172) -/

/-- The application group written: start list entries that the new length ages out leave at once (03 R53), and each
entry of the entry start list counts or not by the new length (07 R129). -/
def State.setLimits (m : Limits) (s : State) : State :=
  { s with
    line := { s.line with limits := m }
    apps := { s.apps with startList := s.apps.startList.filter fun t => decide (s.clock < t + 1000 * m.windowLength) }
    oven := { s.oven with
      entryStart := s.oven.entryStart.map fun e => ⟨e.time, !decide (s.clock < e.time + 1000 * m.entryLength)⟩ } }

/-- The oven group written: applied at once with the oven empty, or staged (07 R133). -/
def State.setOven (v : OvenSettings) (s : State) : State :=
  if s.oven.occupancy.isEmpty then { s with oven := { s.oven with settings := v } }
  else
    let s1 := { s with oven := { s.oven with staged := some v } }
    if s.oven.staged.isNone then s1.post .oven else s1

/-- LINE_SET. The mode test of the application group goes before the range test of its values, an order R172 does not
give (DESIGN CHOICE, log 35). -/
def execLineSet (t : Byte) (f : SettingsFields) (s : State) : Host.Outcome State Fault Refusal :=
  s.request (.lineSet t f) fun h s => s.unlessInit h 0x02 fun s =>
    match f with
    | .application l n el en =>
      if s.line.mode ≠ .config then s.refuse h 0x02 .wrongMode
      else
        match readLimits l n el en with
        | none => s.refuse h 0x02 .outOfRange
        | some m => ((s.setLimits m).answer h 0x02 .ok .lineSetApplication).settle true s
    | .oven a b c d g =>
      match readOvenSettings a b c d g with
      | none => s.refuse h 0x02 .outOfRange
      | some v => (s.setOven v).answer h 0x02 .ok (.lineSetOven (!s.oven.occupancy.isEmpty))
    | .other _ => s.refuse h 0x02 .outOfRange

/-! ## MODE (10 R168) -/

/-- The mode becomes RUN: the start test is made for the board at each spray position (05 R88). -/
def State.enterRun (s : State) : State := ((s.setMode .run .mode).startTest 0).startTest 1

/-- MODE DRAIN accepted: with the drain condition holding, the mode passes on to CONFIG at once. -/
def State.enterDrain (s : State) : State :=
  let s := s.setMode .drain .mode
  if s.drained then s.setMode .config .drainEnd else s

/-- The change that MODE makes, or none where the mode found refuses the target. -/
def State.modeChange (target : LineMode) (s : State) : Option State :=
  match s.line.mode, target with
  | .config, .config => some s
  | .config, .run => some s.enterRun
  | .run, .config => some (s.setMode .config .mode)
  | .run, .run => some s
  | .run, .drain => some s.enterDrain
  | .drain, .config => some (s.setMode .config .mode)
  | .drain, .drain => some s
  | _, _ => none

/-- MODE. -/
def execMode (t : Byte) (target : Nat) (s : State) : Host.Outcome State Fault Refusal :=
  s.request (.mode t target) fun h s => s.unlessInit h 0x03 fun s =>
    match targetOf target with
    | none => s.refuse h 0x03 .outOfRange
    | some m =>
      match s.modeChange m with
      | none => s.refuse h 0x03 .wrongMode
      | some s1 => (s1.answer h 0x03 .ok (.modes s.line.mode s1.line.mode)).settle false s

/-! ## HALT and RECOVER (10 R169, R170) -/

/-- HALT: in HALTED it is answered OK and changes nothing. -/
def execHalt (t : Byte) (s : State) : Host.Outcome State Fault Refusal :=
  s.request (.halt t) fun h s => s.unlessInit h 0x04 fun s =>
    if s.line.mode = .halted then s.answer h 0x04 .ok (.modeBefore .halted)
    else (s.enterHalted .halt).answer h 0x04 .ok (.modeBefore s.line.mode)

/-- RECOVER. -/
def execRecover (t : Byte) (s : State) : Host.Outcome State Fault Refusal :=
  s.request (.recover t) fun h s => s.unlessInit h 0x05 fun s =>
    if s.line.mode ≠ .halted then s.refuse h 0x05 .wrongMode
    else if s.line.estop then s.refuse h 0x05 .wrongState
    else ((s.setMode .config .recover).answer h 0x05 .ok .empty).settle false s

/-! ## LINE_RESET (10 R171) -/

/-- Whether LINE_RESET fouls an applicator, unsent caps and uncaps returned (03 R60). -/
def State.resetFouls (s : State) (a : Fin 6) : Bool :=
  if (s.opOf a).isSome then decide ((s.unit a).state ≠ .fouled) else decide ((s.unwait (s.unit a)).state = .primed)

/-- An applicator after LINE_RESET (03 R60, R61: parked-wet and the cap time are kept). -/
def State.resetUnit (s : State) (a : Fin 6) : Applicator :=
  if (s.opOf a).isSome then
    (if (s.unit a).state = .fouled then { s.unit a with need := none } else { (s.unit a).foul .lineReset with need := none })
  else if (s.unwait (s.unit a)).state = .primed then { (s.unwait (s.unit a)).foul .lineReset with need := none }
  else { s.unwait (s.unit a) with need := none }

/-- Every class use count at 0 (02 R26). -/
def State.unusedClasses (s : State) : Table ClassRecord :=
  (s.recipe.classes.map fun p => (p.1, { p.2 with useCount := 0 })).filter fun p => decide (p.2 ≠ resetClass)

/-- A lane after LINE_RESET (05 R105). -/
def Lane.reset (r : Lane) : Lane := { r with op := none, status := .idle, arming := clearedArming }

/-- LINE_RESET accepted: each block's row of the table of R171, and the notice set emptied. -/
def State.lineReset (s : State) : State :=
  { s with
    notices := []
    recipe := { s.recipe with classes := s.unusedClasses }
    tracker := { s.tracker with boards := [], queues := Vector.replicate 2 [] }
    apps := { s.apps with units := Vector.ofFn fun a => s.resetUnit a, startList := [], queue := [] }
    path := { lanes := s.path.lanes.map Lane.reset }
    oven := { s.oven with
      bays := Vector.replicate 8 .empty, waitList := [], gates := Vector.replicate 2 false, shuttle := none,
      occupancy := [], entryStart := [], lastEntered := 1, settings := s.oven.staged.getD s.oven.settings,
      staged := none }
    hold := { s.hold with lastTaken := 31 } }

/-- LINE_RESET. -/
def execLineReset (t : Byte) (s : State) : Host.Outcome State Fault Refusal :=
  s.request (.lineReset t) fun h s => s.unlessInit h 0x06 fun s =>
    if s.line.mode = .config ∨ s.line.mode = .halted then
      s.lineReset.answer h 0x06 .ok (.lineReset s.boards.length (allApps.countP s.resetFouls))
    else s.refuse h 0x06 .wrongMode

end Sys2Proof.Machine
end

