-- ==== Sys2Proof/Machine/Cure.lean ====
section
/-! DEFINITION. Cure dose (chapter 8): zone samples, dose credit, zone changes and overdue boards. -/

namespace Sys2Proof.Machine

/-! ## The rate (08 R141) -/

/-- The rate over one interval of the rate table, the product formed exactly and the quotient truncated toward zero. -/
def interpolate (p q : Nat × Nat) (t : Nat) : Nat :=
  ((p.2 : Int) + Int.tdiv (((q.2 : Int) - p.2) * ((t : Int) - p.1)) ((q.1 : Int) - p.1)).toNat

/-- The rate at a temperature on points in ascending temperature, from the first on. -/
def rateFrom : List (Nat × Nat) → Nat → Nat
  | [], _ => 0
  | [p], _ => p.2
  | p :: q :: rest, t => if t ≤ p.1 then p.2 else if t < q.1 then interpolate p q t else rateFrom (q :: rest) t

/-- The rate of a material at a sample temperature. -/
def MaterialRecord.rate (m : MaterialRecord) (t : Nat) : Nat := rateFrom m.points t

/-! ## Credit (08 R140, R142, R143) -/

/-- The time a credit counts and whether it was clamped. -/
def creditTime (now last : Nat) : Nat × Bool :=
  if Config.creditLimit < now - last then (Config.creditLimit, true) else (now - last, false)

/-- An accumulator credited with rate `r` for `dt` ms: the dose rises by N / 256 and the remainder is carried. A dose that
would pass the limit stands at it with remainder 0, and from then on every credit leaves it so, by the mark (log 27); one
that comes to the limit without passing it goes on carrying its remainder. -/
def Accumulator.credit (r dt : Nat) (a : Accumulator) : Accumulator :=
  let n := r * dt + a.rest
  if a.saturated || decide (Config.doseLimit < a.dose + n / 256) then
    { a with dose := Config.doseLimit, rest := 0, saturated := true }
  else { a with dose := a.dose + n / 256, rest := n % 256 }

/-- A board after a credit at temperature `t`, before any raise. -/
def State.credited (s : State) (t : Nat) (b : Board) : Board :=
  let dt := creditTime s.clock (b.lastCredit.getD s.clock)
  { b with
    lastCredit := some s.clock
    doseGap := b.doseGap || dt.2
    accs := b.accs.map fun a => a.credit ((s.mat a.material).rate t) dt.1
    overTemp := b.overTemp || b.used.members.any fun m => decide ((s.mat m).maxTemp < t) }

/-- The credit of one board: a temperature first seen above a max_temp raises OVER_TEMP. -/
def State.creditBoard (t slot : Nat) (s : State) : State :=
  match s.board slot with
  | none => s
  | some b =>
    let s1 := s.modBoardQuiet slot (s.credited t)
    if !b.overTemp && (s.credited t b).overTemp then s1.raise 10 slot else s1

/-- Whether the board of a slot counts in zone number `z`. -/
def State.inZone (s : State) (z slot : Nat) : Bool := (s.board slot).any fun b => decide (b.zone = some z)

/-- Credit to every board of the occupancy list in zone number `z`, in occupancy order. -/
def State.creditZone (z t : Nat) (s : State) : State :=
  (s.oven.occupancy.filter (s.inZone z)).foldl (fun s k => s.creditBoard t k) s

/-! ## Zone samples (08 R137) -/

/-- A sample temperature clamped to 0 to 3000. -/
def clampTemp (x : BitVec 16) : Nat := min Config.tempLimit x.toInt.toNat

/-- A valid sample for a zone. -/
def State.validSample (z : Fin 4) (t : Nat) (s : State) : State :=
  let s1 := s.setZone z ⟨t, some s.clock, false, some (s.clock + Config.staleTime)⟩
  let s2 := if (s.zone z).stale then s1.post .oven else s1
  (s2.creditZone (z.val + 1) t).settle (s.zone z).stale s

/-- ZONE_SAMPLE outside INITIALIZING. -/
def State.zoneSample (zone : Nat) (temp : BitVec 16) (fault : Bool) (s : State) : State :=
  match zoneOf zone with
  | none => s.post .oven
  | some z => if fault then s else s.validSample z (clampTemp temp)

/-- ZONE_SAMPLE. -/
def execZoneSample (zone : Nat) (temp : BitVec 16) (fault : Bool) (s : State) : Host.Outcome State Fault Refusal :=
  .next (s.discardInit (·.zoneSample zone temp fault))

/-! ## Staleness, zone changes, overdue boards (08 R138, R139, R144) -/

/-- The admission in flight withdrawn, if there is one. -/
def State.withdrawAny (s : State) : State :=
  match s.oven.shuttle with
  | none => s
  | some o =>
    match o.kind with
    | .admission => s.withdraw o.slot
    | .divert => s

/-- The stale deadline of a zone expires. -/
def State.zoneStale (z : Fin 4) (s : State) : State :=
  match (s.zone z).deadline with
  | none => s
  | some d =>
    let s1 := (s.reach d).setZone z { s.zone z with stale := true, deadline := none }
    ((s1.post .oven).withdrawAny).settle false s

/-- ZONE_STALE. -/
def execZoneStale (z : Fin 4) (s : State) : Host.Outcome State Fault Refusal := .next (s.zoneStale z)

/-- The end time in seconds of zones 1 to 3, none for another number. -/
def OvenSettings.zoneEnd (v : OvenSettings) : Nat → Option Nat
  | 1 => some v.end1
  | 2 => some v.end2
  | 3 => some v.end3
  | _ => none

/-- The moment of the next zone-change expiry of a board (08 R139). -/
def State.zoneChangeAt (s : State) (b : Board) : Option Nat :=
  match b.ovenEntry, b.zone.bind s.oven.settings.zoneEnd with
  | some e, some z => if b.life = .inOven then some (e + 1000 * z) else none
  | _, _ => none

/-- A zone-change expiry: the current zone rises by 1. -/
def State.zoneChange (slot : Nat) (s : State) : State :=
  match (s.board slot).bind s.zoneChangeAt with
  | none => s
  | some d => (s.reach d).modBoardQuiet slot fun b => { b with zone := b.zone.map (· + 1) }

/-- ZONE_CHANGE. -/
def execZoneChange (slot : Nat) (s : State) : Host.Outcome State Fault Refusal := .next (s.zoneChange slot)

/-- The moment of the overdue expiry of a board (08 R144). -/
def State.overdueAt (s : State) (b : Board) : Option Nat :=
  if b.overdueArmed ∧ b.life = .inOven then
    b.ovenEntry.map fun e => e + 1000 * (s.oven.settings.end4 + s.oven.settings.grace)
  else none

/-- The overdue expiry of a board: EXIT_OVERDUE is raised. -/
def State.overdue (slot : Nat) (s : State) : State :=
  match (s.board slot).bind s.overdueAt with
  | none => s
  | some d =>
    (((s.reach d).modBoardQuiet slot fun b => { b with overdueArmed := false }).raise 15 slot).settle false s

/-- OVERDUE_EXPIRY. -/
def execOverdueExpiry (slot : Nat) (s : State) : Host.Outcome State Fault Refusal := .next (s.overdue slot)

end Sys2Proof.Machine
end

