-- ==== Sys2Proof/Machine/Wire.lean ====
section
/-! DEFINITION. The frames the LC72 sends: replies (11 R176, R178), notices (R177) and head commands (R179). Where R178
leaves the layout of a reply body open the choice is in log 12 and log 13. -/

namespace Sys2Proof.Machine

/-! ## Fields (11 R178) -/

/-- A 1-byte field. -/
abbrev w1 (n : Nat) : List Byte := leBytes 1 n

/-- A 2-byte field. -/
abbrev w2 (n : Nat) : List Byte := leBytes 2 n

/-- A 4-byte field; a clock value shows its low 32 bits (00 R1). -/
abbrev w4 (n : Nat) : List Byte := leBytes 4 n

/-- A flag. An item of two values for which no rule names a flag or codes is sent as one (DESIGN CHOICE, log 44). -/
def wFlag (b : Bool) : List Byte := w1 (if b then 1 else 0)

/-- A field of `k` bytes that may be absent: the presence byte, then the value or zeros. -/
def wOpt {α : Type} (k : Nat) (f : α → List Byte) : Option α → List Byte
  | none => w1 0 ++ leBytes k 0
  | some a => w1 1 ++ f a

/-- A list: the count, then the items. -/
def wList {α : Type} (f : α → List Byte) (xs : List α) : List Byte := w1 xs.length ++ xs.flatMap f

/-- A tag: its length and 24 bytes. -/
def wTag (g : List Byte) : List Byte := tagBytes g

/-! ## Codes -/

def LineMode.code : LineMode → Nat
  | .initializing => 0
  | .config => 1
  | .run => 2
  | .drain => 3
  | .halted => 4

def ChangeCause.code : ChangeCause → Nat
  | .powerOn => 0
  | .startUpEnd => 1
  | .mode => 2
  | .drainEnd => 3
  | .halt => 4
  | .estop => 5
  | .recover => 6

def LifeState.code : LifeState → Nat
  | .queued => 0
  | .atSpray => 1
  | .spraying => 2
  | .flashing => 3
  | .ovenReady => 4
  | .inOven => 5

def Location.code : Location → Nat
  | .laneQueue => 0
  | .sprayPos => 1
  | .toDivert => 2
  | .oven => 3
  | .bay n => 0x10 + n.val

def markCode : Option Mark → Nat
  | none => 0
  | some .rework => 1
  | some .scrap => 2

def Side.code : Side → Nat
  | .top => 0
  | .bottom => 1

def SideSel.code : SideSel → Nat
  | .top => 0
  | .bottom => 1
  | .either => 2

def CellRule.code : CellRule → Nat
  | .coat => 0
  | .keepOut => 1
  | .masked => 2
  | .materialOnly => 3

def Disposition.code : Disposition → Nat
  | .cured => 0
  | .rework => 1
  | .scrap => 2
  | .removed => 3

def SiteState.code : SiteState → Nat
  | .unread => 0
  | .present => 1
  | .absent => 2

def Verdict.code : Verdict → Nat
  | .overcure => 0
  | .doseUncertain => 1
  | .undercure => 2
  | .cured => 3

def Route.code : Route → Nat
  | .curedStream => 0
  | .rework => 1

def AppState.code : AppState → Nat
  | .idleDry => 0
  | .priming => 1
  | .primed => 2
  | .spraying => 3
  | .spitting => 4
  | .purging => 5
  | .capping => 6
  | .parked => 7
  | .uncapping => 8
  | .fouled => 9

def AppKind.code : AppKind → Nat
  | .spray => 0
  | .jet => 1
  | .needle => 2

/-- A fault kind in a reply, in the order of R38 and R98 (log 12). -/
def FaultKind.code : FaultKind → Nat
  | .clog => 0
  | .pressure => 1
  | .position => 2
  | .other => 3

def FoulCause.code : FoulCause → Nat
  | .fault k => k.code
  | .deadline => 4
  | .keepWet => 5
  | .capExpired => 6
  | .halt => 7
  | .lineReset => 8

def Origin.code : Origin → Nat
  | .lineComputer => 0
  | .automatic => 1

def WaitKind.code : WaitKind → Nat
  | .cap => 0
  | .uncap => 1

def PrimeKind.code : PrimeKind → Nat
  | .prime => 0
  | .purge => 1

def OpKind.code : OpKind → Nat
  | .stroke => 0
  | .prime => 1
  | .purge => 2
  | .spit => 3
  | .cap => 4
  | .uncap => 5

def Axis.code : Axis → Nat
  | .x => 0
  | .y => 1

def LaneStatus.code : LaneStatus → Nat
  | .idle => 0
  | .armed => 1
  | .running => 2
  | .waitApplicator => 3
  | .stopped => 4

def ArmMode.code : ArmMode → Nat
  | .once => 0
  | .chain => 1

def Withhold.code : Withhold → Nat
  | .mode => 0
  | .notArmed => 1
  | .classMismatch => 2
  | .masks => 3
  | .blocked => 4
  | .marked => 5
  | .edit => 6
  | .spit => 7

def StrokeCheck.code : StrokeCheck → Nat
  | .lane => 0
  | .material => 1
  | .swathKind => 2
  | .swathGrid => 3

def EditKind.wire : EditKind → Nat
  | .write => 0
  | .fill => 1
  | .move => 2

def RouteAction.code : RouteAction → Nat
  | .flag => 0
  | .stop => 1
  | .divert => 2

def ReleaseVerdict.code : ReleaseVerdict → Nat
  | .goOn => 0
  | .divert => 1
  | .scrap => 2

def ShuttleKind.code : ShuttleKind → Nat
  | .admission => 0
  | .divert => 1

/-- A result code (11 R176). -/
def ResultCode.code : ResultCode → Nat
  | .ok => 0x00
  | .malformed => 0x01
  | .unknownKind => 0x02
  | .outOfRange => 0x03
  | .wrongMode => 0x04
  | .wrongState => 0x05
  | .notFound => 0x06
  | .inUse => 0x07
  | .classInSpray => 0x08
  | .editInFlight => 0x09
  | .destOccupied => 0x0A
  | .duplicateTag => 0x0B
  | .scrappedTag => 0x0C
  | .noRoom => 0x0D
  | .strokeInvalid => 0x0E
  | .strokesInUse => 0x0F
  | .notInService => 0x10
  | .intakeFull => 0x11

/-! ## Records -/

def wOven (v : OvenSettings) : List Byte := w2 v.end1 ++ w2 v.end2 ++ w2 v.end3 ++ w2 v.end4 ++ w2 v.grace

/-- The body of LINE_STATUS. The time remaining and the drain count are fields that are absent outside the mode that has them
(DESIGN CHOICE, log 13); the emergency-stop input is a flag, inactive 0 and active 1 (DESIGN CHOICE, log 44). -/
def wLine (v : LineView) : List Byte :=
  w4 v.clock ++ w1 v.line.mode.code ++ w1 v.line.lastChange.before.code ++ w1 v.line.lastChange.after.code ++
  w1 v.line.lastChange.cause.code ++ w4 v.line.lastChange.time ++ wFlag v.line.estop ++ wOpt 1 w1 v.clearLeft ++
  w1 v.line.limits.windowLimit ++ w1 v.line.limits.windowLength ++ w1 v.line.limits.entryLimit ++
  w2 v.line.limits.entryLength ++ wOven v.settings ++ wFlag v.staged.isSome ++ wOpt 10 wOven v.staged ++
  v.counts.flatMap w1 ++ wOpt 1 w1 v.drainLeft

def wSlot (m : MatSlot) : List Byte := w1 m.material ++ w2 m.required ++ w2 m.maximum

def wClass (r : ClassRecord) : List Byte :=
  wFlag r.valid ++ w1 r.count ++ wOpt 5 wSlot r.slot1 ++ wOpt 5 wSlot r.slot2 ++ w2 r.sites.toNat ++ wFlag r.keepOut ++
  w2 r.gateLimit ++ w1 r.flowCap ++ w1 r.passLimit ++ w2 r.maskWait ++ w2 r.timeout ++ wFlag r.inspect ++ w1 r.useCount

def wMaterial (r : MaterialRecord) : List Byte :=
  wFlag r.valid ++ w2 r.primeMs ++ w2 r.purgeMs ++ w2 r.keepWetS ++ w2 r.capMaxMin ++ w2 r.flashMinS ++ w2 r.openMaxS ++
  w2 r.maxTemp ++ wList (fun p : Nat × Nat => w2 p.1 ++ w2 p.2) r.points

/-- The 18 bytes of a keep-out entry as it is read. -/
def wEntry (e : KeepOutEntry) : List Byte :=
  wFlag e.enabled ++ w1 e.clsValue.toNat ++ w1 e.clsCare.toNat ++ w1 e.side.code ++ w2 e.xValue.toNat ++
  w2 e.xCare.toNat ++ w2 e.yValue.toNat ++ w2 e.yCare.toNat ++ w1 e.rule.code ++ w1 e.site ++ w1 e.material ++
  w2 e.hits ++ wFlag e.sticky

/-- The 12 bytes of a stroke record. -/
def wStroke (r : Stroke) : List Byte :=
  w1 r.applicator.val ++ w1 r.material ++ w1 r.axis.code ++ w2 r.fixed ++ w2 r.start ++ w2 r.stop ++ w1 r.swath ++
  w1 r.flow ++ wFlag r.lastUse

/-- An arming record. AUTO_MATERIAL is a flag, off 0 and on 1 (DESIGN CHOICE, log 42). -/
def wArming (a : Arming) : List Byte :=
  wOpt 1 w1 a.cls ++ w2 a.first ++ w2 a.count ++ w1 a.mode.code ++ w2 a.current ++ w2 a.remaining ++ wFlag a.auto

def wStrokeRef (r : StrokeRef) : List Byte := w1 r.slot ++ w2 r.index ++ wFlag r.detached

def wOp (shown : BitVec 32) (o : HeadOp) : List Byte :=
  w1 o.opId ++ w1 o.kind.code ++ w1 o.app.val ++ w4 shown.toNat ++ wOpt 4 wStrokeRef o.stroke

/-- The current stroke index of LANE_STATUS: present for a SPRAYING board that is not disarmed (05 R102). -/
def LaneView.index (v : LaneView) : Option Nat :=
  v.board.bind fun p => if p.2.life = .spraying ∧ p.2.disarmed = false then some v.lane.arming.current else none

/-- The body of LANE_STATUS. What R102 gives under a condition (the withholding cause, the board, its disarmed flag, the
current index, the stroke of the operation) is a field that is absent where the condition fails (DESIGN CHOICE, log 13). -/
def wLane (v : LaneView) : List Byte :=
  w1 v.lane.status.code ++ wArming v.lane.arming ++
  wOpt 27 (fun p : Nat × Board => w1 p.1 ++ wTag p.2.tag ++ w1 p.2.life.code) v.board ++
  wOpt 1 (fun c : Withhold => w1 c.code) v.withhold ++
  wOpt 1 (fun p : Nat × Board => wFlag p.2.disarmed) (v.board.filter fun p => decide (p.2.life = .spraying)) ++
  wOpt 2 w2 v.index ++ wOpt 12 (wOp v.shownDeadline) v.lane.op ++ w1 v.lane.nextOp ++ wFlag v.lane.lateFlag ++
  wOpt 6 (fun r : LateReply => w1 r.opId ++ wFlag r.fault ++ w4 r.time) v.lane.lastLate ++
  wOpt 7 (fun f : StrokeFault => w1 (f.kind.elim 4 FaultKind.code) ++ w2 f.index ++ w4 f.time) v.lane.lastFault

def wQueueEntry (p : PrimeEntry × Nat) : List Byte :=
  w1 p.1.kind.code ++ wOpt 1 w1 p.1.material ++ w1 p.1.origin.code ++ w1 p.2

/-- One applicator of APPLICATOR_STATUS. The waiting command is a field that is absent for none, with CAP 0 and UNCAP 1
(DESIGN CHOICE, log 37); the parked time so far is a field that is absent but for an applicator parked wet (DESIGN CHOICE,
log 13; which state shows it: log 34). -/
def wApp (v : AppView) : List Byte :=
  w1 v.app.val ++ w1 (v.app.val / 3) ++
  w1 (AppKind.code (match v.app.val % 3 with | 0 => .spray | 1 => .jet | _ => .needle)) ++ w1 v.unit.state.code ++
  wOpt 1 w1 v.unit.material ++ w1 v.unit.debt ++ wOpt 4 w4 v.unit.keepWet ++ wFlag v.unit.parkedWet ++
  wOpt 4 w4 v.unit.capTime ++ wOpt 4 w4 v.parkedFor ++ wOpt 1 (fun c : FoulCause => w1 c.code) v.unit.foulCause ++
  wOpt 2 (fun c : WaitCommand => w1 c.kind.code ++ w1 c.origin.code) v.unit.waiting ++ wOpt 5 wQueueEntry v.entry ++
  wOpt 6 (fun p : HeadOp × BitVec 32 => w1 p.1.kind.code ++ w1 p.1.opId ++ w4 p.2.toNat) v.op ++
  wOpt 1 w1 v.unit.need

def wAcc (a : Accumulator) : List Byte := w1 a.material ++ w4 a.dose ++ w1 a.rest

/-- The identity block, 38 bytes (11 R178). -/
def wIdentity (v : BoardView) : List Byte :=
  w1 v.slot ++ wTag v.board.tag ++ w1 v.board.cls ++ w1 v.board.lane.val ++ w1 v.board.side.code ++ w1 v.board.pass ++
  w1 v.board.life.code ++ w1 v.board.loc.code ++ w4 v.board.announced ++ w1 (markCode v.board.mark) ++ wFlag v.blocked

def wSummary (v : BoardView) : List Byte :=
  wIdentity v ++
  (w2 v.board.strokesDone ++ w2 v.board.gated ++ w1 v.board.used.toNat ++ wOpt 4 w4 v.board.sprayEnd ++
    wFlag v.board.flowClamped ++ wFlag v.board.interrupted ++ wFlag v.board.disarmed) ++
  (wList (fun p : Nat × SiteState => w1 p.2.code) v.board.sites ++ wOpt 4 w4 v.board.maskWait ++
    w1 v.board.findings.length ++ w1 v.board.overflow ++ w1 (v.board.kindsSeen.toNat / 2) ++ wFlag v.board.inspectDone) ++
  (wOpt 4 w4 v.board.flashReady ++ wOpt 4 w4 v.board.openDeadline ++ wOpt 4 w4 v.board.ovenEntry ++
    wOpt 1 w1 v.board.zone ++ wList wAcc v.board.accs ++ wFlag v.board.doseGap ++ wFlag v.board.overTemp ++
    wOpt 1 (fun x : Verdict => w1 x.code) v.board.verdict) ++
  (w2 v.board.pendingSet.toNat ++ w2 v.board.inService.toNat)

def wFinding (f : Finding) : List Byte := w1 f.kind ++ w1 f.side.code ++ w2 f.x ++ w2 f.y ++ w4 f.time

def wListed (v : BoardView) : List Byte :=
  w1 v.slot ++ wTag v.board.tag ++ w1 v.board.lane.val ++ w1 v.board.life.code ++ w1 v.board.loc.code ++
  w1 (markCode v.board.mark) ++ wFlag v.blocked

def wHistory (e : HistoryEntry) : List Byte :=
  wTag e.tag ++ w1 e.cls ++ w1 e.pass ++ w1 e.disposition.code ++ w2 e.reasons.toNat ++ w4 e.time ++ w4 e.seq.toNat

def wTake (v : TakeView) : List Byte := w1 v.slot ++ wTag v.tag ++ w1 v.reason ++ w1 v.route.priority

def wReason (v : ReasonView) : List Byte :=
  w1 v.reason ++ w1 v.route.priority ++ w1 v.route.action.code ++ wFlag v.route.masked

def wHeld (v : HoldView) : List Byte :=
  w1 v.view.slot ++ wTag v.view.board.tag ++ w1 v.view.board.life.code ++ w2 v.view.board.pendingSet.toNat ++
  w2 v.view.board.inService.toNat ++ wList wReason v.reasons ++ wFlag v.view.blocked ++ w1 (markCode v.view.board.mark)

def wZone (z : Zone) : List Byte := w2 z.temp ++ wOpt 4 w4 z.sampled ++ wFlag z.stale ++ wOpt 4 w4 z.deadline

def wOvenBoard (v : BoardView) : List Byte :=
  w1 v.slot ++ wTag v.board.tag ++ w1 v.board.cls ++ w1 v.board.lane.val ++ w4 (v.board.ovenEntry.getD 0) ++
  w1 (v.board.zone.getD 0) ++ w4 (v.board.lastCredit.getD 0) ++ wFlag v.board.doseGap ++ wFlag v.board.overTemp ++
  wFlag v.blocked ++ wList wAcc v.board.accs

/-- A bay of OVEN_STATUS. Its slot is a field that is absent for an EMPTY bay (DESIGN CHOICE, log 13). -/
def wBay : Bay → List Byte
  | .empty => w1 0 ++ wOpt 1 w1 none
  | .reserved k => w1 1 ++ wOpt 1 w1 (some k)
  | .occupied k => w1 2 ++ wOpt 1 w1 (some k)

def wShuttle (o : ShuttleOp) : List Byte :=
  w1 o.kind.code ++ w1 o.slot ++ w1 o.bay.val ++ w4 o.release ++ w4 o.deadline

/-- The last exit record; its absent form takes 42 bytes, those of a record with no accumulator. -/
def wExit (r : ExitRecord) : List Byte :=
  w1 r.slot ++ wTag r.tag ++ w1 r.cls ++ w1 r.pass ++ w4 r.entry ++ w4 r.exit ++ w1 r.verdict.code ++ w1 r.route.code ++
  w1 r.disposition.code ++ wFlag r.doseGap ++ wFlag r.overTemp ++ wList wAcc r.accs

/-- The body of OVEN_STATUS. The four zones and the eight bays stand without a count byte (DESIGN CHOICE, log 13). -/
def wOvenView (v : OvenView) : List Byte :=
  v.oven.zones.toList.flatMap wZone ++ wOven v.oven.settings ++ wFlag v.oven.staged.isSome ++
  wOpt 10 wOven v.oven.staged ++ w1 v.limits.entryLimit ++ w2 v.limits.entryLength ++
  wList (fun p : EntryStart × Bool => w4 p.1.time ++ wFlag p.2) (v.oven.entryStart.zip v.counting) ++
  wList wOvenBoard v.boards ++ v.oven.bays.toList.flatMap wBay ++ wList w1 v.oven.waitList ++
  wOpt 11 wShuttle v.oven.shuttle ++ w1 v.oven.lastEntered.val ++ w1 v.oven.diverter.code ++ wOpt 42 wExit v.oven.lastExit

/-! ## Reply bodies -/

/-- The bytes of a reply body, item after item in the order of its owning rule. The deciding index of RULE_PROBE is a
field that is absent for DEFAULT: 00h and index 0 (DESIGN CHOICE, log 37); its mask site and its material are fields that are
absent where R71 does not give them (DESIGN CHOICE, log 13). The criteria of a FINDING reply and their reasons are one list of
pairs of an index and a reason (DESIGN CHOICE, log 49). The board of a HOLD_STATUS of a named slot is a list of one, with its
count byte (DESIGN CHOICE, log 13). -/
def Body.bytes : Body → List Byte
  | .empty => []
  | .lineStatus v => wLine v
  | .lineSetApplication => w1 0
  | .lineSetOven staged => w1 1 ++ wFlag staged
  | .modes before after => w1 before.code ++ w1 after.code
  | .modeBefore before => w1 before.code
  | .lineReset boards fouled => w1 boards ++ w1 fouled
  | .recipeId n => w1 n
  | .classRead r used => wClass r ++ wFlag used
  | .materialRead r held named => wMaterial r ++ wFlag held ++ w1 named
  | .editDone k first last steps x => w1 k.wire ++ w2 first ++ w2 last ++ w2 steps ++ leBytes 6 x.toNat
  | .classInSpray x slot c => leBytes 6 x.toNat ++ w1 slot ++ w1 c
  | .ruleRead i e => w2 i ++ wEntry e
  | .ruleProbe d r site m => wOpt 2 w2 d ++ w1 r.code ++ wOpt 1 w1 site ++ wOpt 1 w1 m
  | .criterionWrite i n => w2 i ++ w1 n
  | .criterionRead c n =>
    w1 c.cls ++ w1 c.kind ++ w1 c.side.code ++ wFlag c.keepOutOnly ++ w1 c.threshold ++ w1 c.reason ++ w1 n
  | .routeWrite n changed marked => w1 n ++ w1 changed ++ w1 marked
  | .routeRead r level a b =>
    w1 r.priority ++ w1 r.action.code ++ wFlag r.masked ++ wFlag r.clearOnRelease ++ wFlag level ++ w1 a ++ w1 b
  | .strokeLoad l i n => w1 l ++ w2 i ++ w1 n
  | .strokeRead rs => wList wStroke rs
  | .armed l a => w1 l ++ wArming a
  | .strokeInvalid i k => w2 i ++ w1 k.code
  | .disarmed l st => w1 l ++ w1 st.code
  | .laneStatus v => wLane v
  | .accepted => w1 0
  | .unchanged => w1 1
  | .applicators vs limit length starts => wList wApp vs ++ w1 limit ++ w1 length ++ wList w4 starts
  | .announced slot g pass time m => w1 slot ++ wTag g ++ w1 pass ++ w4 time ++ w1 (markCode m)
  | .boardSummary v => wSummary v
  | .boardFindings fs n ts => wList wFinding fs ++ w1 n ++ ts.flatMap w1
  | .boardList vs => wList wListed vs
  | .retired slot g time => w1 slot ++ wTag g ++ w4 time
  | .history oldest next es => w4 oldest.toNat ++ w4 next.toNat ++ wList wHistory es
  | .maskReport slot g k before after missing waits =>
    w1 slot ++ wTag g ++ w1 k ++ w1 before.code ++ w1 after.code ++ wFlag missing ++ wFlag waits
  | .finding slot g stored n extra rs =>
    w1 slot ++ wTag g ++ w1 (if stored then 0 else 1) ++ w1 n ++ w1 extra ++
    wList (fun p : Nat × Nat => w2 p.1 ++ w1 p.2) rs
  | .inspectDone slot g before => w1 slot ++ wTag g ++ wFlag before
  | .hold slot g a b blocked m => w1 slot ++ wTag g ++ wFlag a ++ wFlag b ++ wFlag blocked ++ w1 (markCode m)
  | .holdTake c left => wTake c ++ w1 c.route.action.code ++ w2 left
  | .holdRelease slot g n v cleared again blocked m =>
    w1 slot ++ wTag g ++ w1 n ++ w1 v.code ++ wFlag cleared ++ wFlag again ++ wFlag blocked ++ w1 (markCode m)
  | .holdStatus last next cands blocked boards further =>
    w1 last ++ wOpt 28 wTake next ++ w2 cands ++ w1 blocked ++ wList wHeld boards ++ further.elim [] (wOpt 1 w1)
  | .ovenStatus v => wOvenView v

/-! ## Frames sent -/

/-- A reply frame: the result code, then the body (11 R176). -/
def Reply.frame (r : Reply) : Frame := ⟨byteOf r.kind, r.tag, w1 r.code.code ++ r.body.bytes⟩

/-- The kind and subject of a notice (11 R177). -/
def Notice.payload : Notice → List Byte
  | .line => w1 1 ++ w1 0
  | .lane l => w1 2 ++ w1 l.val
  | .applicator a => w1 3 ++ w1 a.val
  | .board slot => w1 4 ++ w1 slot
  | .hold => w1 5 ++ w1 0
  | .oven => w1 6 ++ w1 0

/-- A NOTICE frame (11 R177). -/
def Notice.frame (n : Notice) : Frame := ⟨0xFF#8, 0#8, n.payload⟩

/-- The frame that the transmitter of the message link is sending. -/
def Transmitter.frame : Transmitter → Option Frame
  | .idle => none
  | .reply r => some r.frame
  | .notice n => some n.frame

/-- The kind and payload of a head command (11 R179). -/
def HeadCommand.wire : HeadCommand → Nat × List Byte
  | .stroke a m ax f st sp sw fl runs =>
    (0x01, w1 a.val ++ w1 m ++ w1 ax.code ++ w2 f ++ w2 st ++ w2 sp ++ w1 sw ++ w1 fl ++ w1 runs.length ++
      runs.flatMap fun r => w2 r.1 ++ w2 r.2)
  | .prime a m ms => (0x02, w1 a.val ++ w1 m ++ w2 ms)
  | .purge a ms => (0x03, w1 a.val ++ w2 ms)
  | .spit a => (0x04, w1 a.val)
  | .cap a => (0x05, w1 a.val)
  | .uncap a => (0x06, w1 a.val)

/-- A head command's frame; its tag is the op id (11 R179). -/
def HeadCommand.frame (op : Nat) (c : HeadCommand) : Frame := ⟨byteOf c.wire.1, byteOf op, c.wire.2⟩

/-- The last command frame put on a lane's head link. -/
def Lane.headFrame (r : Lane) : Option Frame := r.command.map fun p => p.2.frame p.1

end Sys2Proof.Machine
end

