-- ==== Sys2Proof/Machine/LinkPort.lean ====
section
/-! DEFINITION. The link port (chapter 11): receivers, the request intake, replies and notices on the transmitter, and
the field links' receivers. -/

namespace Sys2Proof.Machine

/-! ## Receivers (11 R174) -/

/-- The receiver of a link: the message link 0, head links 1 and 2, the oven node input 3. -/
def Link.index : Link → Fin 4
  | .message => 0
  | .head l => ⟨l.val + 1, by omega⟩
  | .ovenNode => 3

/-- The four links. -/
def allLinks : List Link := [.message, .head 0, .head 1, .ovenNode]

/-- What a link's receiver holds. -/
def State.rx (s : State) (k : Link) : Receiver := s.link.rx.get (Link.index k)

/-- Writing what a link's receiver holds. -/
def State.setRx (k : Link) (r : Receiver) (s : State) : State :=
  { s with link := { s.link with rx := s.link.rx.set (Link.index k) r } }

/-! ## The request intake (11 R175) -/

/-- An INTAKE_FULL reply that waits. -/
def Reply.isFull (r : Reply) : Bool := decide (r.code = .intakeFull) && !r.place

/-- An intake place taken. -/
def State.takePlace (kind : Nat) (t : Byte) (s : State) : State :=
  { s with link := { s.link with intake := s.link.intake ++ [⟨kind, t⟩] } }

/-- A request handed to its owning block. -/
def State.handOn (i : Instr) (s : State) : State :=
  { s with link := { s.link with handed := s.link.handed ++ [i] } }

/-- Tests 3 to 5 of R175 on a frame that has taken its place. -/
def State.admitFrame (f : Frame) (s : State) : State :=
  match payloadLength f.kind.toNat f.payload with
  | none => s.refuse ⟨f.tag, true⟩ f.kind.toNat .unknownKind
  | some n =>
    if f.payload.length ≠ n then s.refuse ⟨f.tag, true⟩ f.kind.toNat .malformed
    else
      match readRequest f.kind.toNat f.tag f.payload with
      | none => s.refuse ⟨f.tag, true⟩ f.kind.toNat .unknownKind
      | some i => s.handOn i

/-- The tests of R175 on a received frame. -/
def State.intakeFrame (f : Frame) (s : State) : State :=
  if f.tag = 0#8 then s
  else if Config.intakeLimit ≤ s.link.intake.length then
    if Config.intakeLimit ≤ s.link.replies.countP Reply.isFull then s
    else s.refuse ⟨f.tag, false⟩ f.kind.toNat .intakeFull
  else (s.takePlace f.kind.toNat f.tag).admitFrame f

/-! ## Frames of every link -/

/-- The event of a field link's frame taken by its block, or the frame discarded (11 R179). -/
def State.fieldFrame (k : Link) (f : Frame) (s : State) : State :=
  match fieldEvent k f with
  | some (.headDone l op) => s.discardInit (·.headReply l op.toNat .done)
  | some (.headFault l op kind) => s.discardInit (·.headReply l op.toNat (.fault (faultOf kind)))
  | some (.zoneSample z t x) => s.discardInit (·.zoneSample z t x)
  | _ => s

/-- A received frame handed on by its link's rule. -/
def State.frameIn (k : Link) (f : Frame) (s : State) : State :=
  match k with
  | .message => s.intakeFrame f
  | .head l => s.fieldFrame (.head l) f
  | .ovenNode => s.fieldFrame .ovenNode f

/-- Bytes that a link's receiver gets: it keeps the frame in progress and hands on every frame received whole. -/
def State.bytesIn (k : Link) (bytes : List Byte) (s : State) : State :=
  let r := receive false ((s.rx k).bytes ++ bytes)
  r.1.foldl (fun s f => s.frameIn k f) (s.setRx k ⟨r.2, s.clock⟩)

/-- A link silent for 20 ms with a frame in progress: that frame is discarded and hunting resumes after its start byte
(log 8). -/
def State.frameSilent (k : Link) (s : State) : State :=
  if (s.rx k).bytes.isEmpty then s
  else
    let r := receive true (s.rx k).bytes
    r.1.foldl (fun s f => s.frameIn k f)
      ((s.reach ((s.rx k).last + Config.frameSilence)).setRx k ⟨r.2, (s.rx k).last⟩)

/-- REQUEST_FRAME: bytes on the message link. -/
def execRequestFrame (bytes : List Byte) (s : State) : Host.Outcome State Fault Refusal :=
  .next (s.bytesIn .message bytes)

/-- FRAME_TIMEOUT on a link. -/
def execFrameTimeout (k : Link) (s : State) : Host.Outcome State Fault Refusal := .next (s.frameSilent k)

/-- FIELD_LINK_FRAME_DISCARD: bytes on a field link. A bad frame is discarded; a good one that the bytes hold is taken
(log 8). -/
def execFieldLinkFrameDiscard (k : Link) (bytes : List Byte) (s : State) : Host.Outcome State Fault Refusal :=
  .next (s.bytesIn k bytes)

/-! ## The transmitter (11 R176, R177) -/

/-- The free transmitter takes the oldest reply. -/
def State.replySend (s : State) : State :=
  match s.link.tx, s.link.replies with
  | .idle, r :: rs => { s with link := { s.link with tx := .reply r, replies := rs } }
  | _, _ => s

/-- REPLY_SEND. -/
def execReplySend (s : State) : Host.Outcome State Fault Refusal := .next s.replySend

/-- The request a reply answers. -/
def Reply.answered (r : Reply) : Outstanding := ⟨(r.kind + 0x80) % 0x100, r.tag⟩

/-- The last byte of a reply sent: its request's intake place is free (11 R175). -/
def State.replySent (s : State) : State :=
  match s.link.tx with
  | .idle => s
  | .notice _ => s
  | .reply r =>
    { s with link := { s.link with
        tx := .idle, intake := if r.place then s.link.intake.erase r.answered else s.link.intake } }

/-- REPLY_SENT. -/
def execReplySent (s : State) : Host.Outcome State Fault Refusal := .next s.replySent

/-- The free transmitter, with the reply queue empty, takes the oldest notice. -/
def State.noticeSend (s : State) : State :=
  match s.link.tx, s.link.replies, s.notices with
  | .idle, [], n :: ns => { s with link := { s.link with tx := .notice n }, notices := ns }
  | _, _, _ => s

/-- NOTICE_SEND. -/
def execNoticeSend (s : State) : Host.Outcome State Fault Refusal := .next s.noticeSend

/-- The last byte of a NOTICE frame sent. -/
def State.noticeSent (s : State) : State :=
  match s.link.tx with
  | .idle => s
  | .reply _ => s
  | .notice _ => { s with link := { s.link with tx := .idle } }

/-- NOTICE_FRAME_SENT. -/
def execNoticeFrameSent (s : State) : Host.Outcome State Fault Refusal := .next s.noticeSent

end Sys2Proof.Machine
end

