-- ==== Sys2Proof/Machine/Oven.lean ====
section
/-! DEFINITION. Flash-off, admission, entry, divert and exit (chapters 7 and 8). -/

namespace Sys2Proof.Machine

/-! ## Flash and open timers (07 R124, R126) -/

/-- The flash-ready time of a board reached: the OVEN_READY test. -/
def State.flashReached (slot : Nat) (s : State) : State :=
  match (s.board slot).bind fun b => if b.flashArmed then b.flashReady else none with
  | none => s
  | some d =>
    (((s.reach d).modBoardQuiet slot fun b => { b with flashArmed := false }).testReady slot).settle false s

/-- FLASH_READY_REACHED. -/
def execFlashReadyReached (slot : Nat) (s : State) : Host.Outcome State Fault Refusal := .next (s.flashReached slot)

/-- The open deadline of a board expires: OPEN_TIME is raised, or the expiry is held over while its admission is in
flight. -/
def State.openReached (slot : Nat) (s : State) : State :=
  match (s.board slot).bind fun b => if b.openRuns then b.openDeadline else none with
  | none => s
  | some d => if s.admitting slot then s.reach d else ((s.reach d).openExpiry slot).settle false s

/-- OPEN_DEADLINE_EXPIRY. -/
def execOpenDeadlineExpiry (slot : Nat) (s : State) : Host.Outcome State Fault Refusal := .next (s.openReached slot)

/-! ## The shuttle (07 R130 to R132) -/

/-- The deadline of an ADMIT operation: as a withdrawal (07 R131). -/
def State.admitDeadline (s : State) : State :=
  match s.oven.shuttle with
  | none => s
  | some o =>
    match o.kind with
    | .admission => ((s.reach o.deadline).withdraw o.slot).settle false s
    | .divert => s

/-- ADMIT_DEADLINE. -/
def execAdmitDeadline (s : State) : Host.Outcome State Fault Refusal := .next s.admitDeadline

/-- The deadline of a DIVERT operation: the board returns to its bay (07 R132). -/
def State.divertDeadline (s : State) : State :=
  match s.oven.shuttle with
  | none => s
  | some o =>
    match o.kind with
    | .admission => s
    | .divert =>
      ((((s.reach o.deadline).clearShuttle).modBoard o.slot fun b => { b with loc := .bay o.bay }).post .oven).settle
        false s

/-- DIVERT_DEADLINE. -/
def execDivertDeadline (s : State) : Host.Outcome State Fault Refusal := .next s.divertDeadline

/-- A board as OVEN_ENTER leaves it (07 R130). Its accumulators stand in ascending material id, an order R130 does not give
(DESIGN CHOICE, log 39). -/
def State.entered (s : State) (b : Board) : Board :=
  { b with
    life := .inOven
    loc := .oven
    ovenEntry := some s.clock
    lastCredit := some s.clock
    zone := some 1
    accs := b.used.members.map fun m => ⟨m, 0, 0, false⟩
    overdueArmed := true }

/-- The entry start list with an entry appended; a ninth drops the oldest (07 R129). -/
def entryAppended (t : Nat) (es : List EntryStart) : List EntryStart :=
  (if Config.entryListLimit ≤ es.length then es.tail else es) ++ [⟨t, false⟩]

/-- The steps of R130 for the board carried. -/
def State.enterOven (o : ShuttleOp) (s : State) : State :=
  let s1 := s.modBoard o.slot s.entered
  let s2 := { s1 with oven := { s1.oven with
    occupancy := s1.oven.occupancy ++ [o.slot]
    entryStart := entryAppended s.clock s1.oven.entryStart
    lastEntered := (s.board o.slot).elim s1.oven.lastEntered (·.lane) } }
  (s2.freeBay o.bay).clearShuttle.settle false s

/-- OVEN_ENTER outside INITIALIZING (07 R130). It ends the admission that is present, also where that began after the
withdrawal or the deadline of another, whose own entry R131 calls unexpected (DESIGN CHOICE, log 40). -/
def State.ovenEnter (s : State) : State :=
  match s.oven.shuttle with
  | none => s.post .oven
  | some o =>
    match o.kind with
    | .admission => s.enterOven o
    | .divert => s.post .oven

/-- OVEN_ENTER. -/
def execOvenEnter (s : State) : Host.Outcome State Fault Refusal := .next (s.discardInit State.ovenEnter)

/-- The disposition of a marked board (01 R18). -/
def markDisposition : Option Mark → Disposition
  | some .scrap => .scrap
  | some .rework => .rework
  | none => .rework

/-- DIVERT_PASS outside INITIALIZING (07 R132). It ends the divert that is present, also where that began at the deadline of
another, whose own pass R132 and R135 call unexpected (DESIGN CHOICE, log 40). -/
def State.divertPass (s : State) : State :=
  match s.oven.shuttle with
  | none => s.post .oven
  | some o =>
    match o.kind with
    | .admission => s.post .oven
    | .divert => ((s.clearShuttle).retire false o.slot (markDisposition (s.markAt o.slot))).settle false s

/-- DIVERT_PASS. -/
def execDivertPass (s : State) : Host.Outcome State Fault Refusal := .next (s.discardInit State.divertPass)

/-! ## The entry start list (07 R129) -/

/-- The oldest entry that still counts marked as ceased. -/
def ceaseFirst : List EntryStart → List EntryStart
  | [] => []
  | e :: es => if e.ceased then e :: ceaseFirst es else { e with ceased := true } :: es

/-- An entry of the entry start list ceases to count: a shuttle decision. -/
def State.entryCeased (s : State) : State :=
  match s.oven.entryStart.find? fun e => !e.ceased with
  | none => s
  | some e =>
    let s1 := s.reach (e.time + 1000 * s.line.limits.entryLength)
    { s1 with oven := { s1.oven with entryStart := ceaseFirst s1.oven.entryStart } }.settle true s

/-- ENTRY_WINDOW_EXPIRY. -/
def execEntryWindowExpiry (s : State) : Host.Outcome State Fault Refusal := .next s.entryCeased

/-- The oldest entry of the entry start list dropped at 600 s of age; one that still counted ceases to count. -/
def State.entryDropped (s : State) : State :=
  match s.oven.entryStart with
  | [] => s
  | e :: es =>
    let s1 := s.reach (e.time + Config.entryDropAge)
    { s1 with oven := { s1.oven with entryStart := es } }.settle (!e.ceased) s

/-- ENTRY_DROP. -/
def execEntryDrop (s : State) : Host.Outcome State Fault Refusal := .next s.entryDropped

/-! ## The oven exit (08 R145, R146, 01 R17) -/

/-- Whether an accumulator is over the max dose of its class slot. -/
def Accumulator.over (a : Accumulator) (c : ClassRecord) : Bool :=
  (c.slotOf a.material).any fun m => decide (m.maximum * 1000 < a.dose)

/-- Whether an accumulator is short of the required dose of its class slot. -/
def Accumulator.short (a : Accumulator) (c : ClassRecord) : Bool :=
  (c.slotOf a.material).any fun m => decide (a.dose < m.required * 1000)

/-- The exit verdict (08 R146). -/
def Board.exitVerdict (b : Board) (c : ClassRecord) : Verdict :=
  if b.accs.any fun a => a.over c then .overcure
  else if b.accs.any fun a => a.short c then (if b.doseGap then .doseUncertain else .undercure)
  else .cured

/-- The reason a verdict raises. -/
def Verdict.reason : Verdict → Option Nat
  | .overcure => some 13
  | .doseUncertain => some 12
  | .undercure => some 11
  | .cured => none

/-- Route and disposition at the oven exit (01 R17). -/
def State.exitRoute (s : State) (b : Board) : Route × Disposition :=
  match b.mark with
  | some .scrap => (.rework, .scrap)
  | some .rework => (.rework, .rework)
  | none => if s.blocked b then (.rework, .rework) else (.curedStream, .cured)

/-- The last exit record of a board (08 R145). -/
def exitRecord (slot : Nat) (b : Board) (time : Nat) (v : Verdict) (r : Route × Disposition) : ExitRecord :=
  ⟨slot, b.tag, b.cls, b.pass, b.ovenEntry.getD 0, time, v, r.1, r.2, b.doseGap, b.overTemp, b.accs⟩

/-- The staged settings applied, if any (07 R133). -/
def State.applyStaged (s : State) : State :=
  match s.oven.staged with
  | none => s
  | some v => { s with oven := { s.oven with settings := v, staged := none } }.post .oven

/-- Steps 5 and 6 of R145: route, last exit record, retirement. -/
def State.exitBoard (slot : Nat) (v : Verdict) (s : State) : State :=
  match s.board slot with
  | none => s
  | some b =>
    let r := s.exitRoute b
    { s with oven := { s.oven with diverter := r.1, lastExit := some (exitRecord slot b s.clock v r) } }.retire false slot
      r.2

/-- Steps 2 to 4 of R145: the expiries end, the verdict is set and its reason raised. -/
def State.judgeExit (slot : Nat) (v : Verdict) (s : State) : State :=
  let s1 := s.modBoardQuiet slot fun b => { b with overdueArmed := false, verdict := some v }
  match v.reason with
  | none => s1
  | some n => s1.raise n slot

/-- OVEN_EXIT outside INITIALIZING (08 R145). -/
def State.ovenExit (s : State) : State :=
  match s.oven.occupancy with
  | [] => s.post .oven
  | slot :: rest =>
    let s1 := { s with oven := { s.oven with occupancy := rest } }
    let v := (s.board slot).elim .cured fun b => b.exitVerdict (s.cls b.cls)
    let s2 := (s1.judgeExit slot v).exitBoard slot v
    (if rest.isEmpty then s2.applyStaged else s2).settle true s

/-- OVEN_EXIT. -/
def execOvenExit (s : State) : Host.Outcome State Fault Refusal := .next (s.discardInit State.ovenExit)

/-! ## OVEN_STATUS (08 R147) -/

/-- What OVEN_STATUS reads. -/
def State.ovenView (s : State) : OvenView where
  oven := s.oven
  limits := s.line.limits
  counting := s.oven.entryStart.map s.counts
  boards := s.oven.occupancy.filterMap fun k => (s.board k).map (s.boardView k)

/-- OVEN_STATUS. -/
def execOvenStatus (t : Byte) (s : State) : Host.Outcome State Fault Refusal :=
  s.request (.ovenStatus t) fun h s => s.unlessInit h 0x3C fun s => s.answer h 0x3C .ok (.ovenStatus s.ovenView)

end Sys2Proof.Machine
end

