-- ==== Sys2Proof/Machine/Recipes.lean ====
section
/-! DEFINITION. The recipe store (chapter 2): CLASS_WRITE, CLASS_READ, MATERIAL_WRITE, MATERIAL_READ. -/

namespace Sys2Proof.Machine

/-! ## Classes -/

/-- The materials a class names, slot 1 first. -/
def ClassRecord.materials (r : ClassRecord) : List Nat := r.slot1.toList.map (·.material) ++ r.slot2.toList.map (·.material)

/-- Test 6 of R27 on two material records: the larger flash_min_s is smaller than the smaller open_max_s. -/
def pairFits (a b : MaterialRecord) : Bool := decide (max a.flashMinS b.flashMinS < min a.openMaxS b.openMaxS)

/-- Test 6 of R27 on a class record, reading each material through `mat`. A one-slot class passes. -/
def ClassRecord.pairing (mat : Nat → MaterialRecord) (r : ClassRecord) : Bool :=
  match r.slot1, r.slot2 with
  | some a, some b => pairFits (mat a.material) (mat b.material)
  | some _, none => true
  | none, some _ => true
  | none, none => true

/-- Tests 4 to 6 of R27 on a class written valid. -/
def State.classTests (s : State) (f : ClassFields) : Except ResultCode ClassRecord :=
  match readClass f with
  | none => .error .outOfRange
  | some r =>
    if !r.materials.all fun m => (s.mat m).valid then .error .notFound
    else if !r.pairing s.mat then .error .outOfRange
    else .ok r

/-- The record a CLASS_WRITE stores, or its refusal (02 R27). With valid clear the other fields are not examined. A
valid flag that is no flag is refused at test 4 (log 26). -/
def State.classResult (s : State) (c : Nat) (f : ClassFields) : Except ResultCode ClassRecord :=
  if !classOk c then .error .outOfRange
  else if s.inUse c then .error .inUse
  else
    match flagOf f.valid with
    | none => .error .outOfRange
    | some false => .ok resetClass
    | some true => s.classTests f

/-- CLASS_WRITE. -/
def execClassWrite (t : Byte) (c : Nat) (f : ClassFields) (s : State) : Host.Outcome State Fault Refusal :=
  s.request (.classWrite t c f) fun h s => s.unlessInit h 0x08 fun s =>
    match s.classResult c f with
    | .error e => s.refuse h 0x08 e
    | .ok r => (s.setCls c r).answer h 0x08 .ok (.recipeId c)

/-- CLASS_READ (02 R29). -/
def execClassRead (t : Byte) (c : Nat) (s : State) : Host.Outcome State Fault Refusal :=
  s.request (.classRead t c) fun h s => s.unlessInit h 0x09 fun s =>
    if !classOk c then s.refuse h 0x09 .outOfRange
    else s.answer h 0x09 .ok (.classRead (s.cls c) (s.inUse c))

/-! ## Materials -/

/-- Test 6 of R32: every valid class that names the material still passes test 6 of R27 with the new record. -/
def State.pairingsHold (s : State) (m : Nat) (r : MaterialRecord) : Bool :=
  classIds.all fun c =>
    !((s.cls c).valid && (s.cls c).names m) || (s.cls c).pairing fun k => if k = m then r else s.mat k

/-- The record a MATERIAL_WRITE stores, or its refusal (02 R32). A valid flag that is no flag is refused at test 5
(log 26). -/
def State.materialResult (s : State) (m : Nat) (f : MaterialFields) : Except ResultCode MaterialRecord :=
  if !materialOk m then .error .outOfRange
  else if s.held m then .error .inUse
  else
    match flagOf f.valid with
    | none => .error .outOfRange
    | some false => if 0 < s.namedBy m then .error .inUse else .ok resetMaterial
    | some true =>
      match readMaterial f with
      | none => .error .outOfRange
      | some r => if s.pairingsHold m r then .ok r else .error .outOfRange

/-- MATERIAL_WRITE. -/
def execMaterialWrite (t : Byte) (m : Nat) (f : MaterialFields) (s : State) : Host.Outcome State Fault Refusal :=
  s.request (.materialWrite t m f) fun h s => s.unlessInit h 0x0A fun s =>
    match s.materialResult m f with
    | .error e => s.refuse h 0x0A e
    | .ok r => (s.setMat m r).answer h 0x0A .ok (.recipeId m)

/-- MATERIAL_READ (02 R33). -/
def execMaterialRead (t : Byte) (m : Nat) (s : State) : Host.Outcome State Fault Refusal :=
  s.request (.materialRead t m) fun h s => s.unlessInit h 0x0B fun s =>
    if !materialOk m then s.refuse h 0x0B .outOfRange
    else s.answer h 0x0B .ok (.materialRead (s.mat m) (s.held m) (s.namedBy m))

end Sys2Proof.Machine
end

