-- ==== Sys2Proof/Machine/Clock.lean ====
section
/-! DEFINITION. The device's own events: which expiries are due at the clock's value, in one fixed order (log 4), and
what the device does when no command waits (log 1). -/

namespace Sys2Proof.Machine

/-- Whether a time is present and the clock has reached it. -/
def State.reached (s : State) (t : Option Nat) : Bool := t.any fun d => decide (d ≤ s.clock)

/-- The events listed where a condition holds. -/
def when (c : Bool) (i : Instr) : List Instr := if c then [i] else []

/-- The time of the next edit step. -/
def Edit.due (e : Edit) : Nat := e.accepted + e.taken + 1

/-- The timers of one board that are due. -/
def State.dueBoard (s : State) (p : Nat × Board) : List Instr :=
  when (s.reached p.2.maskWait) (.maskWaitExpiry p.1) ++
  when (p.2.flashArmed && s.reached p.2.flashReady) (.flashReadyReached p.1) ++
  when (p.2.openRuns && s.reached p.2.openDeadline && !s.admitting p.1) (.openDeadlineExpiry p.1) ++
  when (s.reached (s.zoneChangeAt p.2)) (.zoneChange p.1) ++
  when (s.reached (s.overdueAt p.2)) (.overdueExpiry p.1)

/-- The expiries due at the clock's value, in the model's order (log 4). -/
def State.dueEvents (s : State) : List Instr :=
  when (decide (s.line.mode = .initializing) && decide (Config.startUpClear ≤ s.clock)) .startUpEnd ++
  when (s.reached (s.keepOut.edit.map Edit.due)) .editStep ++
  allZones.flatMap (fun z => when (s.reached (s.zone z).deadline) (.zoneStale z)) ++
  allLanes.flatMap (fun l => when (s.reached ((s.lane l).op.bind (·.deadline))) (.headDeadline l)) ++
  allApps.flatMap (fun a => when (s.reached (s.unit a).keepWet) (.keepWetExpiry a)) ++
  when (s.reached (s.apps.startList.head?.map (· + 1000 * s.line.limits.windowLength))) .primeWindowAgeOut ++
  s.boards.flatMap s.dueBoard ++
  (match s.oven.shuttle with
   | none => []
   | some o =>
     match o.kind with
     | .admission => when (decide (o.deadline ≤ s.clock)) .admitDeadline
     | .divert => when (decide (o.deadline ≤ s.clock)) .divertDeadline) ++
  when (s.reached ((s.oven.entryStart.find? fun e => !e.ceased).map (·.time + 1000 * s.line.limits.entryLength)))
    .entryWindowExpiry ++
  when (s.reached (s.oven.entryStart.head?.map (·.time + Config.entryDropAge))) .entryDrop ++
  allLinks.flatMap (fun k =>
    when (!(s.rx k).bytes.isEmpty && decide ((s.rx k).last + Config.frameSilence ≤ s.clock)) (.frameTimeout k)) ++
  when (decide (s.link.tx = .idle) && !s.link.replies.isEmpty) .replySend ++
  when (decide (s.link.tx = .idle) && s.link.replies.isEmpty && !s.notices.isEmpty) .noticeSend

/-- What happens while no command waits: the oldest request handed on is brought to its owning block; else the device's
own events due at the clock's value; else the clock rises by 1 (log 1). -/
def State.idle (s : State) : State :=
  match s.link.handed with
  | i :: _ => { s with pending := [i] }
  | [] =>
    match s.dueEvents with
    | i :: is => { s with pending := i :: is }
    | [] => { s with clock := s.clock + 1 }

end Sys2Proof.Machine
end

