-- ==== Sys2Proof/Machine/Dispatch.lean ====
section
/-! DEFINITION. The dispatch: one arm for each command, each a direct call of its meaning. -/

namespace Sys2Proof.Machine

def exec (i : Instr) (s : State) : Host.Outcome State Fault Refusal :=
  match i with
  | .powerOn estop => Sys2Proof.Machine.execPowerOn estop s
  | .startUpEnd => Sys2Proof.Machine.execStartUpEnd s
  | .estopChange active => Sys2Proof.Machine.execEstopChange active s
  | .requestFrame bytes => Sys2Proof.Machine.execRequestFrame bytes s
  | .frameTimeout link => Sys2Proof.Machine.execFrameTimeout link s
  | .replySend => Sys2Proof.Machine.execReplySend s
  | .replySent => Sys2Proof.Machine.execReplySent s
  | .noticeSend => Sys2Proof.Machine.execNoticeSend s
  | .lineStatus t => Sys2Proof.Machine.execLineStatus t s
  | .lineSet t f => Sys2Proof.Machine.execLineSet t f s
  | .mode t target => Sys2Proof.Machine.execMode t target s
  | .halt t => Sys2Proof.Machine.execHalt t s
  | .recover t => Sys2Proof.Machine.execRecover t s
  | .lineReset t => Sys2Proof.Machine.execLineReset t s
  | .classWrite t cls f => Sys2Proof.Machine.execClassWrite t cls f s
  | .classRead t cls => Sys2Proof.Machine.execClassRead t cls s
  | .materialWrite t mat f => Sys2Proof.Machine.execMaterialWrite t mat f s
  | .materialRead t mat => Sys2Proof.Machine.execMaterialRead t mat s
  | .ruleWrite t index e => Sys2Proof.Machine.execRuleWrite t index e s
  | .ruleRead t index clear => Sys2Proof.Machine.execRuleRead t index clear s
  | .ruleFill t first last e => Sys2Proof.Machine.execRuleFill t first last e s
  | .ruleMove t src dst count => Sys2Proof.Machine.execRuleMove t src dst count s
  | .ruleProbe t cls side x y => Sys2Proof.Machine.execRuleProbe t cls side x y s
  | .editStep => Sys2Proof.Machine.execEditStep s
  | .criterionWrite t index f => Sys2Proof.Machine.execCriterionWrite t index f s
  | .criterionRead t index => Sys2Proof.Machine.execCriterionRead t index s
  | .routeWrite t reason f => Sys2Proof.Machine.execRouteWrite t reason f s
  | .routeRead t reason => Sys2Proof.Machine.execRouteRead t reason s
  | .strokeLoad t lane first records => Sys2Proof.Machine.execStrokeLoad t lane first records s
  | .strokeRead t lane first count => Sys2Proof.Machine.execStrokeRead t lane first count s
  | .armLane t lane cls first count chain auto => Sys2Proof.Machine.execArmLane t lane cls first count chain auto s
  | .disarm t lane => Sys2Proof.Machine.execDisarm t lane s
  | .laneStatus t lane clear => Sys2Proof.Machine.execLaneStatus t lane clear s
  | .prime t app mat => Sys2Proof.Machine.execPrime t app mat s
  | .purge t app => Sys2Proof.Machine.execPurge t app s
  | .park t app => Sys2Proof.Machine.execPark t app s
  | .unpark t app => Sys2Proof.Machine.execUnpark t app s
  | .applicatorStatus t app => Sys2Proof.Machine.execApplicatorStatus t app s
  | .announce t lane boardTag cls side => Sys2Proof.Machine.execAnnounce t lane boardTag cls side s
  | .boardRead t slot view => Sys2Proof.Machine.execBoardRead t slot view s
  | .boardList t lane life => Sys2Proof.Machine.execBoardList t lane life s
  | .retire t slot => Sys2Proof.Machine.execRetire t slot s
  | .historyRead t start count => Sys2Proof.Machine.execHistoryRead t start count s
  | .maskReport t slot site state => Sys2Proof.Machine.execMaskReport t slot site state s
  | .finding t slot kind side x y => Sys2Proof.Machine.execFinding t slot kind side x y s
  | .inspectDone t slot => Sys2Proof.Machine.execInspectDone t slot s
  | .hold t slot => Sys2Proof.Machine.execHold t slot s
  | .holdTake t => Sys2Proof.Machine.execHoldTake t s
  | .holdRelease t slot reason verdict => Sys2Proof.Machine.execHoldRelease t slot reason verdict s
  | .holdStatus t slot first => Sys2Proof.Machine.execHoldStatus t slot first s
  | .ovenStatus t => Sys2Proof.Machine.execOvenStatus t s
  | .laneArrive lane => Sys2Proof.Machine.execLaneArrive lane s
  | .laneClear lane => Sys2Proof.Machine.execLaneClear lane s
  | .maskWaitExpiry slot => Sys2Proof.Machine.execMaskWaitExpiry slot s
  | .headDone lane op => Sys2Proof.Machine.execHeadDone lane op s
  | .headFault lane op kind => Sys2Proof.Machine.execHeadFault lane op kind s
  | .headDeadline lane => Sys2Proof.Machine.execHeadDeadline lane s
  | .keepWetExpiry app => Sys2Proof.Machine.execKeepWetExpiry app s
  | .primeWindowAgeOut => Sys2Proof.Machine.execPrimeWindowAgeOut s
  | .flashReadyReached slot => Sys2Proof.Machine.execFlashReadyReached slot s
  | .openDeadlineExpiry slot => Sys2Proof.Machine.execOpenDeadlineExpiry slot s
  | .admitDeadline => Sys2Proof.Machine.execAdmitDeadline s
  | .divertDeadline => Sys2Proof.Machine.execDivertDeadline s
  | .ovenEnter => Sys2Proof.Machine.execOvenEnter s
  | .divertPass => Sys2Proof.Machine.execDivertPass s
  | .entryWindowExpiry => Sys2Proof.Machine.execEntryWindowExpiry s
  | .entryDrop => Sys2Proof.Machine.execEntryDrop s
  | .zoneSample zone temp fault => Sys2Proof.Machine.execZoneSample zone temp fault s
  | .zoneStale zone => Sys2Proof.Machine.execZoneStale zone s
  | .zoneChange slot => Sys2Proof.Machine.execZoneChange slot s
  | .overdueExpiry slot => Sys2Proof.Machine.execOverdueExpiry slot s
  | .ovenExit => Sys2Proof.Machine.execOvenExit s
  | .noticeFrameSent => Sys2Proof.Machine.execNoticeFrameSent s
  | .headCommandSent lane op => Sys2Proof.Machine.execHeadCommandSent lane op s
  | .fieldLinkFrameDiscard link bytes => Sys2Proof.Machine.execFieldLinkFrameDiscard link bytes s

end Sys2Proof.Machine
end

