-- ==== Sys2Proof/Safety.lean ====
section
/-! DEFINITION. What the statements speak of: the invariants of the tables and counters, and what the close of a step
leaves alone. A safe run is one whose every step gives a next state that keeps the invariants. -/

namespace Sys2Proof.Machine

/-! ## Invariants -/

/-- Every numbered table is in canonical form (log 7). -/
structure State.Canonical (s : State) : Prop where
  classes : Table.wf (fun _ => resetClass) s.recipe.classes = true
  materials : Table.wf (fun _ => resetMaterial) s.recipe.materials = true
  boards : Table.wf (fun _ => none) s.tracker.boards = true
  entries : Table.wf (fun _ => resetEntry) s.keepOut.entries = true
  criteria : Table.wf (fun _ => resetCriterion) s.criteria = true
  routing : Table.wf resetRoute s.hold.routing = true
  strokes : ∀ l, Table.wf (fun _ => resetStroke) (s.lane l).strokes = true

/-- The spit debt of every applicator is at most 4 (03 R50). -/
def State.DebtsBounded (s : State) : Prop := ∀ a, (s.unit a).debt ≤ Config.debtLimit

/-- Every dose accumulator of a board stays within its range, and one that has saturated stands at the limit with
remainder 0 (08 R142; the mark that it has: log 27). -/
def Board.dosesBounded (b : Board) : Prop :=
  ∀ a ∈ b.accs, a.dose ≤ Config.doseLimit ∧ a.rest < 256 ∧ (a.saturated = true → a.dose = Config.doseLimit ∧ a.rest = 0)

/-- Every board of the table has its doses within range. -/
def State.DosesBounded (s : State) : Prop := ∀ k b, s.board k = some b → b.dosesBounded

/-- Every board's finding list and counts stay within their ranges (06 R113). -/
def State.FindingsBounded (s : State) : Prop :=
  ∀ k b, s.board k = some b → b.findings.length ≤ Config.findingLimit ∧ b.overflow ≤ 255

/-- The next op id of each lane lies between 1 and 255 (05 R96). -/
def State.OpIdsInRange (s : State) : Prop := ∀ l, 1 ≤ (s.lane l).nextOp ∧ (s.lane l).nextOp ≤ 255

/-- The history list holds at most 64 entries, and its sequence numbers are the last ones before the next-sequence
counter, in order (01 R20). -/
def State.HistoryOrdered (s : State) : Prop :=
  s.tracker.history.length ≤ Config.historyLimit ∧
  ∀ j e, s.tracker.history[j]? = some e →
    e.seq = s.tracker.nextSeq - BitVec.ofNat 32 (s.tracker.history.length - j)

/-- The board table: no record outside slots 0 to 31, no tag carried twice, and every class use count equal to the number
of records of its class (01 R2, 02 R26). -/
structure State.TableSound (s : State) : Prop where
  slots : ∀ k, Config.slots ≤ k → s.board k = none
  tags : ∀ j k b b', s.board j = some b → s.board k = some b' → b.tag = b'.tag → j = k
  useCounts : ∀ c, (s.cls c).useCount = s.boards.countP fun p => decide (p.2.cls = c)

/-- A valid class names only valid materials, in one or two different slots, with its doses in order and the flash and
open pairing of R27; a valid material meets the two constraints of R30. -/
structure State.RecipesSound (s : State) : Prop where
  classes : ∀ c, (s.cls c).valid = true →
    1 ≤ c ∧ c ≤ 48 ∧
    (∀ m, (s.cls c).names m = true → m < 8 ∧ (s.mat m).valid = true) ∧
    (∀ x, (s.cls c).slot1 = some x ∨ (s.cls c).slot2 = some x → 1 ≤ x.required ∧ x.required ≤ x.maximum ∧ x.maximum ≤ 16777) ∧
    (∀ x y, (s.cls c).slot1 = some x → (s.cls c).slot2 = some y → x.material ≠ y.material ∧
      max (s.mat x.material).flashMinS (s.mat y.material).flashMinS <
        min (s.mat x.material).openMaxS (s.mat y.material).openMaxS)
  materials : ∀ m, (s.mat m).valid = true →
    m < 8 ∧ (s.mat m).flashMinS < (s.mat m).openMaxS ∧ (s.mat m).points.length = 8 ∧
    (s.mat m).points.Pairwise fun p q => p.1 < q.1

/-- The lists of the blocks stay within their limits (01 R12, R20, 03 R53, R54, 07 R128, R129, 11 R175). An admission in
flight leaves room for its board in the oven; no applicator stands twice in the prime request queue. -/
structure State.ListsBounded (s : State) : Prop where
  queues : ∀ l, (s.queueOf l).length ≤ 4
  history : s.tracker.history.length ≤ 64
  intake : s.link.intake.length ≤ 8
  windowLimit : s.line.limits.windowLimit ≤ 8
  starts : s.apps.startList.length ≤ 8
  requests : (s.apps.queue.map (·.app)).Nodup
  entryStart : s.oven.entryStart.length ≤ 8
  occupancy : s.oven.occupancy.length ≤ 12
  admission : ∀ o, s.oven.shuttle = some o → o.kind = .admission → s.oven.occupancy.length < 12

/-- No edit of the keep-out table is in flight whose affected class set holds the class of a SPRAYING board (04 R79). -/
def State.EditsSpareSprayed (s : State) : Prop :=
  ∀ e, s.keepOut.edit = some e → ∀ p ∈ s.boards, p.2.life = .spraying → e.affected.has (p.2.cls - 1) = false

/-- While a board of a lane is SPRAYING no spit is in flight on the lane's head (05 R96). -/
def State.NoSpitWhileSpraying (s : State) : Prop :=
  ∀ l o, (s.lane l).op = some o → o.kind = .spit → s.laneSpraying l = false

/-- Whether an entry is enabled and its class field matches a class. -/
def KeepOutEntry.names (x : KeepOutEntry) (c : Nat) : Bool := x.enabled && x.takesClass c

/-- Every entry that a waiting step of the edit in flight reads, writes or overwrites names only classes of the edit's
affected class set (04 R73, R78). -/
def State.EditSound (s : State) : Prop :=
  ∀ e, s.keepOut.edit = some e → ∀ c, 1 ≤ c → c ≤ 48 → e.affected.has (c - 1) = false → ∀ st ∈ e.steps,
    match st with
    | .write i x => x.names c = false ∧ (s.entry i).names c = false
    | .copy i j => (s.entry i).names c = false ∧ (s.entry j).names c = false
    | .clear i => (s.entry i).names c = false

/-- The newest history entry of a tag: the last one in the list that carries it (01 R9). -/
def State.lastOf (s : State) (g : List Byte) : Option HistoryEntry :=
  (s.tracker.history.filter fun e => decide (e.tag = g)).getLast?

/-- No board of a lane stands at its spray position. -/
def State.sprayEmpty (s : State) (l : Fin 2) : Prop :=
  ∀ k b, k < Config.slots → s.board k = some b → b.lane = l → b.loc ≠ .sprayPos

/-- The board of a slot is the one of its lane at the spray position, the lowest slot if there were two. -/
def State.atSprayPos (s : State) (l : Fin 2) (slot : Nat) (b : Board) : Prop :=
  slot < Config.slots ∧ s.board slot = some b ∧ b.lane = l ∧ b.loc = .sprayPos ∧
  ∀ k b', k < slot → s.board k = some b' → b'.lane = l → b'.loc ≠ .sprayPos

/-- The oldest QUEUED board of a lane queue. -/
def State.oldestQueued (s : State) (l : Fin 2) (slot : Nat) (b : Board) : Prop :=
  ∃ before after, s.queueOf l = before ++ slot :: after ∧ s.board slot = some b ∧ b.life = .queued ∧
    ∀ k ∈ before, ∀ b', s.board k = some b' → b'.life ≠ .queued

/-! ## Requests -/

/-- The state right after request `i` of kind `kind` is taken by its owning block and answered, and nothing else. -/
def State.replied (i : Instr) (kind : Nat) (code : ResultCode) (body : Body) (s : State) : State :=
  (s.take i).answer (s.header i) kind code body

/-- The result of a table of tests in their order: the code of the first test that fails, none where every test
passes. -/
def firstFailure (tests : List (Bool × ResultCode)) : Option ResultCode := (tests.find? fun p => !p.1).map (·.2)

/-- The kind of a request's frame, none for a command that is no request. -/
def requestKind (i : Instr) : Option Nat := (writeRequest i).map (·.1)

/-! ## The close of a step -/

/-- What the close of a step leaves alone: the waiting commands, the clock, the link port, recipes, criteria, routing,
the edit in flight, the emergency-stop input, the line settings, history, the oven's lists, zones and settings, and
each lane's strokes and records of late replies and faults. -/
structure Steady (s t : State) : Prop where
  pending : t.pending = s.pending
  clock : t.clock = s.clock
  link : t.link = s.link
  recipe : t.recipe = s.recipe
  criteria : t.criteria = s.criteria
  hold : t.hold = s.hold
  edit : t.keepOut.edit = s.keepOut.edit
  estop : t.line.estop = s.line.estop
  limits : t.line.limits = s.line.limits
  history : t.tracker.history = s.tracker.history
  nextSeq : t.tracker.nextSeq = s.tracker.nextSeq
  queues : t.tracker.queues = s.tracker.queues
  occupancy : t.oven.occupancy = s.oven.occupancy
  entryStart : t.oven.entryStart = s.oven.entryStart
  lastEntered : t.oven.lastEntered = s.oven.lastEntered
  zones : t.oven.zones = s.oven.zones
  settings : t.oven.settings = s.oven.settings
  staged : t.oven.staged = s.oven.staged
  diverter : t.oven.diverter = s.oven.diverter
  lastExit : t.oven.lastExit = s.oven.lastExit
  lanes : ∀ l, (t.lane l).strokes = (s.lane l).strokes ∧ (t.lane l).lateFlag = (s.lane l).lateFlag ∧
    (t.lane l).lastLate = (s.lane l).lastLate ∧ (t.lane l).lastFault = (s.lane l).lastFault

end Sys2Proof.Machine
end

