-- ==== Sys2Proof/Certificates/Slice0/Obligations.lean ====
section
/-! DEFINITION. The statements for the provers, each one a proposition named Obligations.<Name>. -/

open Sys2Proof Sys2Proof.Machine

/-! ## Boards (spec/01_boards_tags_and_passes.md) -/

/-- R8: the tests of ANNOUNCE in their order; the first that fails gives the reply and the request has no effect.

R4, R9, R10: an accepted ANNOUNCE creates the record in the lowest empty slot with the pass of R9 and the starting
values of R4, appends the slot to its lane's queue, raises the use count of the class and, past the pass limit, raises
reason 14 within the request. Nothing else changes but the reply.

That the mask sites stand in ascending site number is the model's own choice (log 39). -/
def Obligations.Announce : Prop :=
  (∀ (t : Byte) (lane : Nat) (g : List Byte) (c side : Nat) (s : State) (code : ResultCode),
     firstFailure [
       (decide (s.line.mode = .run ∨ s.line.mode = .config), .wrongMode),
       (decide (lane < 2 ∧ side < 2 ∧ 1 ≤ c ∧ c ≤ 48 ∧ 1 ≤ g.length ∧ g.length ≤ 24 ∧
         ∀ b ∈ g, 0x21 ≤ b.toNat ∧ b.toNat ≤ 0x7E), .outOfRange),
       ((s.cls c).valid, .notFound),
       (s.boards.all fun p => decide (p.2.tag ≠ g), .duplicateTag),
       ((s.lastOf g).all fun e => decide (e.disposition ≠ .scrap), .scrappedTag),
       ((laneOf lane).any fun l => decide ((s.queueOf l).length < 4) && (List.range 32).any fun k => (s.board k).isNone,
         .noRoom)] = some code →
     exec (.announce t lane g c side) s = .next (s.replied (.announce t lane g c side) 0x30 code .empty)) ∧
  (∀ (t : Byte) (l : Fin 2) (g : List Byte) (c side : Nat) (d : Side) (slot pass : Nat) (s : State),
     (s.line.mode = .run ∨ s.line.mode = .config) → sideOf side = some d → 1 ≤ c → c ≤ 48 →
     1 ≤ g.length → g.length ≤ 24 → (∀ b ∈ g, 0x21 ≤ b.toNat ∧ b.toNat ≤ 0x7E) → (s.cls c).valid = true →
     (∀ k b, k < 32 → s.board k = some b → b.tag ≠ g) →
     (∀ e, s.lastOf g = some e → e.disposition ≠ .scrap) →
     (s.queueOf l).length < 4 → slot < 32 → s.board slot = none → (∀ k, k < slot → s.board k ≠ none) →
     pass = (match s.lastOf g with
       | some e => if e.disposition = .rework then e.pass + 1 else 0
       | none => 0) →
     let i : Instr := .announce t l.val g c side
     let b : Board := {
       tag := g, cls := c, lane := l, side := d, pass := min pass 2, life := .queued, loc := .laneQueue,
       announced := s.clock, mark := none,
       strokesDone := 0, gated := 0, used := 0#8, sprayEnd := none, flowClamped := false, interrupted := false,
       disarmed := false,
       sites := ((List.range 16).filter fun k => (s.cls c).sites.getLsbD k).map fun k => (k + 1, SiteState.unread),
       maskWait := none, findings := [], overflow := 0, kindsSeen := 0#8, tallies := [], inspectDone := false,
       flashReady := none, openDeadline := none, ovenEntry := none, zone := none, lastCredit := none, verdict := none,
       accs := [], doseGap := false, overTemp := false, pendingSet := 0#16, inService := 0#16,
       flashArmed := false, openArmed := false, overdueArmed := false }
     let u := (((s.take i).setBoard slot (some b)).setQueue l (s.queueOf l ++ [slot])).raiseUse c
     let v := if (s.cls c).passLimit < pass then u.raiseCore true slot 14 else u
     exec i s = .next (v.answer (s.header i) 0x30 .ok (.announced slot g (min pass 2) s.clock (v.markAt slot))))

/-- R13: what LANE_ARRIVE does on a lane, in its four cases.

R15 with R125: what LANE_CLEAR does on a lane, in its three cases.

R125: a bay request takes the lowest EMPTY bay, which becomes RESERVED while the lane's exit gate opens, or joins the bay
wait list; a bay that becomes EMPTY goes to the oldest slot of that list in the same way.

The order of the notices of one step, where no rule gives it, is the model's own choice (log 38). -/
def Obligations.LaneSensors : Prop :=
  (∀ (l : Fin 2) (s : State),
     (s.line.mode = .initializing → exec (.laneArrive l) s = .next s) ∧
     (s.line.mode ≠ .initializing → ¬ s.sprayEmpty l → exec (.laneArrive l) s = .next (s.post (.lane l))) ∧
     (s.line.mode ≠ .initializing → (∀ k b, k ∈ s.queueOf l → s.board k = some b → b.life ≠ .queued) →
       exec (.laneArrive l) s = .next (s.post (.lane l))) ∧
     ∀ slot b, s.line.mode ≠ .initializing → s.sprayEmpty l → s.oldestQueued l slot b →
       exec (.laneArrive l) s =
         match b.mark with
         | none =>
           .next ((((s.setBoard slot (some { b with
               loc := .sprayPos, life := .atSpray,
               maskWait := if b.unread then some (s.clock + 1000 * (s.cls b.cls).maskWait) else none })).post
             (.board slot)).startTest l).settle false s)
         | some _ =>
           .next ((((s.setBoard slot (some { b with loc := .sprayPos, life := .flashing })).post
             (.board slot)).requestBay slot).settle false s)) ∧
  (∀ (l : Fin 2) (s : State),
     (s.line.mode = .initializing → exec (.laneClear l) s = .next s) ∧
     (s.line.mode ≠ .initializing → s.sprayEmpty l → exec (.laneClear l) s = .next (s.post (.lane l))) ∧
     ∀ slot b, s.line.mode ≠ .initializing → s.atSprayPos l slot b →
       ((∀ n, s.bay n ≠ .reserved slot) → exec (.laneClear l) s = .next (s.post (.lane l))) ∧
       ∀ n, s.bay n = .reserved slot → (∀ m, m < n → s.bay m ≠ .reserved slot) →
         exec (.laneClear l) s = .next (((((((s.setBoard slot (some { b with loc := .bay n })).post (.board slot)).setQueue l
           ((s.queueOf l).filter (· ≠ slot))).setBay n (.occupied slot)).setGate l false).testReady slot).settle false s)) ∧
  (∀ (slot : Nat) (b : Board) (s : State), s.board slot = some b →
     let reserved := fun (n : Fin 8) (waits : List Nat) => ({ s with oven := { s.oven with
       bays := s.oven.bays.set n (.reserved slot), gates := s.oven.gates.set b.lane true, waitList := waits } } : State)
     (∀ n, s.bay n = .empty → (∀ m, m < n → s.bay m ≠ .empty) → s.requestBay slot = reserved n s.oven.waitList) ∧
     ((∀ n, s.bay n ≠ .empty) →
       s.requestBay slot = { s with oven := { s.oven with waitList := s.oven.waitList ++ [slot] } }) ∧
     ∀ n : Fin 8,
       (s.oven.waitList = [] → s.freeBay n = { s with oven := { s.oven with bays := s.oven.bays.set n .empty } }) ∧
       ∀ rest, s.oven.waitList = slot :: rest → s.freeBay n = reserved n rest)

/-- R16, R125: retiring the board of a slot, as one step. A bay it frees goes to the board that waits longest, whose lane's
exit gate opens, and nothing else of the oven changes. The history entry, the lane queue, the bay, the use count and the
slot change as the rule says, with a BOARD notice unless the retirement is made by RETIRE; every other board, the other
lane's queue, the last-taken slot, the rest of the recipe store and every other record stay.

R19: RETIRE is refused at the first of its tests that fails; else the board is retired with disposition REMOVED, the
reply carries slot, tag and time, and the step ends. -/
def Obligations.Retirement : Prop :=
  (∀ (quiet : Bool) (slot : Nat) (d : Disposition) (s : State) (b : Board), s.board slot = some b →
     let u := s.retire quiet slot d
     u.board slot = none ∧ (∀ k, k ≠ slot → u.board k = s.board k) ∧
     u.tracker.history = (if 64 ≤ s.tracker.history.length then s.tracker.history.tail else s.tracker.history) ++
       [⟨b.tag, b.cls, b.pass, d, b.pendingSet ||| b.inService, s.clock, s.tracker.nextSeq⟩] ∧
     u.tracker.nextSeq = s.tracker.nextSeq + 1#32 ∧
     u.queueOf b.lane = (s.queueOf b.lane).filter (· ≠ slot) ∧ (∀ l, l ≠ b.lane → u.queueOf l = s.queueOf l) ∧
     u.cls b.cls = { s.cls b.cls with useCount := (s.cls b.cls).useCount - 1 } ∧
     (∀ c, c ≠ b.cls → u.cls c = s.cls c) ∧ u.recipe.materials = s.recipe.materials ∧
     ((∀ n, s.bay n ≠ .occupied slot ∧ s.bay n ≠ .reserved slot) → u.oven = s.oven) ∧
     (∀ n, (s.bay n = .occupied slot ∨ s.bay n = .reserved slot) →
       (∀ m, m < n → s.bay m ≠ .occupied slot ∧ s.bay m ≠ .reserved slot) →
       u.oven = { s.oven with bays := u.oven.bays, gates := u.oven.gates, waitList := s.oven.waitList.tail } ∧
       (∀ m, m ≠ n → u.bay m = s.bay m) ∧
       (s.oven.waitList = [] → u.bay n = .empty ∧ u.oven.gates = s.oven.gates) ∧
       (∀ k rest, s.oven.waitList = k :: rest → u.bay n = .reserved k ∧
         ∀ b', s.board k = some b' → u.oven.gates = s.oven.gates.set b'.lane true)) ∧
     u.notices = (if quiet then s else s.post (.board slot)).notices ∧
     u.pending = s.pending ∧ u.clock = s.clock ∧ u.line = s.line ∧ u.link = s.link ∧ u.apps = s.apps ∧
     u.keepOut = s.keepOut ∧ u.path = s.path ∧ u.criteria = s.criteria ∧ u.hold = s.hold) ∧
  (∀ (t : Byte) (slot : Nat) (s : State),
     let i : Instr := .retire t slot
     (∀ code, firstFailure [
         (decide (s.line.mode ≠ .initializing), .wrongMode),
         (decide (slot < 32), .outOfRange),
         ((s.board slot).isSome, .notFound),
         ((s.board slot).any fun b =>
           decide (b.life = .queued ∧ b.loc = .laneQueue) || decide (b.life = .atSpray ∧ b.loc = .sprayPos) ||
           (decide (b.life = .flashing ∨ b.life = .ovenReady) && b.loc.isBay && !s.admitting slot), .wrongState)] =
         some code →
       exec i s = .next (s.replied i 0x33 code .empty)) ∧
     ∀ b, s.line.mode ≠ .initializing → slot < 32 → s.board slot = some b →
       (b.life = .queued ∧ b.loc = .laneQueue ∨ b.life = .atSpray ∧ b.loc = .sprayPos ∨
         (b.life = .flashing ∨ b.life = .ovenReady) ∧ b.loc.isBay = true ∧ s.admitting slot = false) →
       exec i s = .next ((((s.take i).retire true slot .removed).answer (s.header i) 0x33 .ok
         (.retired slot b.tag s.clock)).settle false (s.take i)))

/-- R22: BOARD_READ, tests and both views; nothing but the reply changes. That the reply of the FINDINGS view carries no tag is
the model's choice (log 41).

R23: BOARD_LIST. The filters are lane 0 or 1 and a life state code 0 to 5, FFh for ANY.

R21: HISTORY_READ. The last clause says that the entries begin with the one asked for. -/
def Obligations.BoardReads : Prop :=
  (∀ (t : Byte) (slot view : Nat) (s : State),
     let i : Instr := .boardRead t slot view
     exec i s = .next (
       if s.line.mode = .initializing then s.replied i 0x31 .wrongMode .empty
       else if 32 ≤ slot ∨ 2 ≤ view then s.replied i 0x31 .outOfRange .empty
       else
         match s.board slot with
         | none => s.replied i 0x31 .notFound .empty
         | some b =>
           if view = 0 then s.replied i 0x31 .ok (.boardSummary ⟨slot, b, s.blocked b⟩)
           else s.replied i 0x31 .ok (.boardFindings b.findings b.overflow ((List.range 32).map b.tally)))) ∧
  (∀ (t : Byte) (lane life : Nat) (s : State),
     let i : Instr := .boardList t lane life
     (s.line.mode = .initializing → exec i s = .next (s.replied i 0x32 .wrongMode .empty)) ∧
     (s.line.mode ≠ .initializing → ¬((lane < 2 ∨ lane = 0xFF) ∧ (life < 6 ∨ life = 0xFF)) →
       exec i s = .next (s.replied i 0x32 .outOfRange .empty)) ∧
     (s.line.mode ≠ .initializing → (lane < 2 ∨ lane = 0xFF) → (life < 6 ∨ life = 0xFF) →
       exec i s = .next (s.replied i 0x32 .ok (.boardList ((List.range 32).filterMap fun k =>
         (s.board k).bind fun b =>
           if (lane = 0xFF ∨ b.lane.val = lane) ∧ (life = 0xFF ∨ b.life.code = life) then some ⟨k, b, s.blocked b⟩
           else none))))) ∧
  (∀ (t : Byte) (start count : Nat) (s : State),
     let i : Instr := .historyRead t start count
     let n := s.tracker.nextSeq
     let d := (n - BitVec.ofNat 32 start).toNat
     let held := s.tracker.history
     let entries := (if d = 0 then [] else if d ≤ held.length then held.drop (held.length - d) else held).take count
     (s.line.mode = .initializing → exec i s = .next (s.replied i 0x3D .wrongMode .empty)) ∧
     (s.line.mode ≠ .initializing → ¬(1 ≤ count ∧ count ≤ 16) → exec i s = .next (s.replied i 0x3D .outOfRange .empty)) ∧
     (s.line.mode ≠ .initializing → 1 ≤ count → count ≤ 16 →
       exec i s = .next (s.replied i 0x3D .ok (.history ((held.head?.map (·.seq)).getD n) n entries))) ∧
     (s.HistoryOrdered → 1 ≤ d → d ≤ held.length → 1 ≤ count → entries.head?.map (·.seq) = some (BitVec.ofNat 32 start)))

/-! ## Recipes (spec/02_classes_and_materials.md) -/

/-- R27: the tests of CLASS_WRITE in their order, and the record stored. That a valid flag other than 0 and 1 fails test 4
(log 26), and that a material count which does not fit the slots present fails it (log 10), are the model's own choice. -/
def Obligations.ClassWrite : Prop :=
  ∀ (t : Byte) (c : Nat) (f : ClassFields) (s : State),
    let i : Instr := .classWrite t c f
    let slotFits := fun x : SlotFields => decide (x.material < 8 ∧ 1 ≤ x.required ∧ x.required ≤ 16000 ∧
      x.required ≤ x.maximum ∧ x.maximum ≤ 16777)
    let record := fun (a : SlotFields) (b : Option SlotFields) => ({
      valid := true, count := f.count, slot1 := some ⟨a.material, a.required, a.maximum⟩,
      slot2 := b.map fun x => ⟨x.material, x.required, x.maximum⟩, sites := f.sites, keepOut := decide (f.dflt = 1),
      gateLimit := f.gateLimit, flowCap := f.flowCap, passLimit := f.passLimit, maskWait := f.maskWait,
      timeout := f.timeout, inspect := decide (f.inspect = 1), useCount := 0 } : ClassRecord)
    let refused := firstFailure [
      (decide (s.line.mode ≠ .initializing), .wrongMode),
      (decide (1 ≤ c ∧ c ≤ 48), .outOfRange),
      (!s.inUse c, .inUse),
      (decide (f.valid = 0) || decide (f.valid = 1 ∧ f.dflt < 2 ∧ f.gateLimit < 65536 ∧ 1 ≤ f.flowCap ∧ f.flowCap ≤ 15 ∧
        f.passLimit ≤ 2 ∧ 1 ≤ f.maskWait ∧ f.maskWait ≤ 600 ∧ 100 ≤ f.timeout ∧ f.timeout ≤ 25500 ∧
        f.timeout % 100 = 0 ∧ f.inspect < 2) &&
        (match f.slot1, f.slot2 with
         | some a, none => decide (f.count = 1) && slotFits a
         | some a, some b => decide (f.count = 2 ∧ a.material ≠ b.material) && slotFits a && slotFits b
         | none, _ => false), .outOfRange),
      (decide (f.valid = 0) || (f.slot1.toList ++ f.slot2.toList).all fun x => (s.mat x.material).valid, .notFound),
      (decide (f.valid = 0) || (match f.slot1, f.slot2 with
        | some a, some b => decide (max (s.mat a.material).flashMinS (s.mat b.material).flashMinS <
            min (s.mat a.material).openMaxS (s.mat b.material).openMaxS)
        | _, _ => true), .outOfRange)]
    match refused with
    | some code => exec i s = .next (s.replied i 0x08 code .empty)
    | none =>
      (f.valid = 0 → exec i s = .next (((s.take i).setCls c resetClass).answer (s.header i) 0x08 .ok (.recipeId c))) ∧
      ∀ a, f.valid = 1 → f.slot1 = some a →
        exec i s = .next (((s.take i).setCls c (record a f.slot2)).answer (s.header i) 0x08 .ok (.recipeId c))

/-- R32: the tests of MATERIAL_WRITE in their order, and the record stored. A valid flag other than 0 and 1 fails test 5
(log 26). -/
def Obligations.MaterialWrite : Prop :=
  ∀ (t : Byte) (m : Nat) (f : MaterialFields) (s : State),
    let i : Instr := .materialWrite t m f
    let record : MaterialRecord :=
      ⟨true, f.primeMs, f.purgeMs, f.keepWetS, f.capMaxMin, f.flashMinS, f.openMaxS, f.maxTemp, f.points⟩
    let refused := firstFailure [
      (decide (s.line.mode ≠ .initializing), .wrongMode),
      (decide (m < 8), .outOfRange),
      (!s.held m, .inUse),
      (decide (f.valid ≠ 0) || (List.range 49).all fun c => decide (c = 0) || !(s.cls c).valid || !(s.cls c).names m,
        .inUse),
      (decide (f.valid = 0) || decide (f.valid = 1 ∧ 500 ≤ f.primeMs ∧ f.primeMs ≤ 60000 ∧ 500 ≤ f.purgeMs ∧
        f.purgeMs ≤ 60000 ∧ 5 ≤ f.keepWetS ∧ f.keepWetS ≤ 600 ∧ 1 ≤ f.capMaxMin ∧ f.capMaxMin ≤ 1440 ∧
        f.flashMinS ≤ 3600 ∧ 60 ≤ f.openMaxS ∧ f.openMaxS ≤ 14400 ∧ f.maxTemp ≤ 3000 ∧ f.flashMinS < f.openMaxS ∧
        f.points.length = 8 ∧ (∀ p ∈ f.points, p.1 ≤ 3000 ∧ p.2 ≤ 4095) ∧
        f.points.Pairwise fun p q => p.1 < q.1), .outOfRange),
      (decide (f.valid = 0) || (List.range 49).all fun c => decide (c = 0) || !(s.cls c).valid || !(s.cls c).names m ||
        (match (s.cls c).slot1, (s.cls c).slot2 with
         | some a, some b =>
           decide (max (if a.material = m then f.flashMinS else (s.mat a.material).flashMinS)
             (if b.material = m then f.flashMinS else (s.mat b.material).flashMinS) <
             min (if a.material = m then f.openMaxS else (s.mat a.material).openMaxS)
               (if b.material = m then f.openMaxS else (s.mat b.material).openMaxS))
         | _, _ => true), .outOfRange)]
    match refused with
    | some code => exec i s = .next (s.replied i 0x0A code .empty)
    | none => exec i s = .next (((s.take i).setMat m (if f.valid = 0 then resetMaterial else record)).answer
        (s.header i) 0x0A .ok (.recipeId m))

/-- R29 and R33: CLASS_READ and MATERIAL_READ, with in use by R28 and held by R31. Nothing but the reply changes. -/
def Obligations.RecipeReads : Prop :=
  ∀ (t : Byte) (n : Nat) (used held : Bool) (s : State),
    (used = true ↔ 0 < (s.cls n).useCount ∨
      ∃ l, (s.lane l).arming.cls = some n ∧
        ((s.lane l).status = .armed ∨ (s.lane l).status = .running ∨ (s.lane l).status = .waitApplicator ∨
          (s.lane l).status = .stopped)) →
    (held = true ↔
      (∃ a, (s.unit a).material = some n ∧ (s.unit a).state ≠ .idleDry ∧
        ¬((s.unit a).state = .parked ∧ (s.unit a).parkedWet = false)) ∨
      (∃ e ∈ s.apps.queue, e.material = some n) ∨
      ∃ c, 1 ≤ c ∧ c ≤ 48 ∧ (s.cls c).valid = true ∧ 0 < (s.cls c).useCount ∧ (s.cls c).names n = true) →
    exec (.classRead t n) s = .next (
      if s.line.mode = .initializing then s.replied (.classRead t n) 0x09 .wrongMode .empty
      else if 1 ≤ n ∧ n ≤ 48 then s.replied (.classRead t n) 0x09 .ok (.classRead (s.cls n) used)
      else s.replied (.classRead t n) 0x09 .outOfRange .empty) ∧
    exec (.materialRead t n) s = .next (
      if s.line.mode = .initializing then s.replied (.materialRead t n) 0x0B .wrongMode .empty
      else if n < 8 then
        s.replied (.materialRead t n) 0x0B .ok (.materialRead (s.mat n) held
          ((List.range 49).countP fun c => decide (c ≠ 0) && (s.cls c).valid && (s.cls c).names n))
      else s.replied (.materialRead t n) 0x0B .outOfRange .empty)

/-! ## Applicators (spec/03_applicators.md) -/

/-- R42 to R44: PRIME and PURGE. The tests in their order, then what the applicator's state decides.

R42, R45 and R46: PARK and UNPARK. The tests in their order, then what the applicator's state decides.

That a waiting command keeps its acceptance number, which orders two of one millisecond, is the model's reading (log 17). -/
def Obligations.ApplicatorRequests : Prop :=
  (∀ (t : Byte) (n m : Nat) (s : State),
     let accepting := decide (s.line.mode = .config ∨ s.line.mode = .run ∨ s.line.mode = .drain)
     let idle := fun a => !s.queued a && (s.opOf a).isNone
     let prime : Instr := .prime t n m
     let purge : Instr := .purge t n
     (∀ code, firstFailure [(accepting, .wrongMode), (decide (n < 6 ∧ m < 8), .outOfRange),
         ((s.mat m).valid, .notFound), ((appOf n).any idle, .wrongState),
         ((appOf n).any fun a => decide ((s.unit a).state = .idleDry) ||
           decide ((s.unit a).state = .primed ∧ (s.unit a).material = some m), .wrongState)] = some code →
       exec prime s = .next (s.replied prime 0x28 code .empty)) ∧
     (∀ code, firstFailure [(accepting, .wrongMode), (decide (n < 6), .outOfRange), ((appOf n).any idle, .wrongState),
         ((appOf n).any fun a => decide ((s.unit a).state = .idleDry ∨ (s.unit a).state = .primed ∨
           (s.unit a).state = .fouled), .wrongState)] = some code →
       exec purge s = .next (s.replied purge 0x29 code .empty)) ∧
     ∀ a : Fin 6, a.val = n → accepting = true → idle a = true →
       (m < 8 → (s.mat m).valid = true →
         ((s.unit a).state = .idleDry → exec prime s = .next ((((s.take prime).enqueue
           ⟨a, .prime, some m, .lineComputer⟩).answer (s.header prime) 0x28 .ok .accepted).settle false (s.take prime))) ∧
         ((s.unit a).state = .primed → (s.unit a).material = some m →
           exec prime s = .next (s.replied prime 0x28 .ok .unchanged))) ∧
       ((s.unit a).state = .idleDry → exec purge s = .next (s.replied purge 0x29 .ok .unchanged)) ∧
       ((s.unit a).state = .primed ∨ (s.unit a).state = .fouled → exec purge s = .next ((((s.take purge).enqueue
         ⟨a, .purge, (s.unit a).material, .lineComputer⟩).answer (s.header purge) 0x29 .ok .accepted).settle false
           (s.take purge)))) ∧
  (∀ (t : Byte) (n : Nat) (s : State),
     let accepting := decide (s.line.mode = .config ∨ s.line.mode = .run ∨ s.line.mode = .drain)
     let idle := fun a => !s.queued a && (s.opOf a).isNone
     let park : Instr := .park t n
     let unpark : Instr := .unpark t n
     (∀ code, firstFailure [(accepting, .wrongMode), (decide (n < 6), .outOfRange), ((appOf n).any idle, .wrongState),
         ((appOf n).any fun a => decide ((s.unit a).state = .primed ∨ (s.unit a).state = .idleDry ∨
           (s.unit a).state = .capping ∨ (s.unit a).state = .parked), .wrongState)] = some code →
       exec park s = .next (s.replied park 0x2A code .empty)) ∧
     (∀ code, firstFailure [(accepting, .wrongMode), (decide (n < 6), .outOfRange), ((appOf n).any idle, .wrongState),
         ((appOf n).any fun a => decide ((s.unit a).state = .parked ∨ (s.unit a).state = .uncapping), .wrongState)] =
         some code →
       exec unpark s = .next (s.replied unpark 0x2B code .empty)) ∧
     ∀ a : Fin 6, a.val = n → accepting = true → idle a = true →
       ((s.unit a).state = .primed ∨ (s.unit a).state = .idleDry →
         exec park s = .next (((((s.take park).setUnit a { s.unit a with
             state := .capping, keepWet := none,
             waiting := some ⟨.cap, .lineComputer, s.clock, s.apps.accepted⟩ }).nextOrder).answer (s.header park) 0x2A .ok
           .accepted).settle false (s.take park))) ∧
       ((s.unit a).state = .capping ∨ (s.unit a).state = .parked →
         exec park s = .next (s.replied park 0x2A .ok .unchanged)) ∧
       ((s.unit a).state = .parked →
         exec unpark s = .next (((((s.take unpark).setUnit a { s.unit a with
             state := .uncapping,
             waiting := some ⟨.uncap, .lineComputer, s.clock, s.apps.accepted⟩ }).nextOrder).answer (s.header unpark) 0x2B
           .ok .accepted).settle false (s.take unpark))) ∧
       ((s.unit a).state = .uncapping → exec unpark s = .next (s.replied unpark 0x2B .ok .unchanged)))

/-- R41, R47: a prime, purge, spit, cap or uncap that ends with HEAD_DONE, HEAD_FAULT or at its deadline frees the head and
changes its applicator by the table, with its notice; the end of a spit makes the start test; then the step ends. That a
deadline's command moves the clock on to the deadline where it has not come is the model's own choice (log 3).

The order of the notices of one step, where no rule gives it, is the model's own choice (log 38); so is that the end of a purge
makes parked-wet clear and the cap time absent, and a dry cap the cap time (log 43), and that the start test after a spit goes
before the freed head takes its next operation (log 45). -/
def Obligations.OperationEnds : Prop :=
  ∀ (l : Fin 2) (op : Byte) (kind : Nat) (s : State) (o : HeadOp),
    (s.lane l).op = some o → o.stroke = none → o.kind ≠ .stroke →
    let freed := fun u : State => u.modLane l fun r => { r with op := none }
    let close := fun u : State => (if o.kind = .spit then u.startTest l else u).settle false s
    let foul := fun (c : FoulCause) (r : Applicator) => if r.state = .fouled then r else
      { r with state := .fouled, debt := 0, keepWet := none, foulCause := some c,
               parkedWet := if o.kind = .uncap then false else r.parkedWet,
               capTime := if o.kind = .uncap then none else r.capTime }
    let timer := fun r : Applicator => r.material.map fun m => s.clock + 1000 * (s.mat m).keepWetS
    let done := fun r : Applicator =>
      if r.state = .fouled then r else
      match o.kind with
      | .prime => { r with state := .primed, keepWet := timer r, debt := 0 }
      | .purge => { r with state := .idleDry, material := none, debt := 0, keepWet := none, foulCause := none,
                           parkedWet := false, capTime := none }
      | .spit => { r with state := .primed, debt := r.debt - 1 }
      | .cap => { r with state := .parked, parkedWet := r.material.isSome,
                         capTime := if r.material.isSome then some s.clock else none }
      | .uncap =>
        match r.material with
        | none => { r with state := .idleDry, parkedWet := false, capTime := none }
        | some m =>
          if s.clock - r.capTime.getD s.clock ≤ (s.mat m).capMaxMin * 60000 then
            { r with state := .primed, keepWet := timer r, parkedWet := false, capTime := none }
          else { r with state := .fouled, debt := 0, keepWet := none, parkedWet := false, capTime := none,
                        foulCause := some .capExpired }
      | .stroke => r
    (s.line.mode ≠ .initializing → op.toNat = o.opId →
      exec (.headDone l op) s = .next (close ((freed s).modUnit o.app done)) ∧
      exec (.headFault l op kind) s = .next (close ((freed s).modUnit o.app (foul (.fault (faultOf kind)))))) ∧
    ∀ d, o.deadline = some d →
      exec (.headDeadline l) s = .next (close ((freed (s.reach d)).modUnit o.app (foul .deadline)))

/-- R49 to R51: an expiry of a keep-wet timer at `d` raises the spit debt by 1 and sets the next expiry one interval
later, or fouls an applicator whose debt stands at 4; with the timer stopped nothing happens.

R53: the oldest entry of the start list ages out at its time plus the window length, which prompts a decision.

R129: the oldest entry of the entry start list that still counts ceases to, and the oldest entry is dropped at 600 s;
each prompts a shuttle decision where an entry ceased to count.

The model's own choice (log 3): the command of an expiry moves the clock on to the expiry's time where it has not come, and
with nothing to expire it changes nothing. That an entry has ceased to count is a mark the model keeps (log 20). -/
def Obligations.ApplicatorAndEntryTimers : Prop :=
  (∀ (a : Fin 6) (s : State),
     ((s.unit a).keepWet = none → exec (.keepWetExpiry a) s = .next s) ∧
     ∀ d, (s.unit a).keepWet = some d →
       exec (.keepWetExpiry a) s = .next (((s.reach d).modUnit a fun r =>
         if r.debt < 4 then
           { r with debt := r.debt + 1, keepWet := r.material.map fun m => d + 1000 * (s.mat m).keepWetS }
         else { r with state := .fouled, debt := 0, keepWet := none, foulCause := some .keepWet }).settle false s)) ∧
  (∀ s : State,
     (s.apps.startList = [] → exec .primeWindowAgeOut s = .next s) ∧
     ∀ g rest, s.apps.startList = g :: rest →
       exec .primeWindowAgeOut s = .next (State.settle false { s with
         clock := max s.clock (g + 1000 * s.line.limits.windowLength)
         apps := { s.apps with startList := rest } } s)) ∧
  (∀ s : State,
     ((∀ e ∈ s.oven.entryStart, e.ceased = true) → exec .entryWindowExpiry s = .next s) ∧
     (s.oven.entryStart = [] → exec .entryDrop s = .next s) ∧
     (∀ before e after, s.oven.entryStart = before ++ e :: after → (∀ x ∈ before, x.ceased = true) → e.ceased = false →
       exec .entryWindowExpiry s = .next (State.settle true { s with
         clock := max s.clock (e.time + 1000 * s.line.limits.entryLength)
         oven := { s.oven with entryStart := before ++ { e with ceased := true } :: after } } s)) ∧
     ∀ e after, s.oven.entryStart = e :: after →
       exec .entryDrop s = .next (State.settle (!e.ceased) { s with
         clock := max s.clock (e.time + 600000)
         oven := { s.oven with entryStart := after } } s))

/-- R55: a grant decision. While the start list has room it grants the oldest entry whose lane is ready, sends its command
(R40) and decides again; with no such entry, or with a full list, it grants nothing. What it leaves: every grant takes an
entry from the queue, the rest keeping their order, and appends the clock to the start list, which never passes the limit by
it; while room is left no entry whose lane is ready still waits; in HALTED and INITIALIZING nothing is granted.

R52: the applicator of a lane that spits is PRIMED with a debt, no other of the lane owes more, and of those that owe
as much it has the lowest id; none is chosen while a board of the lane is SPRAYING, and one is chosen whenever one of the
lane owes a spit and none is.

R57, R90: a waiting lane whose applicator is ready goes on, its need ended; else the applicator takes the automatic step of
its state. R56, R96: the order in which a free head takes work; a stroke taken is followed by the order again.

The model's reading: a purge keeps the foul cause while PURGING (log 16), and waiting commands go by their acceptance number,
which tells apart two of one millisecond (log 17); that the sending of a waiting cap or uncap posts no notice is its own choice
(log 48). -/
def Obligations.HeadChoices : Prop :=
  (∀ s : State,
     let u := s.grantDecision
     (∃ k, u.apps.startList = s.apps.startList ++ List.replicate k s.clock ∧
       s.apps.queue.length = u.apps.queue.length + k) ∧
     u.apps.queue.Sublist s.apps.queue ∧
     u.apps.startList.length ≤ max s.apps.startList.length s.line.limits.windowLimit ∧
     (s.line.mode ≠ .halted → s.line.mode ≠ .initializing → u.apps.startList.length < s.line.limits.windowLimit →
       ∀ e ∈ u.apps.queue, u.grantReady (appLane e.app) = false) ∧
     (s.line.mode = .halted ∨ s.line.mode = .initializing → u = s)) ∧
  (∀ (s : State) (l : Fin 2),
     (s.laneSpraying l = true → s.spitChoice l = none) ∧
     (∀ a, s.spitChoice l = some a →
       appLane a = l ∧ (s.unit a).state = .primed ∧ 0 < (s.unit a).debt ∧
       ∀ c, appLane c = l → (s.unit c).state = .primed → (s.unit c).debt ≤ (s.unit a).debt ∧
         ((s.unit c).debt = (s.unit a).debt → a ≤ c)) ∧
     (s.laneSpraying l = false → s.spitChoice l = none →
       ∀ c, appLane c = l → (s.unit c).state = .primed → (s.unit c).debt = 0)) ∧
  (∀ s : State,
     let ready := fun l : Fin 2 => (s.lane l).op = none ∧
       ∀ a w, appLane a = l → (s.unit a).waiting = some w → w.origin = .automatic
     ((s.line.limits.windowLimit ≤ s.apps.startList.length ∨ ∀ e ∈ s.apps.queue, ¬ ready (appLane e.app)) →
       s.grantDecision = s) ∧
     ∀ before e after, s.apps.queue = before ++ e :: after → (∀ x ∈ before, ¬ ready (appLane x.app)) →
       ready (appLane e.app) → s.apps.startList.length < s.line.limits.windowLimit →
       s.line.mode ≠ .halted → s.line.mode ≠ .initializing →
       let u : State := { s with apps := { s.apps with
         queue := before ++ after, startList := s.apps.startList ++ [s.clock] } }
       let sent := fun (k : OpKind) (span : Nat) (c : HeadCommand) (v : State) =>
         v.modLane (appLane e.app) fun r => { r with
           op := some ⟨r.nextOp, k, e.app, span, none, none⟩
           nextOp := if r.nextOp = 255 then 1 else r.nextOp + 1, command := some (r.nextOp, c) }
       let purging := u.modUnit e.app fun r => { r with state := .purging, keepWet := none }
       (∀ m, e.kind = .prime → e.material = some m → s.grantDecision = State.grantDecision (sent .prime
         ((s.mat m).primeMs + 5000) (.prime e.app m (s.mat m).primeMs)
         (u.modUnit e.app fun r => { r with state := .priming, material := some m, keepWet := none }))) ∧
       (∀ m, e.kind = .purge → (s.unit e.app).material = some m → s.grantDecision = State.grantDecision (sent .purge
         ((s.mat m).purgeMs + 5000) (.purge e.app (s.mat m).purgeMs) purging)) ∧
       (e.kind = .purge → (s.unit e.app).material = none →
         s.grantDecision = State.grantDecision (sent .purge 10000 (.purge e.app 5000) purging))) ∧
  (∀ (s : State) (l : Fin 2),
     let st := (s.lane l).stroke (s.lane l).arming.current
     let a := st.applicator
     let ready := (s.unit a).state = .primed ∧ (s.unit a).material = some st.material ∧ ∀ e ∈ s.apps.queue, e.app ≠ a
     ((s.lane l).status ≠ .waitApplicator → s.wake l = s) ∧
     ((s.lane l).status = .waitApplicator → ready → s.wake l =
       ((s.setUnit a { s.unit a with need := none }).setLane l { s.lane l with status := .running }).post (.lane l)) ∧
     ((s.lane l).status = .waitApplicator → ¬ ready → s.wake l = s.autoStep a)) ∧
  (∀ (s : State) (a : Fin 6) (m : Nat),
     let r := s.unit a
     let inFlight := ∃ o, (s.lane (appLane a)).op = some o ∧ o.app = a
     (r.need = none → s.autoStep a = s) ∧
     (r.need = some m → (∃ e ∈ s.apps.queue, e.app = a) → s.autoStep a = s) ∧
     (r.need = some m → (∀ e ∈ s.apps.queue, e.app ≠ a) →
       (r.state = .parked → s.autoStep a = ((s.setUnit a { r with
         state := .uncapping, waiting := some ⟨.uncap, .automatic, s.clock, s.apps.accepted⟩ }).post
           (.applicator a)).nextOrder) ∧
       (r.state = .primed → s.autoStep a =
         if r.material = some m then s else s.enqueue ⟨a, .purge, r.material, .automatic⟩) ∧
       (r.state = .fouled → inFlight → s.autoStep a = s) ∧
       (r.state = .fouled → ¬ inFlight → s.autoStep a = s.enqueue ⟨a, .purge, r.material, .automatic⟩) ∧
       (r.state = .idleDry → s.autoStep a = s.enqueue ⟨a, .prime, some m, .automatic⟩) ∧
       (r.state = .priming ∨ r.state = .spraying ∨ r.state = .spitting ∨ r.state = .purging ∨ r.state = .capping ∨
         r.state = .uncapping → s.autoStep a = s))) ∧
  (∀ (s : State) (l : Fin 2) (n : Nat),
     let u := s.wake l
     let g := u.grantDecision
     let ofLine := fun w : WaitCommand => w.origin = .lineComputer
     let ofAuto := fun w : WaitCommand => w.origin = .automatic ∧ w.kind = .uncap
     let none_ := fun (v : State) (p : WaitCommand → Prop) => ∀ a w, appLane a = l → (v.unit a).waiting = some w → ¬ p w
     let first := fun (v : State) (p : WaitCommand → Prop) (a : Fin 6) (w : WaitCommand) =>
       appLane a = l ∧ (v.unit a).waiting = some w ∧ p w ∧
       ∀ c x, appLane c = l → c ≠ a → (v.unit c).waiting = some x → p x → w.order < x.order
     let sent := fun (k : OpKind) (a : Fin 6) (span : Nat) (c : HeadCommand) (v : State) =>
       v.modLane l fun r => { r with
         op := some ⟨r.nextOp, k, a, span, none, none⟩
         nextOp := if r.nextOp = 255 then 1 else r.nextOp + 1, command := some (r.nextOp, c) }
     let takes := fun (v : State) (a : Fin 6) (w : WaitCommand) =>
       let taken := v.setUnit a { v.unit a with waiting := none }
       if w.kind = .cap then sent .cap a 5000 (.cap a) taken else sent .uncap a 5000 (.uncap a) taken
     s.serveLane l = s.serve ((s.lane l).arming.remaining + 4) l ∧
     (u.line.mode = .halted ∨ u.line.mode = .initializing ∨ (u.lane l).op ≠ none → s.serve (n + 1) l = u) ∧
     (u.line.mode ≠ .halted → u.line.mode ≠ .initializing → (u.lane l).op = none →
       (∀ a w, first u ofLine a w → s.serve (n + 1) l = takes u a w) ∧
       (none_ u ofLine → (g.lane l).op ≠ none → s.serve (n + 1) l = g) ∧
       (none_ u ofLine → (g.lane l).op = none →
         (∀ a w, first g ofAuto a w → s.serve (n + 1) l = takes g a w) ∧
         (none_ g ofAuto →
           ((g.lane l).status = .running → s.serve (n + 1) l = (g.takeStroke l).serve n l) ∧
           ((g.lane l).status ≠ .running →
             (∀ a, g.spitChoice l = some a → s.serve (n + 1) l =
               sent .spit a 3000 (.spit a) (g.modUnit a fun r => { r with state := .spitting })) ∧
             (g.spitChoice l = none → s.serve (n + 1) l = g))))))

/-! ## The keep-out table (spec/04_the_keep_out_table.md) -/

/-- R63, R64: the deciding entry of a key is the enabled matching entry with the highest index; without one the class
default is given. -/
def Obligations.KeepOutLookup : Prop :=
  ∀ (s : State) (c x y : Nat) (d : Side), s.Canonical →
    let agrees := fun {w : Nat} (value care key : BitVec w) => ∀ k, k < w → care.getLsbD k = true →
      key.getLsbD k = value.getLsbD k
    let hits := fun (e : KeepOutEntry) => e.enabled = true ∧ agrees e.clsValue e.clsCare (BitVec.ofNat 6 c) ∧
      (e.side = .either ∨ e.side = .top ∧ d = .top ∨ e.side = .bottom ∧ d = .bottom) ∧
      agrees e.xValue e.xCare (BitVec.ofNat 10 x) ∧ agrees e.yValue e.yCare (BitVec.ofNat 10 y)
    (∀ i, hits (s.entry i) → (∀ j, i < j → ¬ hits (s.entry j)) →
      s.lookup c d x y = ⟨some i, (s.entry i).rule, (s.entry i).site, (s.entry i).material⟩) ∧
    ((∀ i, ¬ hits (s.entry i)) →
      s.lookup c d x y = ⟨none, if (s.cls c).keepOut then .keepOut else .coat, 0, 0⟩)

/-- R67: what a lookup makes of a cell for a stroke of material `m` on a board, by the mask site states of the board.

R66, R67: the columns of a resolution are the positions from the smaller to the larger of from and to, each once, in
travel order, and each holds the swath's cells in their order, looked up one by one.

R69: counting the hits of a resolution raises the hit count of every entry that decided a cell by 1, saturating, and
sets its sticky flag; every other field of it, and every other entry, stays. -/
def Obligations.CellsAndStrokes : Prop :=
  (∀ (r : LookupResult) (b : Board) (m : Nat),
     (r.rule = .coat → r.cell b m = ⟨true, .coat, r.decider⟩) ∧
     (r.rule = .keepOut → r.cell b m = ⟨false, .keepOut, r.decider⟩) ∧
     (r.rule = .masked → b.site r.site = some .present → r.cell b m = ⟨true, .maskOpen, r.decider⟩) ∧
     (r.rule = .masked → b.site r.site ≠ some .present → r.cell b m = ⟨false, .maskGated, r.decider⟩) ∧
     (r.rule = .materialOnly → r.material = m → r.cell b m = ⟨true, .materialOpen, r.decider⟩) ∧
     (r.rule = .materialOnly → r.material ≠ m → r.cell b m = ⟨false, .materialGated, r.decider⟩)) ∧
  (∀ (s : State) (b : Board) (st : Stroke),
     (s.resolve b st).map (·.1) = (if st.start ≤ st.stop then (List.range (st.stop - st.start + 1)).map (st.start + ·)
       else (List.range (st.start - st.stop + 1)).map (st.start - ·)) ∧
     ∀ p ∈ s.resolve b st, p.2 = (List.range st.swath).map fun j =>
       (match st.axis with
        | .x => s.lookup b.cls b.side p.1 (st.fixed + j)
        | .y => s.lookup b.cls b.side (st.fixed + j) p.1).cell b st.material) ∧
  (∀ (s : State) (cols : List (Nat × List Cell)) (i : Nat), (s.entry i ≠ resetEntry ∨ decidedBy cols i = false) →
     (s.countHits cols).entry i =
       if ∃ p ∈ cols, ∃ c ∈ p.2, c.decider = some i then
         { s.entry i with hits := min 65535 ((s.entry i).hits + 1), sticky := true }
       else s.entry i)

/-- R70, R71: RULE_READ and RULE_PROBE. The clear option is NONE 0, COUNT 1 or ALL FFh; the reply carries the entry as it
stood before any clearing. A probe changes nothing. -/
def Obligations.RuleReads : Prop :=
  ∀ (t : Byte) (k clear c side x y : Nat) (s : State),
    let read : Instr := .ruleRead t k clear
    let probe : Instr := .ruleProbe t c side x y
    (s.line.mode = .initializing → exec read s = .next (s.replied read 0x11 .wrongMode .empty) ∧
      exec probe s = .next (s.replied probe 0x14 .wrongMode .empty)) ∧
    (s.line.mode ≠ .initializing →
      (¬(k < 1024 ∧ (clear = 0 ∨ clear = 1 ∨ clear = 0xFF)) →
        exec read s = .next (s.replied read 0x11 .outOfRange .empty)) ∧
      (k < 1024 → (clear = 0 ∨ clear = 1 ∨ clear = 0xFF) →
        exec read s = .next (((s.take read).setEntry k { s.entry k with
            hits := if clear = 0 then (s.entry k).hits else 0,
            sticky := if clear = 0xFF then false else (s.entry k).sticky }).answer (s.header read) 0x11 .ok
          (.ruleRead k (s.entry k)))) ∧
      (¬(1 ≤ c ∧ c ≤ 48 ∧ side < 2 ∧ x < 1024 ∧ y < 1024) →
        exec probe s = .next (s.replied probe 0x14 .outOfRange .empty)) ∧
      ∀ d, sideOf side = some d → 1 ≤ c → c ≤ 48 → x < 1024 → y < 1024 →
        let r := s.lookup c d x y
        exec probe s = .next (s.replied probe 0x14 .ok (.ruleProbe r.decider r.rule
          (if r.rule = .masked then some r.site else none) (if r.rule = .materialOnly then some r.material else none))))

/-- R73 to R76: RULE_WRITE and RULE_FILL (a write of a range of one index), their tests in order and the edit accepted:
one step for each index of the range, ascending, and the affected class set of R73. That the CLASS_IN_SPRAY reply carries no tag is the model's choice (log 41). -/
def Obligations.RuleWriteAndFill : Prop :=
  ∀ (t : Byte) (first last : Nat) (f : EntryFields) (x : NumSet 48) (s : State) (write : Bool),
    (write = true → last = first) →
    let i : Instr := if write then .ruleWrite t first f else .ruleFill t first last f
    let kind := if write then 0x10 else 0x12
    (s.line.mode = .initializing → exec i s = .next (s.replied i kind .wrongMode .empty)) ∧
    (s.line.mode ≠ .initializing → ¬(first ≤ last ∧ last < 1024) ∨ readEntry f = none →
      exec i s = .next (s.replied i kind .outOfRange .empty)) ∧
    ∀ e, s.line.mode ≠ .initializing → first ≤ last → last < 1024 → readEntry f = some e →
      (∀ c, 1 ≤ c → c ≤ 48 → (x.has (c - 1) = true ↔
        e.names c = true ∨ ∃ k, first ≤ k ∧ k ≤ last ∧ ∃ p ∈ s.keepOut.entries, p.1 = k ∧ p.2.names c = true)) →
      (s.keepOut.edit ≠ none → exec i s = .next (s.replied i kind .editInFlight .empty)) ∧
      (s.keepOut.edit = none →
        (∀ slot b, slot < 32 → s.board slot = some b → b.life = .spraying → x.has (b.cls - 1) = true →
          (∀ k b', k < slot → s.board k = some b' → b'.life = .spraying → x.has (b'.cls - 1) = false) →
          exec i s = .next (s.replied i kind .classInSpray (.classInSpray x slot b.cls))) ∧
        ((∀ slot b, slot < 32 → s.board slot = some b → b.life = .spraying → x.has (b.cls - 1) = false) →
          exec i s = .next { s.take i with keepOut := { s.keepOut with edit := some {
            kind := if write then .write else .fill, ranges := [(first, last)], tag := t,
            place := s.link.handed.contains i, accepted := s.clock, affected := x, taken := 0,
            steps := (List.range (last - first + 1)).map fun k => .write (first + k) e } } }))

/-- R73, R74, R77: RULE_MOVE, its tests in order and the edit accepted, with the copy steps and the clear steps in their
order. That the CLASS_IN_SPRAY reply carries no tag is the model's choice (log 41). -/
def Obligations.RuleMove : Prop :=
  ∀ (t : Byte) (src dst n : Nat) (x : NumSet 48) (s : State),
    let i : Instr := .ruleMove t src dst n
    let inSrc := fun k => src ≤ k ∧ k < src + n
    let inDst := fun k => dst ≤ k ∧ k < dst + n
    (s.line.mode = .initializing → exec i s = .next (s.replied i 0x13 .wrongMode .empty)) ∧
    (s.line.mode ≠ .initializing → ¬(1 ≤ n ∧ src + n ≤ 1024 ∧ dst + n ≤ 1024) →
      exec i s = .next (s.replied i 0x13 .outOfRange .empty)) ∧
    (s.line.mode ≠ .initializing → 1 ≤ n → src + n ≤ 1024 → dst + n ≤ 1024 →
      (∀ c, 1 ≤ c → c ≤ 48 → (x.has (c - 1) = true ↔
        ∃ p ∈ s.keepOut.entries, (inSrc p.1 ∨ inDst p.1) ∧ p.2.names c = true)) →
      (s.keepOut.edit ≠ none → exec i s = .next (s.replied i 0x13 .editInFlight .empty)) ∧
      (s.keepOut.edit = none →
        ((∃ p ∈ s.keepOut.entries, inDst p.1 ∧ ¬ inSrc p.1 ∧ p.2.enabled = true) →
          exec i s = .next (s.replied i 0x13 .destOccupied .empty)) ∧
        ((∀ p ∈ s.keepOut.entries, inDst p.1 → ¬ inSrc p.1 → p.2.enabled = false) →
          (∀ slot b, slot < 32 → s.board slot = some b → b.life = .spraying → x.has (b.cls - 1) = true →
            (∀ k b', k < slot → s.board k = some b' → b'.life = .spraying → x.has (b'.cls - 1) = false) →
            exec i s = .next (s.replied i 0x13 .classInSpray (.classInSpray x slot b.cls))) ∧
          ((∀ slot b, slot < 32 → s.board slot = some b → b.life = .spraying → x.has (b.cls - 1) = false) →
            exec i s = .next { s.take i with keepOut := { s.keepOut with edit := some {
              kind := .move, ranges := [(src, src + n - 1), (dst, dst + n - 1)], tag := t,
              place := s.link.handed.contains i, accepted := s.clock, affected := x, taken := 0,
              steps := moveSteps src dst n } } }))))

/-- R72, R75 to R77: EDIT_STEP takes the next step of the edit at its millisecond; with the last one the record becomes
absent, the reply is produced with the lowest and the highest index of the edit's ranges, and the start tests of both lanes
are made. That the command moves the clock on to the step's millisecond and that with no edit in flight nothing happens are
the model's own choice (log 3), as is that lane 0's start test comes before lane 1's (log 33).

That the reply gives the lowest and the highest index of the edit's ranges, where R72 has the first and the last index
written, is the model's own choice (log 37). -/
def Obligations.EditStepTaken : Prop :=
  ∀ s : State,
    (s.keepOut.edit = none → exec .editStep s = .next s) ∧
    ∀ (e : Edit) (st : EditStep) (rest : List EditStep), s.keepOut.edit = some e → e.steps = st :: rest →
      let s1 : State := { s with clock := max s.clock (e.accepted + e.taken + 1) }
      let u := match st with
        | .write i x => s1.setEntry i x
        | .copy i j => s1.setEntry j (s.entry i)
        | .clear i => s1.setEntry i resetEntry
      (rest ≠ [] → exec .editStep s =
        .next { u with keepOut := { u.keepOut with edit := some { e with taken := e.taken + 1, steps := rest } } }) ∧
      ∀ low high, (∃ r ∈ e.ranges, r.1 = low) → (∀ r ∈ e.ranges, low ≤ r.1) →
        (∃ r ∈ e.ranges, r.2 = high) → (∀ r ∈ e.ranges, r.2 ≤ high) →
        rest = [] → exec .editStep s = .next ((((({ u with keepOut := { u.keepOut with edit := none } } : State).answer
          ⟨e.tag, e.place⟩ (match e.kind with | .write => 0x10 | .fill => 0x12 | .move => 0x13) .ok
          (.editDone e.kind low high (e.taken + 1) e.affected)).startTest 0).startTest 1).settle false s)

/-- R77: the steps of a move, taken one after another, leave every destination index holding the entry its source index
held, hits included, every source index outside the destination holding the reset entry, and every other index as it was.
There are as many copy steps as entries, and as many clear steps as the smaller of the count and the distance. -/
def Obligations.MoveMovesEntries : Prop :=
  ∀ (s : State) (src dst n k : Nat),
    ((moveSteps src dst n).foldl (fun u st => u.editStep st) s).entry k =
      (if dst ≤ k ∧ k < dst + n then s.entry (src + (k - dst))
       else if src ≤ k ∧ k < src + n then resetEntry
       else s.entry k) ∧
    (moveSteps src dst n).length = n + min n (max src dst - min src dst)

/-- R79: no step starts a board whose class lies in the affected class set of an edit in flight, nor accepts an edit
under a board being sprayed.

R96: every step keeps that no spit is in flight on a lane while a board of it is SPRAYING.

R73, R78: every step keeps that the waiting steps of the edit in flight touch only entries that name classes of its
affected class set. -/
def Obligations.EditGuardsKept : Prop :=
  (∀ s t : State, s.EditsSpareSprayed → step s = .next t → t.EditsSpareSprayed) ∧
  (∀ s t : State, s.NoSpitWhileSpraying → step s = .next t → t.NoSpitWhileSpraying) ∧
  (∀ s t : State, s.EditSound → step s = .next t → t.EditSound)

/-- R78: a step of an edit leaves every lookup of a class outside the edit's affected class set as it was. -/
def Obligations.EditSparesOtherClasses : Prop :=
  ∀ (s t : State) (e : Edit) (c x y : Nat) (d : Side), s.Canonical → s.EditSound → s.keepOut.edit = some e →
    1 ≤ c → c ≤ 48 → e.affected.has (c - 1) = false → exec .editStep s = .next t →
    t.lookup c d x y = s.lookup c d x y

/-! ## The path engine (spec/05_stroke_lists_and_the_path_engine.md) -/

/-- R84, R85: STROKE_LOAD and STROKE_READ, their tests in order, the records written and the records read. -/
def Obligations.StrokeBuffers : Prop :=
  ∀ (t : Byte) (lane first n : Nat) (records : List StrokeFields) (s : State),
    let load : Instr := .strokeLoad t lane first records
    let read : Instr := .strokeRead t lane first n
    (∀ code, firstFailure [
        (decide (s.line.mode ≠ .initializing), .wrongMode),
        (decide (lane < 2 ∧ 1 ≤ records.length ∧ records.length ≤ 16 ∧ first + records.length ≤ 512) &&
          (readStrokes records).isSome, .outOfRange),
        ((laneOf lane).all fun l => (List.range records.length).all fun k =>
          decide ((s.lane l).status = .idle ∨ first + k < (s.lane l).arming.first ∨
            (s.lane l).arming.first + (s.lane l).arming.count ≤ first + k), .strokesInUse)] = some code →
      exec load s = .next (s.replied load 0x20 code .empty)) ∧
    (∀ code, firstFailure [
        (decide (s.line.mode ≠ .initializing), .wrongMode),
        (decide (lane < 2 ∧ 1 ≤ n ∧ n ≤ 16 ∧ first + n ≤ 512), .outOfRange)] = some code →
      exec read s = .next (s.replied read 0x21 code .empty)) ∧
    ∀ l : Fin 2, l.val = lane → s.line.mode ≠ .initializing →
      (1 ≤ n → n ≤ 16 → first + n ≤ 512 → exec read s =
        .next (s.replied read 0x21 .ok (.strokeRead ((List.range n).map fun k => (s.lane l).stroke (first + k))))) ∧
      ∀ rs, readStrokes records = some rs → 1 ≤ rs.length → rs.length ≤ 16 → first + rs.length ≤ 512 →
        (∀ k, k < rs.length → (s.lane l).status = .idle ∨ first + k < (s.lane l).arming.first ∨
          (s.lane l).arming.first + (s.lane l).arming.count ≤ first + k) →
        ∃ strokes, exec load s = .next (((s.take load).setLane l { s.lane l with strokes := strokes }).answer
            (s.header load) 0x20 .ok (.strokeLoad lane first rs.length)) ∧
          ∀ k, Table.read (fun _ => resetStroke) strokes k =
            if first ≤ k ∧ k < first + rs.length then rs.getD (k - first) resetStroke else (s.lane l).stroke k

/-- R87, R38, R88: ARM_LANE, its tests in order with the first stroke that fails and its first check, and the arming
written, after which the start test is made. That the reply is produced before the start test and the close of the step is
the model's reading (log 23); so is what the close does, and in which order (log 18, 19); that AUTO_MATERIAL is 0 for off and 1
for on is its choice (log 42). -/
def Obligations.ArmLane : Prop :=
  ∀ (t : Byte) (lane c first n chain auto : Nat) (s : State),
    let i : Instr := .armLane t lane c first n chain auto
    (∀ code, firstFailure [
        (decide (s.line.mode = .config ∨ s.line.mode = .run ∨ s.line.mode = .drain), .wrongMode),
        (decide (lane < 2 ∧ 1 ≤ c ∧ c ≤ 48 ∧ first < 512 ∧ 1 ≤ n ∧ n ≤ 512 ∧ first + n ≤ 512 ∧ chain < 2 ∧ auto < 2),
          .outOfRange),
        ((laneOf lane).any fun l => decide ((s.lane l).status = .idle), .wrongState),
        ((s.cls c).valid, .notFound)] = some code → exec i s = .next (s.replied i 0x22 code .empty)) ∧
    ∀ l : Fin 2, l.val = lane →
      let check := fun k => (
        let st := (s.lane l).stroke (first + k)
        let swaths := match st.applicator.val % 3 with | 0 => (2, 8) | 1 => (1, 4) | _ => (1, 1)
        if st.applicator.val / 3 ≠ l.val then some StrokeCheck.lane
        else if (s.cls c).names st.material = false then some .material
        else if ¬(swaths.1 ≤ st.swath ∧ st.swath ≤ swaths.2) then some .swathKind
        else if 1023 < st.fixed + st.swath - 1 then some .swathGrid
        else none)
      (s.line.mode = .config ∨ s.line.mode = .run ∨ s.line.mode = .drain) → 1 ≤ c → c ≤ 48 → first < 512 → 1 ≤ n →
      n ≤ 512 → first + n ≤ 512 → chain < 2 → auto < 2 → (s.lane l).status = .idle → (s.cls c).valid = true →
      (∀ k x, k < n → (∀ j, j < k → check j = none) → check k = some x →
        exec i s = .next (s.replied i 0x22 .strokeInvalid (.strokeInvalid (first + k) x))) ∧
      ((∀ k, k < n → check k = none) →
        let a : Arming := ⟨some c, first, n, if chain = 1 then .chain else .once, first, n, decide (auto = 1)⟩
        exec i s = .next (((((s.take i).setLane l { s.lane l with status := .armed, arming := a }).answer (s.header i) 0x22
          .ok (.armed l.val a)).startTest l).settle false (s.take i)))

/-- R101: DISARM in each lane state. A board being sprayed becomes a disarmed board, its stroke in flight detached, and
reason 6 is raised on it. -/
def Obligations.DisarmLane : Prop :=
  ∀ (t : Byte) (n : Nat) (s : State),
    let i : Instr := .disarm t n
    (s.line.mode = .initializing → exec i s = .next (s.replied i 0x23 .wrongMode .empty)) ∧
    (s.line.mode ≠ .initializing → 2 ≤ n → exec i s = .next (s.replied i 0x23 .outOfRange .empty)) ∧
    ∀ l : Fin 2, l.val = n → s.line.mode ≠ .initializing →
      let close := fun u : State =>
        (u.answer (s.header i) 0x23 .ok (.disarmed n (s.lane l).status)).settle false (s.take i)
      let cleared := fun u : State => u.modLane l fun r => { r with status := .idle, arming := ⟨none, 0, 0, .once, 0, 0, false⟩ }
      let needless := fun u : State => u.modUnit ((s.lane l).stroke (s.lane l).arming.current).applicator fun r =>
        { r with need := none }
      ((s.lane l).status = .idle → exec i s = .next (close (s.take i))) ∧
      ((s.lane l).status = .armed → exec i s = .next (close (cleared (s.take i)))) ∧
      ((s.lane l).status = .running ∨ (s.lane l).status = .waitApplicator ∨ (s.lane l).status = .stopped →
        (s.sprayEmpty l → exec i s = .next (close (cleared (needless (s.take i))))) ∧
        ∀ slot b, s.atSprayPos l slot b →
          (b.life ≠ .spraying → exec i s = .next (close (cleared (needless (s.take i))))) ∧
          (b.life = .spraying → exec i s = .next (close ((((cleared (needless (s.take i))).modLane l fun r =>
            { r with op := r.op.map fun o => { o with stroke := o.stroke.map fun x => { x with detached := true } } }).setBoard
              slot (some { b with disarmed := true, interrupted := true })).raise 6 slot))))

/-! ## Applicators (spec/03_applicators.md) -/

/-- R48: APPLICATOR_STATUS reads one applicator, or the six in ascending id for FFh, with the prime window. Nothing but
the reply changes. The model's own choice: a queue entry's position counts from 0 (log 29), the parked time is shown in state
PARKED alone (log 34), and the deadline shown of an operation not yet sent to its last byte is a free value (log 14).

R102: LANE_STATUS reads the lane, the board at the spray position and the withholding cause; with LATE (1) the
late-reply flag is then cleared.

R173, R147: LINE_STATUS, in every mode, and OVEN_STATUS read the state and change nothing but the reply.
That no tag stands beside the slots of the bays, the shuttle operation, the wait list and the stroke is the model's choice (log 41),
as is that one applicator is a list of one (log 13). -/
def Obligations.StatusReads : Prop :=
  (∀ (t : Byte) (n : Nat) (s : State),
     let i : Instr := .applicatorStatus t n
     let view := fun a : Fin 6 => ({
       app := a, unit := s.unit a,
       parkedFor := if (s.unit a).state = .parked ∧ (s.unit a).parkedWet = true then
           (s.unit a).capTime.map fun c => s.clock - c else none,
       entry := (s.apps.queue.find? fun e => decide (e.app = a)).map fun e => (e, s.apps.queue.idxOf e),
       op := (s.opOf a).map fun o => (o, s.shownDeadline o) } : AppView)
     let body := fun as => Body.applicators as s.line.limits.windowLimit s.line.limits.windowLength s.apps.startList
     (s.line.mode = .initializing → exec i s = .next (s.replied i 0x2C .wrongMode .empty)) ∧
     (s.line.mode ≠ .initializing → 6 ≤ n → n ≠ 0xFF → exec i s = .next (s.replied i 0x2C .outOfRange .empty)) ∧
     (s.line.mode ≠ .initializing → n = 0xFF →
       exec i s = .next (s.replied i 0x2C .ok (body ([0, 1, 2, 3, 4, 5].map view)))) ∧
     ∀ a : Fin 6, a.val = n → s.line.mode ≠ .initializing → exec i s = .next (s.replied i 0x2C .ok (body [view a]))) ∧
  (∀ (t : Byte) (n clear : Nat) (s : State),
     let i : Instr := .laneStatus t n clear
     (s.line.mode = .initializing → exec i s = .next (s.replied i 0x24 .wrongMode .empty)) ∧
     (s.line.mode ≠ .initializing → ¬(n < 2 ∧ clear < 2) → exec i s = .next (s.replied i 0x24 .outOfRange .empty)) ∧
     ∀ l : Fin 2, l.val = n → s.line.mode ≠ .initializing →
       let v : LaneView := {
         lane := s.lane l, board := s.sprayBoard l,
         withhold := (s.sprayBoard l).bind fun p => if p.2.life = .atSpray then s.withhold l p.2 else none,
         shownDeadline := (s.lane l).op.elim 0#32 s.shownDeadline }
       (clear = 0 → exec i s = .next (s.replied i 0x24 .ok (.laneStatus v))) ∧
       (clear = 1 → exec i s = .next (((s.take i).setLane l { s.lane l with lateFlag := false }).answer (s.header i) 0x24 .ok
         (.laneStatus v)))) ∧
  (∀ (t : Byte) (s : State),
     let line : Instr := .lineStatus t
     let oven : Instr := .ovenStatus t
     let number := fun k => (List.range 32).countP fun n => (s.board n).any fun b => decide (b.life = k)
     exec line s = .next (s.replied line 0x01 .ok (.lineStatus {
       clock := s.clock, line := s.line,
       clearLeft := if s.line.mode = .initializing then some (250 - s.clock) else none,
       settings := s.oven.settings, staged := s.oven.staged,
       counts := [number .queued, number .atSpray, number .spraying, number .flashing, number .ovenReady, number .inOven],
       drainLeft := if s.line.mode = .drain then some (number .queued + number .atSpray + number .spraying) else none })) ∧
     (s.line.mode = .initializing → exec oven s = .next (s.replied oven 0x3C .wrongMode .empty)) ∧
     (s.line.mode ≠ .initializing → exec oven s = .next (s.replied oven 0x3C .ok (.ovenStatus {
       oven := s.oven, limits := s.line.limits,
       counting := s.oven.entryStart.map fun e => decide (s.clock < e.time + 1000 * s.line.limits.entryLength),
       boards := s.oven.occupancy.filterMap fun k => (s.board k).map fun b => ⟨k, b, s.blocked b⟩ }))))

/-! ## The path engine (spec/05_stroke_lists_and_the_path_engine.md) -/

/-- R88: the withholding cause is that of the first condition of the table that fails.

R88, R89: the start test of an AT_SPRAY board. It starts the board as one step when nothing withholds it, posts the
LANE notice at CLASS_MISMATCH, and else changes nothing; no other board is started by it.

The order of the notices of one step, where no rule gives it, is the model's own choice (log 38). -/
def Obligations.StartRule : Prop :=
  (∀ (s : State) (l : Fin 2) (b : Board),
     s.withhold l b = ([
       (decide (s.line.mode = .run), Withhold.mode),
       (decide ((s.lane l).status = .armed), .notArmed),
       (decide ((s.lane l).arming.cls = some b.cls), .classMismatch),
       (b.sites.all fun p => decide (p.2 = .present), .masks),
       (!(List.range 16).any fun n => b.holds n && (!(s.route n).masked && decide ((s.route n).action ≠ .flag)), .blocked),
       (b.mark.isNone, .marked),
       (s.keepOut.edit.all fun e => !e.affected.has (b.cls - 1), .edit),
       ((s.lane l).op.all fun o => decide (o.kind ≠ .spit), .spit)].find? fun p => !p.1).map (·.2)) ∧
  (∀ (s : State) (l : Fin 2),
     (s.sprayEmpty l → s.startTest l = s) ∧
     ∀ slot b, s.atSprayPos l slot b →
       (b.life ≠ .atSpray → s.startTest l = s) ∧
       (b.life = .atSpray →
         (∀ c, s.withhold l b = some c → s.startTest l = if c = .classMismatch then s.post (.lane l) else s) ∧
         (s.withhold l b = none → s.startTest l =
           (((s.setBoard slot (some { b with life := .spraying, strokesDone := 0, gated := 0 })).post
             (.board slot)).setLane l { s.lane l with
               status := .running,
               arming := { (s.lane l).arming with
                 current := (s.lane l).arming.first, remaining := (s.lane l).arming.count } }).post (.lane l))))

/-- R91: the open runs of a resolution cover exactly its open columns, and each run is maximal: it begins and ends with an
open column and no open column of the stroke lies next to it outside it. -/
def Obligations.OpenRuns : Prop :=
  ∀ (s : State) (b : Board) (st : Stroke),
    let cols := s.resolve b st
    let inRun := fun (r : Nat × Nat) p => min r.1 r.2 ≤ p ∧ p ≤ max r.1 r.2
    (∀ p ∈ cols, (columnOpen p.2 = true ↔ ∃ r ∈ openRuns cols, inRun r p.1)) ∧
    (∀ r ∈ openRuns cols, (st.start ≤ st.stop → r.1 ≤ r.2) ∧ (st.stop < st.start → r.2 ≤ r.1) ∧
      (∃ p ∈ cols, p.1 = r.1) ∧ (∃ p ∈ cols, p.1 = r.2) ∧
      ∀ p ∈ cols, (p.1 + 1 = min r.1 r.2 ∨ p.1 = max r.1 r.2 + 1) → columnOpen p.2 = false) ∧
    (openRuns cols).Pairwise fun r q => if st.start ≤ st.stop then r.2 + 1 < q.1 else q.1 + 1 < r.2

/-- R90 to R94: the head takes the current stroke. Its applicator not ready, the lane waits, with the need set where
AUTO_MATERIAL is on. A resolution of more than 16 open runs is FRAGMENTED: reason 4, then abandonment, STOPPED, or the stroke
passed over. Any other adds its closed columns; then a marked board is abandoned, a blocked one stops the lane (the stroke
withheld), and else the stroke is sent, or skipped without open run. A passed-over or skipped last-use stroke has the
automatic purge queued, and the last stroke of the arming reaches terminal count.

R92: a resolution adds its closed columns to the gated-column total, saturating at 65535, and raises reason 3 when the
total passes the class gate limit by it, and only then.

R93: a stroke sent. Its hits are counted, the flow is the smaller of the stroke's flow and the class flow cap with
FLOW_CLAMPED set where it is clamped, the applicator is SPRAYING without a need, and the lane's next op id names the
operation in flight, whose deadline spans the class stroke timeout, and the command with its runs.

The order of the notices of one step, where no rule gives it, is the model's own choice (log 38). -/
def Obligations.StrokeSending : Prop :=
  (∀ (s : State) (slot n : Nat) (b : Board), s.board slot = some b →
     let total := min 65535 (b.gated + n)
     let u := s.setBoard slot (some { b with gated := total })
     (b.gated ≤ (s.cls b.cls).gateLimit → (s.cls b.cls).gateLimit < total → s.addGated slot b n = u.raiseCore false slot 3) ∧
     (¬(b.gated ≤ (s.cls b.cls).gateLimit ∧ (s.cls b.cls).gateLimit < total) → s.addGated slot b n = u)) ∧
  (∀ (s : State) (l : Fin 2) (slot : Nat) (b : Board) (st : Stroke) (cols : List (Nat × List Cell)),
     s.board slot = some b →
     let cap := (s.cls b.cls).flowCap
     let u := s.sendStroke l slot b st cols
     u.keepOut = (s.countHits cols).keepOut ∧
     u.board slot = some { b with flowClamped := b.flowClamped || decide (cap < st.flow) } ∧
     (∀ k, k ≠ slot → u.board k = s.board k) ∧
     u.unit st.applicator = { s.unit st.applicator with need := none, state := .spraying } ∧
     (∀ a, a ≠ st.applicator → u.unit a = s.unit a) ∧
     (∀ k, k ≠ l → u.lane k = s.lane k) ∧
     u.lane l = { s.lane l with
       op := some ⟨(s.lane l).nextOp, .stroke, st.applicator, (s.cls b.cls).timeout, none,
         some ⟨slot, (s.lane l).arming.current, false, st.material, st.lastUse⟩⟩
       nextOp := if (s.lane l).nextOp = 255 then 1 else (s.lane l).nextOp + 1
       command := some ((s.lane l).nextOp, .stroke st.applicator st.material st.axis st.fixed st.start st.stop st.swath
         (min st.flow cap) (openRuns cols)) }) ∧
  (∀ (s : State) (l : Fin 2) (slot : Nat) (b : Board), s.atSprayPos l slot b →
     let st := (s.lane l).stroke (s.lane l).arming.current
     let a := st.applicator
     let ready := (s.unit a).state = .primed ∧ (s.unit a).material = some st.material ∧ ∀ e ∈ s.apps.queue, e.app ≠ a
     let cols := s.resolve b st
     let ended := fun u : State =>
       let v := if st.lastUse = true ∧ u.queued a = false then u.enqueue ⟨a, .purge, (u.unit a).material, .automatic⟩ else u
       let w := v.modLane l fun r => { r with arming := { r.arming with
         current := r.arming.current + 1, remaining := r.arming.remaining - 1 } }
       if (s.lane l).arming.remaining ≤ 1 then w.terminal l slot else w
     ((s.lane l).status = .running → ¬ ready →
       let w := (s.setLane l { s.lane l with status := .waitApplicator }).post (.lane l)
       s.takeStroke l = if (s.lane l).arming.auto = true
         then (w.setUnit a { s.unit a with need := some st.material }).autoStep a else w) ∧
     (ready → 16 < (openRuns cols).length →
       let u := s.raiseCore false slot 4
       ∃ b', u.board slot = some b' ∧
         (b'.mark ≠ none → s.takeStroke l = u.abandon l slot) ∧
         (b'.mark = none → u.blocked b' = true → s.takeStroke l = u.stopLane l) ∧
         (b'.mark = none → u.blocked b' = false → s.takeStroke l = ended u)) ∧
     (ready → (openRuns cols).length ≤ 16 →
       let u := s.addGated slot b (cols.countP fun p => !columnOpen p.2)
       ∃ b', u.board slot = some b' ∧
         (b'.mark ≠ none → s.takeStroke l = u.abandon l slot) ∧
         (b'.mark = none → u.blocked b' = true → s.takeStroke l = u.stopLane l) ∧
         (b'.mark = none → u.blocked b' = false →
           (openRuns cols ≠ [] → s.takeStroke l = u.sendStroke l slot b' st cols) ∧
           (openRuns cols = [] → s.takeStroke l =
             ended ((u.countHits cols).setBoard slot (some { b' with strokesDone := b'.strokesDone + 1 }))))))

/-- R94: a stroke ends with HEAD_DONE on a board that is in the table. The board of a stroke that is not detached counts it
and adds its material; then terminal count with the last stroke, abandonment of a marked board, STOPPED for a blocked one, or
the loop goes on; the head serves at the end of the step.

R101: a detached stroke that ends so adds its material and changes no other part of the board or the lane; then the disarmed
board leaves SPRAYING where it may.

R95, R123: terminal count. The board is FLASHING with its spray-end time and asks for a bay; without a mark its flash-ready
time and its open deadline come from the largest flash time and the smallest open time of the materials used. The lane
becomes IDLE and cleared in ONCE mode, ARMED and reloaded in CHAIN mode.

The order of the notices of one step, where no rule gives it, is the model's own choice (log 38); so is that the start test goes
before the freed head takes its next operation (log 45). -/
def Obligations.StrokeDone : Prop :=
  (∀ (l : Fin 2) (op : Byte) (s : State) (o : HeadOp) (r : StrokeRef) (b : Board),
     s.line.mode ≠ .initializing → (s.lane l).op = some o → o.opId = op.toNat → o.kind = .stroke → o.stroke = some r →
     s.board r.slot = some b →
     let freed := (s.modLane l fun x => { x with op := none }).modUnit o.app fun x =>
       if x.state = .fouled then x
       else { x with state := .primed, debt := 0, keepWet := x.material.map fun m => s.clock + 1000 * (s.mat m).keepWetS }
     let purged := if r.lastUse = true ∧ freed.queued o.app = false then
         freed.enqueue ⟨o.app, .purge, (freed.unit o.app).material, .automatic⟩ else freed
     let u := (purged.setBoard r.slot (some { b with
         strokesDone := b.strokesDone + 1, used := b.used.join r.material })).modLane l fun x =>
       { x with arming := { x.arming with current := x.arming.current + 1, remaining := x.arming.remaining - 1 } }
     (r.detached = false → exec (.headDone l op) s = .next (State.settle false (
       if (s.lane l).arming.remaining ≤ 1 then u.terminal l r.slot
       else if b.mark.isSome then u.abandon l r.slot
       else if s.blocked b then u.stopLane l
       else u) s)) ∧
     (r.detached = true → exec (.headDone l op) s = .next (State.settle false (State.departDisarmed r.slot
       (purged.setBoard r.slot (some { b with used := b.used.join r.material }))) s))) ∧
  (∀ (l : Fin 2) (slot flash : Nat) (opens : Option Nat) (s : State) (b : Board),
     s.board slot = some b → b.life = .spraying → (s.lane l).status = .running →
     let used := b.used.members
     (∀ m ∈ used, (s.mat m).flashMinS ≤ flash) → (used = [] → flash = 0) →
     (used ≠ [] → ∃ m ∈ used, (s.mat m).flashMinS = flash) → (opens = none ↔ used = []) →
     (∀ x, opens = some x → (∃ m ∈ used, (s.mat m).openMaxS = x) ∧ ∀ m ∈ used, x ≤ (s.mat m).openMaxS) →
     let b1 : Board := { b with life := .flashing, sprayEnd := some s.clock }
     let b2 : Board := if b.mark = none then { b1 with
       flashReady := some (s.clock + 1000 * flash), openDeadline := opens.map fun x => s.clock + 1000 * x,
       flashArmed := true, openArmed := opens.isSome } else b1
     let u := ((s.setBoard slot (some b2)).post (.board slot)).requestBay slot
     s.terminal l slot = (u.setLane l (match (s.lane l).arming.mode with
       | .once => { s.lane l with status := .idle, arming := ⟨none, 0, 0, .once, 0, 0, false⟩ }
       | .chain => { s.lane l with status := .armed, arming := { (s.lane l).arming with
           current := (s.lane l).arming.first, remaining := (s.lane l).arming.count } })).post (.lane l))

/-- R98: a stroke ends with a fault or at its deadline. Nothing is counted; the fault is recorded with its LANE notice. Of a
stroke that is not detached reason 5 is raised, and the board is judged after the raise. That the deadline's command moves
the clock on to the deadline is the model's own choice (log 3).

R101: of a detached stroke no reason is raised, and the disarmed board leaves SPRAYING where it may: with no stroke of it in
flight, marked it is FLASHING and asks for a bay, not blocked it is AT_SPRAY and the start test is made.

R99: STOPPED, with the need of the current stroke's applicator absent. R100: abandonment. The board is FLASHING, interrupted,
with its spray-end time, and asks for a bay; the lane follows its mode as at terminal count, and a lane that waited ends its
need.

The order of the notices of one step, where no rule gives it, is the model's own choice (log 38); so is that the start test goes
before the freed head takes its next operation (log 45). -/
def Obligations.StrokeFaults : Prop :=
  (∀ (l : Fin 2) (op : Byte) (kind : Nat) (s : State) (o : HeadOp) (r : StrokeRef),
     (s.lane l).op = some o → o.kind = .stroke → o.stroke = some r →
     let failed := fun (u : State) (k : Option FaultKind) =>
       let f := ((u.modLane l fun x => { x with op := none }).modUnit o.app fun x =>
         if x.state = .fouled then x
         else if k = some .clog then { x with
           state := .fouled, debt := 0, keepWet := none, foulCause := some (.fault .clog) }
         else { x with state := .primed })
       (f.modLane l fun x => { x with lastFault := some ⟨k, r.index, u.clock⟩ }).post (.lane l)
     let judged := fun u : State =>
       match u.board r.slot with
       | none => u
       | some b => if b.mark.isSome then u.abandon l r.slot else if u.blocked b then u.stopLane l else u
     let ends := fun (u : State) (k : Option FaultKind) =>
       if r.detached then (failed u k).departDisarmed r.slot else judged ((failed u k).raiseCore false r.slot 5)
     (s.line.mode ≠ .initializing → o.opId = op.toNat →
       exec (.headFault l op kind) s = .next ((ends s (some (faultOf kind))).settle false s)) ∧
     ∀ d, o.deadline = some d → exec (.headDeadline l) s = .next ((ends (s.reach d) none).settle false s)) ∧
  (∀ (slot : Nat) (s : State) (b : Board), s.board slot = some b →
     let inFlight := ∃ o x, (s.lane b.lane).op = some o ∧ o.stroke = some x ∧ x.slot = slot
     (b.life ≠ .spraying ∨ b.disarmed = false ∨ inFlight → s.departDisarmed slot = s) ∧
     (b.life = .spraying → b.disarmed = true → ¬ inFlight →
       (b.mark ≠ none → s.departDisarmed slot = ((s.setBoard slot (some { b with
         life := .flashing, interrupted := true, disarmed := false, sprayEnd := some s.clock })).post
           (.board slot)).requestBay slot) ∧
       (b.mark = none → s.blocked b = true → s.departDisarmed slot = s) ∧
       (b.mark = none → s.blocked b = false → s.departDisarmed slot = ((s.setBoard slot (some { b with
         life := .atSpray, disarmed := false })).post (.board slot)).startTest b.lane))) ∧
  (∀ (l : Fin 2) (slot : Nat) (s : State) (b : Board), s.board slot = some b → b.life = .spraying →
     let a := ((s.lane l).stroke (s.lane l).arming.current).applicator
     let needless := fun u : State => u.setUnit a { s.unit a with need := none }
     let waits := (s.lane l).status = .waitApplicator
     ((s.lane l).status = .running ∨ waits →
       s.stopLane l = ((needless s).setLane l { s.lane l with status := .stopped }).post (.lane l)) ∧
     ((s.lane l).status = .running ∨ waits ∨ (s.lane l).status = .stopped →
       let u := ((s.setBoard slot (some { b with
         life := .flashing, interrupted := true, disarmed := false, sprayEnd := some s.clock })).post
           (.board slot)).requestBay slot
       s.abandon l slot = ((if waits then needless u else u).setLane l (match (s.lane l).arming.mode with
         | .once => { s.lane l with status := .idle, arming := ⟨none, 0, 0, .once, 0, 0, false⟩ }
         | .chain => { s.lane l with status := .armed, arming := { (s.lane l).arming with
             current := (s.lane l).arming.first, remaining := (s.lane l).arming.count } })).post (.lane l)))

/-- R97: a head reply that matches no operation in flight is late: it ends nothing, sets the late-reply flag, is recorded
as the last late reply and posts a LANE notice; in INITIALIZING it is discarded. That a late HEAD_FAULT is recorded without its
fault kind is the model's own choice (log 46). The deadline of a lane without an
operation in flight, or of one whose deadline has not begun, does not expire.

R96, 11 R179: the deadline of an operation begins when the last byte of its command has been sent, once; a command of
another op id begins nothing. -/
def Obligations.HeadLinkEvents : Prop :=
  (∀ (l : Fin 2) (op : Byte) (kind : Nat) (s : State),
     (s.line.mode = .initializing → exec (.headDone l op) s = .next s ∧ exec (.headFault l op kind) s = .next s) ∧
     (s.line.mode ≠ .initializing → (∀ o, (s.lane l).op = some o → o.opId ≠ op.toNat) →
       exec (.headDone l op) s = .next ((s.setLane l { s.lane l with
         lateFlag := true, lastLate := some ⟨op.toNat, false, s.clock⟩ }).post (.lane l)) ∧
       exec (.headFault l op kind) s = .next ((s.setLane l { s.lane l with
         lateFlag := true, lastLate := some ⟨op.toNat, true, s.clock⟩ }).post (.lane l))) ∧
     ((∀ o, (s.lane l).op = some o → o.deadline = none) → exec (.headDeadline l) s = .next s)) ∧
  (∀ (l : Fin 2) (op : Byte) (s : State),
     (∀ o, (s.lane l).op = some o → o.opId = op.toNat → o.deadline = none →
       exec (.headCommandSent l op) s =
         .next (s.setLane l { s.lane l with op := some { o with deadline := some (s.clock + o.span) } })) ∧
     ((∀ o, (s.lane l).op = some o → o.opId ≠ op.toNat ∨ o.deadline ≠ none) →
       exec (.headCommandSent l op) s = .next s))

/-! ## Masks and findings (spec/06_masks_and_inspection_findings.md) -/

/-- R114: CRITERION_WRITE and CRITERION_READ. A write replaces the criterion and sets its tally to 0 on every board; a read
changes nothing. -/
def Obligations.Criteria : Prop :=
  ∀ (t : Byte) (k : Nat) (f : CriterionFields) (s : State),
    let write : Instr := .criterionWrite t k f
    let read : Instr := .criterionRead t k
    (s.line.mode = .initializing → exec write s = .next (s.replied write 0x18 .wrongMode .empty) ∧
      exec read s = .next (s.replied read 0x19 .wrongMode .empty)) ∧
    (s.line.mode ≠ .initializing →
      (¬(k < 32 ∧ f.cls ≤ 48 ∧ f.kind ≤ 5 ∧ f.side ≤ 2 ∧ f.keepOutOnly ≤ 1 ∧ f.threshold ≤ 16 ∧
          (f.reason = 8 ∨ f.reason = 9)) →
        exec write s = .next (s.replied write 0x18 .outOfRange .empty)) ∧
      (32 ≤ k → exec read s = .next (s.replied read 0x19 .outOfRange .empty)) ∧
      (k < 32 → exec read s = .next (s.replied read 0x19 .ok (.criterionRead (s.criterion k)
        (if (s.criterion k).threshold = 0 then 0
         else s.boards.countP fun p => decide ((s.criterion k).threshold ≤ p.2.tally k))))) ∧
      ∀ side, sideSelOf f.side = some side → k < 32 → f.cls ≤ 48 → f.kind ≤ 5 → f.keepOutOnly ≤ 1 → f.threshold ≤ 16 →
        (f.reason = 8 ∨ f.reason = 9) →
        let c : Criterion := ⟨f.cls, f.kind, side, decide (f.keepOutOnly = 1), f.threshold, f.reason⟩
        ∃ u : State, exec write s = .next (u.answer (s.header write) 0x18 .ok
            (.criterionWrite k (s.boards.countP fun p => decide (0 < p.2.tally k)))) ∧
          u = { s.take write with criteria := u.criteria, tracker := { s.tracker with boards := u.tracker.boards } } ∧
          (∀ j, u.criterion j = if j = k then c else s.criterion j) ∧
          (∀ slot, u.board slot = (s.board slot).map fun b => { b with tallies := (b.setTally k 0).tallies }) ∧
          ∀ b j, (Board.setTally k 0 b).tally j = if j = k then 0 else b.tally j)

/-- R108 to R111: MASK_REPORT, its tests in order and its steps in order: the site's state, MASK_MISSING when the condition
becomes true, the end of the mask wait when no site is left UNREAD, and the start test of an AT_SPRAY board whose site
changed.

R111: at the expiry of a mask wait deadline it becomes absent and reason 2 is raised.

The model's own choice: the command of an expiry moves the clock on to the expiry's time where it has not come, and without a
mask wait it changes nothing (log 3). The reply is produced before the close of the step (log 23). -/
def Obligations.Masks : Prop :=
  (∀ (t : Byte) (slot k v : Nat) (s : State),
     let i : Instr := .maskReport t slot k v
     (∀ code, firstFailure [
         (decide (s.line.mode ≠ .initializing), .wrongMode),
         (decide (slot < 32 ∧ 1 ≤ k ∧ k ≤ 16 ∧ v < 2), .outOfRange),
         ((s.board slot).isSome, .notFound),
         ((s.board slot).any fun b => (b.site k).isSome, .outOfRange),
         ((s.board slot).any fun b => decide (b.life = .queued ∨ b.life = .atSpray ∨ b.life = .spraying), .wrongState)] =
         some code → exec i s = .next (s.replied i 0x34 code .empty)) ∧
     ∀ b old, s.line.mode ≠ .initializing → slot < 32 → 1 ≤ k → k ≤ 16 → v < 2 → s.board slot = some b →
       b.site k = some old → (b.life = .queued ∨ b.life = .atSpray ∨ b.life = .spraying) →
       let new := if v = 0 then SiteState.present else .absent
       let b1 : Board := { b with sites := b.sites.map fun p => if p.1 = k then (k, new) else p }
       let s1 := (s.take i).setBoard slot (some b1)
       let s2 := if (∀ p ∈ b.sites, p.2 ≠ .absent) ∧ (∃ p ∈ b1.sites, p.2 = .absent) then s1.raise 1 slot else s1
       let s3 := if ∃ p ∈ b1.sites, p.2 = .unread then s2 else s2.modBoardQuiet slot fun x => { x with maskWait := none }
       let s4 := if b.life = .atSpray ∧ old ≠ new then s3.startTest b.lane else s3
       exec i s = .next ((s4.answer (s.header i) 0x34 .ok (.maskReport slot b.tag k old new
         (b1.sites.any fun p => decide (p.2 = .absent)) ((s4.board slot).any fun x => x.maskWait.isSome))).settle false
         (s.take i))) ∧
  (∀ (slot : Nat) (s : State),
     ((∀ b, s.board slot = some b → b.maskWait = none) → exec (.maskWaitExpiry slot) s = .next s) ∧
     ∀ b d, s.board slot = some b → b.maskWait = some d →
       exec (.maskWaitExpiry slot) s = .next ((((s.reach d).setBoard slot (some { b with maskWait := none })).raise 2
         slot).settle false s))

/-- R112, R113, R115, R116: FINDING, its tests in order; the finding stored or counted as overflow, its kind seen, the
tallies of the matching criteria raised, and the reasons of the criteria that come to their thresholds raised in ascending
index. That the reply has each such criterion's index with its reason, as pairs, is the model's own choice (log 49). -/
def Obligations.FindingTaken : Prop :=
  ∀ (t : Byte) (slot kind side x y : Nat) (s : State),
    let i : Instr := .finding t slot kind side x y
    (∀ code, firstFailure [
        (decide (s.line.mode ≠ .initializing), .wrongMode),
        (decide (slot < 32 ∧ 1 ≤ kind ∧ kind ≤ 5 ∧ side < 2 ∧ x < 1024 ∧ y < 1024), .outOfRange),
        ((s.board slot).isSome, .notFound),
        ((s.board slot).any fun b => decide (b.life = .flashing ∨ b.life = .ovenReady), .wrongState)] = some code →
      exec i s = .next (s.replied i 0x35 code .empty)) ∧
    ∀ b d, s.line.mode ≠ .initializing → slot < 32 → 1 ≤ kind → kind ≤ 5 → sideOf side = some d → x < 1024 → y < 1024 →
      s.board slot = some b → (b.life = .flashing ∨ b.life = .ovenReady) →
      let seen := s.lookup b.cls b.side x y
      let hits := (List.range 32).filter fun j =>
        let c := s.criterion j
        decide (0 < c.threshold) && decide (c.cls = 0 ∨ c.cls = b.cls) && decide (c.kind = 0 ∨ c.kind = kind) &&
        decide (c.side = .either ∨ c.side = .top ∧ d = .top ∨ c.side = .bottom ∧ d = .bottom) &&
        decide (c.keepOutOnly = false ∨ seen.rule = .keepOut ∨ seen.rule = .masked)
      let reached := hits.filter fun j =>
        decide (b.tally j < (s.criterion j).threshold ∧ min 255 (b.tally j + 1) = (s.criterion j).threshold)
      let stores := decide (b.findings.length < 16)
      ∃ b1 : Board,
        b1 = { b with
          findings := if stores then b.findings ++ [⟨kind, d, x, y, s.clock⟩] else b.findings
          overflow := if stores then b.overflow else min 255 (b.overflow + 1)
          kindsSeen := b.kindsSeen.join kind
          tallies := b1.tallies } ∧
        (∀ j, b1.tally j = if j ∈ hits then min 255 (b.tally j + 1) else b.tally j) ∧
        exec i s = .next (((reached.foldl (fun u j => u.raise (s.criterion j).reason slot)
          ((s.take i).setBoard slot (some b1))).answer (s.header i) 0x35 .ok (.finding slot b.tag stores b1.findings.length
            b1.overflow (reached.map fun j => (j, (s.criterion j).reason)))).settle false (s.take i))

/-- R117: INSPECT_DONE, its tests in order; the flag is set, and when it was clear the OVEN_READY conditions are tested
again.

R126: the OVEN_READY test makes a FLASHING board in a bay OVEN_READY, with its BOARD notice, when its flash-ready time
is reached, its inspection gate is open, it is not blocked and carries no mark, and changes nothing else.

R124, R126: the flash-ready time of a board reached, and its open deadline reached: OPEN_TIME (7) is raised, once,
unless its admission is in flight, which holds the expiry over. An OVEN_READY board that ceases to meet a condition is
FLASHING again, and an expiry held over is taken when the admission ends without entry.

The model's own choice: the command of an expiry moves the clock on to the expiry's time where it has not come, and a timer
that does not run expires nothing (log 3); whether a timer has yet to expire is a mark the model keeps (log 20).

The order of the notices of one step, where no rule gives it, is the model's own choice (log 38). -/
def Obligations.ReadinessOfABoard : Prop :=
  (∀ (t : Byte) (slot : Nat) (s : State),
     let i : Instr := .inspectDone t slot
     (∀ code, firstFailure [
         (decide (s.line.mode ≠ .initializing), .wrongMode),
         (decide (slot < 32), .outOfRange),
         ((s.board slot).isSome, .notFound),
         ((s.board slot).any fun b => decide (b.life = .flashing ∨ b.life = .ovenReady), .wrongState)] = some code →
       exec i s = .next (s.replied i 0x36 code .empty)) ∧
     ∀ b, s.line.mode ≠ .initializing → slot < 32 → s.board slot = some b → (b.life = .flashing ∨ b.life = .ovenReady) →
       let u := (s.take i).setBoard slot (some { b with inspectDone := true })
       exec i s = .next (((if b.inspectDone then u else u.testReady slot).answer (s.header i) 0x36 .ok
         (.inspectDone slot b.tag b.inspectDone)).settle false (s.take i))) ∧
  (∀ (s : State) (slot : Nat) (b : Board), s.board slot = some b →
     let holds := b.life = .flashing ∧ (∃ n, b.loc = .bay n) ∧ (∃ d, b.flashReady = some d ∧ d ≤ s.clock) ∧
       ((s.cls b.cls).inspect = false ∨ b.inspectDone = true) ∧ s.blocked b = false ∧ b.mark = none
     (holds → s.testReady slot = (s.setBoard slot (some { b with life := .ovenReady })).post (.board slot)) ∧
     (¬ holds → s.testReady slot = s)) ∧
  (∀ (slot : Nat) (s : State),
     ((∀ b, s.board slot = some b → b.flashArmed = false ∨ b.flashReady = none) →
       exec (.flashReadyReached slot) s = .next s) ∧
     (∀ b d, s.board slot = some b → b.flashArmed = true → b.flashReady = some d →
       exec (.flashReadyReached slot) s =
         .next ((((s.reach d).setBoard slot (some { b with flashArmed := false })).testReady slot).settle false s)) ∧
     ((∀ b, s.board slot = some b → b.openArmed = false ∨ b.openDeadline = none ∨ b.mark ≠ none ∨
         b.life ≠ .flashing ∧ b.life ≠ .ovenReady) → exec (.openDeadlineExpiry slot) s = .next s) ∧
     ∀ b d, s.board slot = some b → b.openArmed = true → b.openDeadline = some d → b.mark = none →
       (b.life = .flashing ∨ b.life = .ovenReady) →
       (s.admitting slot = true → exec (.openDeadlineExpiry slot) s = .next (s.reach d)) ∧
       (s.admitting slot = false → exec (.openDeadlineExpiry slot) s =
         .next (((((s.reach d).setBoard slot (some { b with openArmed := false })).raiseCore false slot 7).leaveReady
           slot).settle false s))) ∧
  (∀ (s : State) (slot : Nat) (b : Board), s.board slot = some b →
     let ceased := b.life = .ovenReady ∧
       (s.blocked b = true ∨ b.mark ≠ none ∨ (s.cls b.cls).inspect = true ∧ b.inspectDone = false)
     let passed := b.openArmed = true ∧ b.mark = none ∧ (b.life = .flashing ∨ b.life = .ovenReady) ∧
       ∃ d, b.openDeadline = some d ∧ d ≤ s.clock
     (ceased → s.leaveReady slot = (s.setBoard slot (some { b with life := .flashing })).post (.board slot)) ∧
     (¬ ceased → s.leaveReady slot = s) ∧
     (passed → s.heldOver slot =
       ((s.setBoard slot (some { b with openArmed := false })).raiseCore false slot 7).leaveReady slot) ∧
     (¬ passed → s.heldOver slot = s))

/-! ## Flash-off, the shuttle and the oven (spec/07_flash_off_and_oven_admission.md, spec/08_cure_dose.md) -/

/-- R127, R128: a shuttle decision. None is made while the shuttle is busy or in another mode than RUN, DRAIN and CONFIG;
a marked FLASHING board in the lowest such bay goes to the divert gate before any admission; else, where the conditions of
admission hold, the OVEN_READY board first by the four keys is admitted; else nothing is done.

R127, R168: the end of a step. The free heads take work, lane 0's first (the model's choice, log 19); a drain ends where a
board has left the states before the buffer and none is left there (tested here by log 31); then the shuttle decision is made
where one was prompted, on the state as the step leaves it (log 18). -/
def Obligations.ShuttleDecision : Prop :=
  (∀ s : State,
    let free := s.oven.shuttle = none ∧ (s.line.mode = .run ∨ s.line.mode = .drain ∨ s.line.mode = .config)
    let marked := fun n => ∃ slot b, s.bay n = .occupied slot ∧ s.board slot = some b ∧ b.life = .flashing ∧ b.mark ≠ none
    let opened := s.oven.occupancy.length < 12 ∧
      (s.oven.entryStart.countP fun e => decide (s.clock < e.time + 1000 * s.line.limits.entryLength)) <
        s.line.limits.entryLimit ∧
      (∀ z, (s.zone z).stale = false) ∧ s.oven.staged = none
    let ready := fun n slot b => s.bay n = .occupied slot ∧ s.board slot = some b ∧ b.life = .ovenReady
    let time := fun x : Option Nat => match x with | some d => [0, d] | none => [1, 0]
    let key := fun (n : Fin 8) (b : Board) =>
      time b.openDeadline ++ time b.sprayEnd ++ [if b.lane = s.oven.lastEntered then 1 else 0, n.val]
    (¬ free → s.decideShuttle = s) ∧
    (∀ n slot b, free → s.bay n = .occupied slot → s.board slot = some b → b.life = .flashing → b.mark ≠ none →
      (∀ m, m < n → ¬ marked m) →
      s.decideShuttle = { s with oven := { s.oven with
        shuttle := some ⟨.divert, slot, n, s.clock, s.clock + 20000⟩ } }.modBoard slot fun b => { b with loc := .toDivert }) ∧
    ((∀ n, ¬ marked n) → ¬ opened → s.decideShuttle = s) ∧
    ((∀ n, ¬ marked n) → (∀ n slot b, ¬ ready n slot b) → s.decideShuttle = s) ∧
    ∀ n slot b, free → (∀ n, ¬ marked n) → opened → ready n slot b →
      (∀ m slot' b', ready m slot' b' → m ≠ n → key n b < key m b') →
      s.decideShuttle = { s with oven := { s.oven with
        shuttle := some ⟨.admission, slot, n, s.clock, s.clock + 20000⟩ } }) ∧
  (∀ (s s0 u : State) (prompt : Bool),
     let early := fun b : Board => b.life = .queued ∨ b.life = .atSpray ∨ b.life = .spraying
     let s1 := (s.serveLane 0).serveLane 1
     let drained := s1.line.mode = .drain ∧ (∀ k b, k < 32 → s1.board k = some b → ¬ early b) ∧
       ∃ k b, k < 32 ∧ s0.board k = some b ∧ early b
     let ready := fun (v : State) k => ∃ b, v.board k = some b ∧ b.life = .ovenReady
     let marked := fun (v : State) k => ∃ b n, v.board k = some b ∧ b.mark ≠ none ∧ b.loc = .bay n
     let prompted := prompt = true ∨ s0.oven.shuttle ≠ none ∧ u.oven.shuttle = none ∨ s0.line.mode ≠ u.line.mode ∨
       ∃ k, k < 32 ∧ (ready u k ∧ ¬ ready s0 k ∨ marked u k ∧ ¬ marked s0 k)
     (drained → u = State.post .line { s1 with line := { s1.line with
       mode := .config, lastChange := ⟨.drain, .config, .drainEnd, s1.clock⟩ } }) → (¬ drained → u = s1) →
     (prompted → s.settle prompt s0 = u.decideShuttle) ∧ (¬ prompted → s.settle prompt s0 = u))

/-- R130 to R132: OVEN_ENTER and DIVERT_PASS, expected and unexpected, and the deadlines of the two shuttle operations.
Without the operation, or with the other kind, an event posts an OVEN notice. The model's own choice (log 3): the command of a
deadline moves the clock on to the deadline where it has not come, and without its operation it changes nothing.

The model's own choice too: an event ends the operation of its kind that is present, also one begun after another of that kind
ended without it (log 40); the accumulators stand in ascending material id (log 39); the order of the notices of one step,
where no rule gives it (log 38). -/
def Obligations.ShuttleEnds : Prop :=
  ∀ s : State,
    (s.line.mode = .initializing → exec .ovenEnter s = .next s ∧ exec .divertPass s = .next s) ∧
    (s.line.mode ≠ .initializing → (∀ o, s.oven.shuttle = some o → o.kind = .divert) →
      exec .ovenEnter s = .next (s.post .oven)) ∧
    (s.line.mode ≠ .initializing → (∀ o, s.oven.shuttle = some o → o.kind = .admission) →
      exec .divertPass s = .next (s.post .oven)) ∧
    ((∀ o, s.oven.shuttle = some o → o.kind = .divert) → exec .admitDeadline s = .next s) ∧
    ((∀ o, s.oven.shuttle = some o → o.kind = .admission) → exec .divertDeadline s = .next s) ∧
    ∀ o, s.oven.shuttle = some o →
      let gone := fun u : State => { u with oven := { u.oven with shuttle := none } }
      (o.kind = .admission → exec .admitDeadline s =
        .next ((((gone (s.reach o.deadline)).post .oven).heldOver o.slot).settle false s)) ∧
      (o.kind = .divert → exec .divertDeadline s =
        .next ((((gone (s.reach o.deadline)).modBoard o.slot fun b => { b with loc := .bay o.bay }).post .oven).settle
          false s)) ∧
      (o.kind = .divert → s.line.mode ≠ .initializing → ∀ b m, s.board o.slot = some b → b.mark = some m →
        exec .divertPass s = .next (((gone s).retire false o.slot (match m with | .rework => .rework | .scrap => .scrap)).settle
          false s)) ∧
      (o.kind = .admission → s.line.mode ≠ .initializing → ∀ b, s.board o.slot = some b →
        let b1 : Board := { b with
          life := .inOven, loc := .oven, ovenEntry := some s.clock, lastCredit := some s.clock, zone := some 1,
          accs := b.used.members.map fun m => ⟨m, 0, 0, false⟩, overdueArmed := true }
        let s1 := s.modBoard o.slot fun _ => b1
        let s2 : State := { s1 with oven := { s1.oven with
          occupancy := s.oven.occupancy ++ [o.slot],
          entryStart := (if 8 ≤ s.oven.entryStart.length then s.oven.entryStart.tail else s.oven.entryStart) ++
            [⟨s.clock, false⟩],
          lastEntered := b.lane } }
        exec .ovenEnter s = .next ((gone (s2.freeBay o.bay)).settle false s))

/-- R137 to R139: zone samples valid and not valid, a zone becoming STALE, which withdraws an admission in flight (R131), and
a zone change, which credits nothing.

R140, R142, R143: the credit of one board. The last-credit time becomes the clock, DOSE_GAP is set where more than 2000 ms had
passed, each accumulator is credited by the rate of its material for the time, at most 2000 ms; a temperature above a
max_temp sets OVER_TEMP_SEEN and, where it was clear, raises reason 10 after that.

The model's own choice (log 3): the command of an expiry moves the clock on to the expiry's time where it has not come, and
without its timer it changes nothing.

The order of the notices of one step, where no rule gives it, is the model's own choice (log 38). -/
def Obligations.ZoneEvents : Prop :=
  (∀ (n : Nat) (x : BitVec 16) (slot : Nat) (s : State),
    (∀ f, s.line.mode = .initializing → exec (.zoneSample n x f) s = .next s) ∧
    (∀ f, s.line.mode ≠ .initializing → (n = 0 ∨ 4 < n) → exec (.zoneSample n x f) s = .next (s.post .oven)) ∧
    (s.line.mode ≠ .initializing → 1 ≤ n → n ≤ 4 → exec (.zoneSample n x true) s = .next s) ∧
    (∀ z : Fin 4, s.line.mode ≠ .initializing → z.val + 1 = n →
      let t := (max 0 (min 3000 x.toInt)).toNat
      let u := s.setZone z ⟨t, some s.clock, false, some (s.clock + 3000)⟩
      let v := if (s.zone z).stale then u.post .oven else u
      exec (.zoneSample n x false) s = .next (((s.oven.occupancy.filter fun k =>
        (s.board k).any fun b => decide (b.zone = some n)).foldl (fun w k => w.creditBoard t k) v).settle (s.zone z).stale
          s)) ∧
    (∀ z : Fin 4, ((s.zone z).deadline = none → exec (.zoneStale z) s = .next s) ∧
      ∀ d, (s.zone z).deadline = some d →
        let u := ((s.reach d).setZone z { s.zone z with stale := true, deadline := none }).post .oven
        exec (.zoneStale z) s = .next ((match s.oven.shuttle with
          | some o => if o.kind = ShuttleKind.admission
              then State.heldOver o.slot { u with oven := { u.oven with shuttle := none } } else u
          | none => u).settle false s)) ∧
    (∀ b e z, s.board slot = some b → b.life = .inOven → b.ovenEntry = some e → b.zone = some z → 1 ≤ z → z ≤ 3 →
      let ends := match z with | 1 => s.oven.settings.end1 | 2 => s.oven.settings.end2 | _ => s.oven.settings.end3
      exec (.zoneChange slot) s =
        .next ((s.reach (e + 1000 * ends)).setBoard slot (some { b with zone := some (z + 1) }))) ∧
    ((∀ b, s.board slot = some b → b.life ≠ .inOven ∨ b.zone = some 4) → exec (.zoneChange slot) s = .next s)) ∧
  (∀ (t slot : Nat) (s : State) (b : Board) (last : Nat), s.board slot = some b → b.lastCredit = some last →
     let dt := min 2000 (s.clock - last)
     let hot := ∃ m ∈ b.used.members, (s.mat m).maxTemp < t
     let b1 : Board := { b with
       lastCredit := some s.clock, doseGap := b.doseGap || decide (2000 < s.clock - last)
       accs := b.accs.map fun a => a.credit ((s.mat a.material).rate t) dt }
     (¬ hot → s.creditBoard t slot = s.setBoard slot (some b1)) ∧
     (hot → b.overTemp = true → s.creditBoard t slot = s.setBoard slot (some b1)) ∧
     (hot → b.overTemp = false →
       s.creditBoard t slot = (s.setBoard slot (some { b1 with overTemp := true })).raise 10 slot))

/-- R144: a board's overdue expiry raises EXIT_OVERDUE (15), once. The model's own choice (log 3): its command moves the clock
on to the expiry's time where it has not come, and ended or not running it changes nothing.

R145, R146, R17: OVEN_EXIT. The oldest board of the occupancy list gets the verdict of the first row that applies, its
reason is raised, the diverter, the last exit record and the disposition follow from mark and blocked state after the
raise, the board is retired, and staged settings are applied once the oven is empty.

The order of the notices of one step, where no rule gives it, is the model's own choice (log 38). -/
def Obligations.OvenExit : Prop :=
  (∀ (slot : Nat) (s : State),
     ((∀ b, s.board slot = some b → b.life ≠ .inOven ∨ b.overdueArmed = false) →
       exec (.overdueExpiry slot) s = .next s) ∧
     ∀ b e, s.board slot = some b → b.life = .inOven → b.overdueArmed = true → b.ovenEntry = some e →
       exec (.overdueExpiry slot) s = .next ((((s.reach (e + (s.oven.settings.end4 + s.oven.settings.grace) * 1000)).setBoard
         slot (some { b with overdueArmed := false })).raise 15 slot).settle false s)) ∧
  (∀ s : State,
     (s.line.mode = .initializing → exec .ovenExit s = .next s) ∧
     (s.line.mode ≠ .initializing → s.oven.occupancy = [] → exec .ovenExit s = .next (s.post .oven)) ∧
     ∀ slot rest b, s.line.mode ≠ .initializing → s.oven.occupancy = slot :: rest → s.board slot = some b →
       let limits := fun m => (s.cls b.cls).slotOf m
       let above := ∃ a ∈ b.accs, ∃ x, limits a.material = some x ∧ x.maximum * 1000 < a.dose
       let below := ∃ a ∈ b.accs, ∃ x, limits a.material = some x ∧ a.dose < x.required * 1000
       ∀ v, ((above → v = .overcure) ∧ (¬above → below → b.doseGap = true → v = .doseUncertain) ∧
           (¬above → below → b.doseGap = false → v = .undercure) ∧ (¬above → ¬below → v = .cured)) →
         let s1 : State := { s with oven := { s.oven with occupancy := rest } }
         let s2 := s1.setBoard slot (some { b with overdueArmed := false, verdict := some v })
         let s3 := match v with
           | .overcure => s2.raise 13 slot
           | .doseUncertain => s2.raise 12 slot
           | .undercure => s2.raise 11 slot
           | .cured => s2
         ∃ b3, s3.board slot = some b3 ∧
           let out : Route × Disposition := match b3.mark with
             | some .scrap => (.rework, .scrap)
             | some .rework => (.rework, .rework)
             | none => if s3.blocked b3 then (.rework, .rework) else (.curedStream, .cured)
           let s4 := State.retire false slot out.2 { s3 with oven := { s3.oven with
             diverter := out.1
             lastExit := some ⟨slot, b.tag, b.cls, b.pass, b.ovenEntry.getD 0, s.clock, v, out.1, out.2, b.doseGap,
               b.overTemp, b.accs⟩ } }
           let s5 := match s.oven.staged with
             | some w => if rest = [] then
                 State.post .oven { s4 with oven := { s4.oven with settings := w, staged := none } } else s4
             | none => s4
           exec .ovenExit s = .next (s5.settle true s))

/-- R141: the rate at a temperature on a table of points with ascending temperatures. Below the first point and above the
last the end rates; at a point its rate; between two points a rate between theirs, given by the exact product divided and
truncated toward zero. -/
def Obligations.CureRate : Prop :=
  ∀ (m : MaterialRecord) (t : Nat), m.points.Pairwise (fun p q => p.1 < q.1) →
    (∀ p, m.points.head? = some p → t ≤ p.1 → m.rate t = p.2) ∧
    (∀ p, m.points.getLast? = some p → p.1 ≤ t → m.rate t = p.2) ∧
    ∀ before p q after, m.points = before ++ p :: q :: after → p.1 ≤ t → t < q.1 →
      (m.rate t : Int) = p.2 + Int.tdiv (((q.2 : Int) - p.2) * ((t : Int) - p.1)) ((q.1 : Int) - p.1) ∧
      min p.2 q.2 ≤ m.rate t ∧ m.rate t ≤ max p.2 q.2

/-- R140, R142: what a credit leaves of an accumulator. Its dose never falls and never passes 16,777,215. Where the dose would
not pass the limit, dose and remainder together rise by exactly rate times time, also where it comes to the limit exactly or
stands there; where it would pass, it stands at the limit with remainder 0, and from then on every credit leaves it so. The
time is what passed since the last credit, at most 2000 ms.

`saturated`, which says that a credit would have passed the limit, is the model's own mark (log 27). -/
def Obligations.DoseCredit : Prop :=
  ∀ (a : Accumulator) (r now last : Nat), a.dose ≤ 16777215 → a.rest < 256 → last ≤ now →
    let dt := (creditTime now last).1
    let u := a.credit r dt
    dt = min 2000 (now - last) ∧ ((creditTime now last).2 = true ↔ 2000 < now - last) ∧
    u.material = a.material ∧ a.dose ≤ u.dose ∧ u.dose ≤ 16777215 ∧ u.rest < 256 ∧
    (a.dose + (r * dt + a.rest) / 256 ≤ 16777215 → a.saturated = false →
      256 * u.dose + u.rest = 256 * a.dose + a.rest + r * dt ∧ u.saturated = false) ∧
    (16777215 < a.dose + (r * dt + a.rest) / 256 → u.dose = 16777215 ∧ u.rest = 0 ∧ u.saturated = true) ∧
    (a.saturated = true → u.dose = 16777215 ∧ u.rest = 0 ∧ u.saturated = true)

/-! ## Holds (spec/09_holds.md) -/

/-- R7, R155: a raise of a reason on a board, by its routing entry and by whether it is pending: the sets, the HOLD notice,
the mark REWORK and its BOARD notice, which a raise within the ANNOUNCE that creates the board (`quiet`) does not post.

R158 with R7, R88, R99, R101, R126, R131: what the report of a change of the blocked state or the mark does (`was`: blocked
before). QUEUED and IN_OVEN: nothing. AT_SPRAY: a mark makes the board FLASHING, the end of a block makes the start test.
SPRAYING: nothing with a stroke of it in flight; else a disarmed board leaves where it may, a marked one is abandoned, a
blocked one stops its lane, and a STOPPED lane goes on. FLASHING: the end of a block makes the OVEN_READY test. OVEN_READY: a
board that ceases to meet a condition is FLASHING, its admission withdrawn.

The order of the notices of one step, where no rule gives it, is the model's own choice (log 38). -/
def Obligations.RaiseTable : Prop :=
  (∀ (s : State) (slot n : Nat) (b : Board) (quiet : Bool), s.board slot = some b →
    let pended := s.setBoard slot (some { b with pendingSet := b.pendingSet.join n })
    let mark := match b.mark with | some .scrap => Mark.scrap | _ => .rework
    let served := s.setBoard slot (some { b with mark := some mark, inService := b.inService.join n })
    ((s.route n).masked = true → s.raiseCore quiet slot n = pended) ∧
    ((s.route n).masked = false → (s.route n).action = .divert →
      s.raiseCore quiet slot n = if quiet = true ∨ b.mark = some mark then served else served.post (.board slot)) ∧
    ((s.route n).masked = false → (s.route n).action ≠ .divert → b.pendingSet.has n = true →
      s.raiseCore quiet slot n = s) ∧
    ((s.route n).masked = false → (s.route n).action ≠ .divert → b.pendingSet.has n = false →
      s.raiseCore quiet slot n = pended.post .hold) ∧
    s.raise n slot = (s.raiseCore false slot n).react slot (s.blocked b)) ∧
  (∀ (s : State) (slot : Nat) (b : Board) (was : Bool), s.board slot = some b →
     let u := s.react slot was
     let inFlight := ∃ o x, (s.lane b.lane).op = some o ∧ o.stroke = some x ∧ x.slot = slot
     let blocked := s.blocked b
     let status := (s.lane b.lane).status
     let flashing := (s.setBoard slot (some { b with life := .flashing })).post (.board slot)
     (b.life = .queued ∨ b.life = .inOven → u = s) ∧
     (b.life = .atSpray →
       (b.mark ≠ none → u = ((s.setBoard slot (some { b with life := .flashing, maskWait := none })).post
         (.board slot)).requestBay slot) ∧
       (b.mark = none → u = if was = true ∧ blocked = false then s.startTest b.lane else s)) ∧
     (b.life = .spraying → inFlight → u = s) ∧
     (b.life = .spraying → ¬ inFlight → b.disarmed = true → u = s.departDisarmed slot) ∧
     (b.life = .spraying → ¬ inFlight → b.disarmed = false →
       (b.mark ≠ none → u = s.abandon b.lane slot) ∧
       (b.mark = none → blocked = true →
         u = if status = .running ∨ status = .waitApplicator then s.stopLane b.lane else s) ∧
       (b.mark = none → blocked = false → u = if status = .stopped
         then (s.setLane b.lane { s.lane b.lane with status := .running }).post (.lane b.lane) else s)) ∧
     (b.life = .flashing → s.admitting slot = false → u = if was = true ∧ blocked = false then s.testReady slot else s) ∧
     (b.life = .ovenReady → was = false →
       let ceased := blocked = true ∨ b.mark ≠ none ∨ (s.cls b.cls).inspect = true ∧ b.inspectDone = false
       (¬ ceased → u = s) ∧
       (ceased → s.admitting slot = false → u = flashing) ∧
       (ceased → s.admitting slot = true → u =
         (({ flashing with oven := { flashing.oven with shuttle := none } } : State).post .oven).heldOver slot)))

/-- R152 to R154: ROUTE_WRITE and ROUTE_READ. A write replaces the entry; under an unmasked DIVERT the pending ones of the
reason move to in service, every board that holds it is marked REWORK, and of these each AT_SPRAY one is FLASHING with its
mask wait ended and asks for a bay, as R7 has it; then each change of a board's blocked state or mark is reported in ascending
slot order; a HOLD notice follows where a pending reason is unmasked. The model's own choice: the marks, these bay requests and
the reports go in ascending slot, and what a mark does to other boards comes with its report (log 33), with the order of the notices (log 38), the last count of the reply is
of the boards whose mark changed (log 21), and the reply is produced before the close of the step (log 23); the reply of a read
has two counts, of boards with the reason pending and with it in service (log 47). -/
def Obligations.Routing : Prop :=
  ∀ (t : Byte) (n : Nat) (f : RouteFields) (s : State),
    let write : Instr := .routeWrite t n f
    let read : Instr := .routeRead t n
    (s.line.mode = .initializing → exec write s = .next (s.replied write 0x1A .wrongMode .empty) ∧
      exec read s = .next (s.replied read 0x1B .wrongMode .empty)) ∧
    (s.line.mode ≠ .initializing →
      (¬(n < 16 ∧ f.priority < 16 ∧ f.action ≤ 2 ∧ f.masked ≤ 1 ∧ f.clearOnRelease ≤ 1) →
        exec write s = .next (s.replied write 0x1A .outOfRange .empty)) ∧
      (16 ≤ n → exec read s = .next (s.replied read 0x1B .outOfRange .empty)) ∧
      (n < 16 → exec read s = .next (s.replied read 0x1B .ok (.routeRead (s.route n) (decide (n = 1))
        (s.boards.countP fun p => p.2.pendingSet.has n) (s.boards.countP fun p => p.2.inService.has n)))) ∧
      ∀ action, actionOf f.action = some action → n < 16 → f.priority < 16 → f.masked ≤ 1 → f.clearOnRelease ≤ 1 →
        let r : RouteEntry := ⟨f.priority, action, decide (f.masked = 1), decide (f.clearOnRelease = 1)⟩
        let moves := r.masked = false ∧ action = .divert
        ∃ m : State,
          (∀ k, m.route k = if k = n then r else s.route k) ∧
          (∀ k, k < 32 → m.board k = (s.board k).map fun b =>
            if moves ∧ b.holds n = true then { b with
              mark := some (match b.mark with | some .scrap => .scrap | _ => .rework)
              pendingSet := b.pendingSet.leave n
              inService := if b.pendingSet.has n then b.inService.join n else b.inService }
            else b) ∧
          (∀ k, 32 ≤ k → m.board k = s.board k) ∧
          m = { s.take write with
            notices := (((List.range 32).filter fun k => decide (s.markAt k ≠ m.markAt k)).foldl
              (fun u k => u.post (.board k)) s).notices
            hold := { s.hold with routing := m.hold.routing }
            tracker := { s.tracker with boards := m.tracker.boards } } ∧
          let s1 := (List.range 32).foldl (fun u k =>
            match m.board k with
            | none => u
            | some b => if moves ∧ b.life = .atSpray ∧ b.holds n = true then
                ((u.setBoard k (some { b with life := .flashing, maskWait := none })).post (.board k)).requestBay k
              else u) m
          let s2 := (List.range 32).foldl (fun u k =>
            if s.blockedAt k ≠ s1.blockedAt k ∨ s.markAt k ≠ s1.markAt k then u.react k (s.blockedAt k) else u) s1
          let s3 := if (s.route n).masked = true ∧ r.masked = false ∧ (∃ p ∈ s2.boards, p.2.pendingSet.has n = true)
            then s2.post .hold else s2
          exec write s = .next ((s3.answer (s.header write) 0x1A .ok (.routeWrite n
            ((List.range 32).countP fun k => decide (s.blockedAt k ≠ s1.blockedAt k))
            ((List.range 32).countP fun k => decide (s.markAt k ≠ s1.markAt k)))).settle false (s.take write)))

/-- R157: HOLD, its tests in order; reason 0 is raised on the board.

R119, R156, R160, R161: HOLD_RELEASE, its tests in order, and the three steps of a release of reason `n`, which TOP
(FFh) names as the in-service reason of the lowest priority number, then of the lowest number.

Both replies carry the blocked state and the mark as the request's own effect leaves them, before the close of the step: the
model's reading (log 23). -/
def Obligations.HoldAndRelease : Prop :=
  (∀ (t : Byte) (slot : Nat) (s : State),
     let i : Instr := .hold t slot
     (∀ code, firstFailure [(decide (s.line.mode ≠ .initializing), .wrongMode), (decide (slot < 32), .outOfRange),
         ((s.board slot).isSome, .notFound)] = some code → exec i s = .next (s.replied i 0x37 code .empty)) ∧
     ∀ b, s.line.mode ≠ .initializing → slot < 32 → s.board slot = some b →
       let u := (s.take i).raise 0 slot
       exec i s = .next ((u.answer (s.header i) 0x37 .ok (.hold slot b.tag (b.pendingSet.has 0) (b.inService.has 0)
         (u.blockedAt slot) (u.markAt slot))).settle false (s.take i))) ∧
  (∀ (t : Byte) (slot reason verdict : Nat) (s : State),
     let i : Instr := .holdRelease t slot reason verdict
     (∀ code, firstFailure [
         (decide (s.line.mode ≠ .initializing), .wrongMode),
         (decide (slot < 32 ∧ (reason < 16 ∨ reason = 0xFF) ∧ verdict < 3), .outOfRange),
         ((s.board slot).isSome, .notFound),
         ((s.board slot).any fun b => if reason = 0xFF then decide (b.inService ≠ 0#16) else b.inService.has reason,
           .notInService)] = some code → exec i s = .next (s.replied i 0x39 code .empty)) ∧
     ∀ b v n, s.line.mode ≠ .initializing → slot < 32 → (reason < 16 ∨ reason = 0xFF) → verdictOf verdict = some v →
       s.board slot = some b → n < 16 → b.inService.has n = true → (reason < 16 → reason = n) →
       (reason = 0xFF → ∀ k, k < 16 → b.inService.has k = true → k ≠ n → (s.route n).priority < (s.route k).priority ∨
         (s.route n).priority = (s.route k).priority ∧ n < k) →
       let b1 : Board := { b with inService := b.inService.leave n }
       let clears := decide (v = .goOn) && (s.route n).clearOnRelease
       let again := decide (v = .goOn ∧ n = 1) && b.sites.any fun p => decide (p.2 = .absent)
       let s1 := (s.take i).setBoard slot (some (if clears then { b1 with
         findings := [], overflow := 0, kindsSeen := 0#8, tallies := [], inspectDone := false } else b1))
       let s2 := match v with
         | .goOn => if again then s1.raiseCore false slot 1 else s1
         | .divert => s1.modBoard slot fun x => { x with
             mark := some (match x.mark with | some .scrap => .scrap | _ => .rework) }
         | .scrap => s1.modBoard slot fun x => { x with mark := some .scrap }
       let s3 := s2.react slot (s.blockedAt slot)
       exec i s = .next ((s3.answer (s.header i) 0x39 .ok (.holdRelease slot b.tag n v clears again (s3.blockedAt slot)
         (s3.markAt slot))).settle false (s.take i)))

/-- R159: HOLD_TAKE takes the candidate of the lowest priority number, then of the slot first in the rotation after the
last-taken slot, then of the lowest reason number. With no candidate the reply is OK with an empty body.

R162: HOLD_STATUS of one slot, or of at most eight boards from a first slot on (ALL is FFh). Nothing but the reply
changes. That the reasons of each set are listed in ascending number, the pending set's first, and a reason standing in both sets
twice, is the model's own choice (log 36); so is that the board of one slot is a list of one (log 13). -/
def Obligations.HoldTakeAndStatus : Prop :=
  (∀ (t : Byte) (s : State),
     let i : Instr := .holdTake t
     let candidate := fun slot n => slot < 32 ∧ n < 16 ∧ (s.route n).masked = false ∧
       ∃ b, s.board slot = some b ∧ b.pendingSet.has n = true
     let turn := fun slot => (slot + 31 - s.hold.lastTaken) % 32
     (s.line.mode = .initializing → exec i s = .next (s.replied i 0x38 .wrongMode .empty)) ∧
     (s.line.mode ≠ .initializing → (∀ slot n, ¬ candidate slot n) → exec i s = .next (s.replied i 0x38 .ok .empty)) ∧
     ∀ slot n b, s.line.mode ≠ .initializing → s.hold.lastTaken < 32 → candidate slot n → s.board slot = some b →
       (∀ k m, candidate k m → (k, m) ≠ (slot, n) → (s.route n).priority < (s.route m).priority ∨
         (s.route n).priority = (s.route m).priority ∧ (turn slot < turn k ∨ turn slot = turn k ∧ n < m)) →
       exec i s = .next ({ (s.take i).setBoard slot (some { b with
           pendingSet := b.pendingSet.leave n, inService := b.inService.join n }) with
             hold := { s.hold with lastTaken := slot } }.answer (s.header i) 0x38 .ok
         (.holdTake ⟨slot, b.tag, n, s.route n⟩ (s.candidates.length - 1)))) ∧
  (∀ (t : Byte) (slot first : Nat) (s : State),
     let i : Instr := .holdStatus t slot first
     let item := fun p : Nat × Board => (⟨⟨p.1, p.2, s.blocked p.2⟩,
       (p.2.pendingSet.members ++ p.2.inService.members).map fun n => ⟨n, s.route n⟩⟩ : HoldView)
     let body := fun boards further => Body.holdStatus s.hold.lastTaken (s.takeChoice.map s.takeView) s.candidates.length
       (s.boards.countP fun p => s.blocked p.2) (boards.map item) further
     let held := s.boards.filter fun p =>
       decide (first ≤ p.1) && decide (p.2.pendingSet ≠ 0#16 ∨ p.2.inService ≠ 0#16)
     (s.line.mode = .initializing → exec i s = .next (s.replied i 0x3A .wrongMode .empty)) ∧
     (s.line.mode ≠ .initializing →
       ((32 ≤ slot ∧ slot ≠ 0xFF ∨ slot = 0xFF ∧ 32 ≤ first) → exec i s = .next (s.replied i 0x3A .outOfRange .empty)) ∧
       (slot < 32 → s.board slot = none → exec i s = .next (s.replied i 0x3A .notFound .empty)) ∧
       (∀ b, slot < 32 → s.board slot = some b → exec i s = .next (s.replied i 0x3A .ok (body [(slot, b)] none))) ∧
       (slot = 0xFF → first < 32 → exec i s =
         .next (s.replied i 0x3A .ok (body (held.take 8) (some ((held.drop 8).head?.map (·.1))))))))

/-! ## Line control (spec/10_line_modes.md) -/

/-- R167: POWER_ON puts every block at its power-on value. The commands that wait stay (log 1), and every receiver is emptied
(log 6): the model's own choice.

R166, R167: the start-up clear ends at 250 ms with CONFIG, or HALTED under an active emergency-stop input, and a LINE
notice. The model's own choice (log 3): its command moves the clock on to 250 ms where it has not come there, and outside
INITIALIZING it changes nothing. -/
def Obligations.PowerOnAndClear : Prop :=
  (∀ (e : Bool) (s : State), ∃ t, exec (.powerOn e) s = .next t ∧ t.pending = s.pending ∧ t.clock = 0 ∧
     t.line.mode = .initializing ∧ t.line.lastChange.after = .initializing ∧ t.line.lastChange.cause = .powerOn ∧
     t.line.estop = e ∧ t.line.limits = ⟨4, 20, 3, 45⟩ ∧
     t.link.intake = [] ∧ t.link.handed = [] ∧ t.link.replies = [] ∧ t.link.tx = .idle ∧ t.notices = [] ∧
     (∀ k, (t.rx k).bytes = []) ∧
     (∀ c, t.cls c = resetClass) ∧ (∀ m, t.mat m = resetMaterial) ∧ (∀ k, t.board k = none) ∧
     (∀ l, t.queueOf l = []) ∧ t.tracker.history = [] ∧ t.tracker.nextSeq = 0#32 ∧
     (∀ a, t.unit a = resetApplicator) ∧ t.apps.queue = [] ∧ t.apps.startList = [] ∧
     (∀ k, t.entry k = resetEntry) ∧ t.keepOut.edit = none ∧ (∀ l, t.lane l = resetLane) ∧
     (∀ k, t.criterion k = resetCriterion) ∧ (∀ n, t.bay n = .empty) ∧ (∀ l, t.oven.gates.get l = false) ∧
     t.oven.waitList = [] ∧ t.oven.shuttle = none ∧
     t.oven.occupancy = [] ∧ t.oven.entryStart = [] ∧ t.oven.lastEntered = 1 ∧ (∀ z, t.zone z = resetZone) ∧
     t.oven.settings = ⟨240, 480, 720, 960, 30⟩ ∧ t.oven.staged = none ∧ t.oven.diverter = .curedStream ∧
     t.oven.lastExit = none ∧ (∀ n, t.route n = ⟨n, .stop, false, false⟩) ∧ t.hold.lastTaken = 31) ∧
  (∀ s : State,
     (s.line.mode ≠ .initializing → exec .startUpEnd s = .next s) ∧
     (s.line.mode = .initializing → exec .startUpEnd s = .next (State.post .line { s with
       clock := max s.clock 250
       line := { s.line with
         mode := if s.line.estop then .halted else .config
         lastChange := ⟨.initializing, if s.line.estop then .halted else .config,
           if s.line.estop then .estop else .startUpEnd, max s.clock 250⟩ } })))

/-- R59, R104, R134, R169: what entering HALTED does, where a SPRAYING board stands at its lane's spray position and the
shuttle carries no SPRAYING board. Each lane is IDLE with its operation abandoned; applicators with an operation in flight
foul, unsent caps and uncaps are taken back. A SPRAYING board without a mark is AT_SPRAY again with LANE_ABORT raised, which
under an unmasked DIVERT routing of reason 6 marks it REWORK and makes it FLASHING (R7, R155); a marked one is abandoned. The
boards that leave SPRAYING as FLASHING ask for their bays, lane 0's first (the model's choice, log 33). The shuttle operation
is abandoned: a board under DIVERT is back in its bay, of one under ADMIT the held-over expiry is taken (R124). Notices apart,
nothing else changes.

R166, R169: HALT, and a change of the emergency-stop input, in each mode. An input reported as it stands is no change
(log 28).

The order of the notices of one step, where no rule gives it, is the model's own choice (log 38); so is that a wet applicator
fouled with its uncap in flight keeps parked-wet and its cap time (log 43). -/
def Obligations.HaltAndEstop : Prop :=
  (∀ (s : State) (c : ChangeCause),
     (∀ k b, s.board k = some b → b.life = .spraying → s.atSprayPos b.lane k b) →
     (∀ o b, s.oven.shuttle = some o → s.board o.slot = some b → b.life ≠ .spraying) →
     let u := s.enterHalted c
     let diverts := (s.route 6).masked = false ∧ (s.route 6).action = .divert
     let asks := ([0, 1] : List (Fin 2)).filterMap fun l => (s.sprayBoard l).bind fun p =>
       if p.2.life = .spraying ∧ (p.2.mark ≠ none ∨ diverts) then some p.1 else none
     let inFlight := fun a : Fin 6 => ∃ o, (s.lane (appLane a)).op = some o ∧ o.app = a
     u.line = { s.line with mode := .halted, lastChange := ⟨s.line.mode, .halted, c, s.clock⟩ } ∧
     (∀ l, u.lane l = { s.lane l with op := none, status := .idle, arming := ⟨none, 0, 0, .once, 0, 0, false⟩ }) ∧
     u.apps.queue = [] ∧ u.apps.startList = s.apps.startList ∧ u.apps.accepted = s.apps.accepted ∧
     (∀ a, inFlight a → (s.unit a).state = .fouled → u.unit a = { s.unit a with need := none }) ∧
     (∀ a, inFlight a → (s.unit a).state ≠ .fouled → u.unit a = { s.unit a with
       state := .fouled, debt := 0, keepWet := none, foulCause := some .halt, need := none }) ∧
     (∀ a, ¬ inFlight a → (s.unit a).state ≠ .capping → (s.unit a).state ≠ .uncapping →
       u.unit a = { s.unit a with need := none }) ∧
     (∀ a, ¬ inFlight a → (s.unit a).state = .uncapping →
       u.unit a = { s.unit a with state := .parked, waiting := none, need := none }) ∧
     (∀ a, ¬ inFlight a → (s.unit a).state = .capping → (s.unit a).material = none →
       u.unit a = { s.unit a with state := .idleDry, waiting := none, need := none }) ∧
     (∀ a m, ¬ inFlight a → (s.unit a).state = .capping → (s.unit a).material = some m →
       u.unit a = { s.unit a with
         state := .primed, keepWet := some (s.clock + 1000 * (s.mat m).keepWetS), waiting := none, need := none }) ∧
     (∀ k b, s.board k = some b → b.life = .spraying → b.mark = none → ¬ diverts → u.board k = some { b with
       life := .atSpray, interrupted := true, disarmed := false, pendingSet := b.pendingSet.join 6 }) ∧
     (∀ k b, s.board k = some b → b.life = .spraying → b.mark = none → diverts → u.board k = some { b with
       life := .flashing, interrupted := true, disarmed := false, mark := some .rework, maskWait := none,
       inService := b.inService.join 6 }) ∧
     (∀ k b m, s.board k = some b → b.life = .spraying → b.mark = some m → u.board k = some { b with
       life := .flashing, interrupted := true, disarmed := false, sprayEnd := some s.clock }) ∧
     (∀ k, (∀ b, s.board k = some b → b.life ≠ .spraying) → (∀ o, s.oven.shuttle = some o → o.slot ≠ k) →
       u.board k = s.board k) ∧
     (∀ o b, s.oven.shuttle = some o → o.kind = .divert → s.board o.slot = some b →
       u.board o.slot = some { b with loc := .bay o.bay }) ∧
     (∀ o, s.oven.shuttle = some o → o.kind = .admission → u.board o.slot = (s.heldOver o.slot).board o.slot) ∧
     u.oven = { (asks.foldl (fun v k => v.requestBay k) s).oven with shuttle := none } ∧
     u.pending = s.pending ∧ u.clock = s.clock ∧ u.link = s.link ∧ u.recipe = s.recipe ∧ u.keepOut = s.keepOut ∧ u.criteria = s.criteria ∧ u.hold = s.hold ∧
     u.tracker.queues = s.tracker.queues ∧ u.tracker.history = s.tracker.history ∧ u.tracker.nextSeq = s.tracker.nextSeq) ∧
  (∀ (t : Byte) (s : State),
     let i : Instr := .halt t
     let input := fun e => ({ s with line := { s.line with estop := e } } : State)
     (s.line.mode = .initializing → exec i s = .next (s.replied i 0x04 .wrongMode .empty)) ∧
     (s.line.mode = .halted → exec i s = .next (s.replied i 0x04 .ok (.modeBefore .halted))) ∧
     (s.line.mode ≠ .initializing → s.line.mode ≠ .halted →
       exec i s = .next (((s.take i).enterHalted .halt).answer (s.header i) 0x04 .ok (.modeBefore s.line.mode))) ∧
     exec (.estopChange s.line.estop) s = .next s ∧
     ∀ e, e ≠ s.line.estop →
       (s.line.mode = .initializing → exec (.estopChange e) s = .next (input e)) ∧
       (s.line.mode ≠ .initializing → (e = false ∨ s.line.mode = .halted) →
         exec (.estopChange e) s = .next ((input e).post .line)) ∧
       (s.line.mode ≠ .initializing → e = true → s.line.mode ≠ .halted →
         exec (.estopChange e) s = .next (((input e).enterHalted .estop).post .line)))

/-- R168, R170: MODE by the mode it finds and its target (CONFIG 1, RUN 2, DRAIN 3), and RECOVER. A change to RUN makes the
start test of both lanes, lane 0's first (the model's choice, log 33); DRAIN with no board short of the buffer passes on to
CONFIG at once. -/
def Obligations.ModeAndRecover : Prop :=
  ∀ (t : Byte) (n : Nat) (s : State),
    let i : Instr := .mode t n
    let r : Instr := .recover t
    let s0 := s.take i
    let changed := fun (u : State) (m : LineMode) (c : ChangeCause) =>
      ({ u with line := { u.line with mode := m, lastChange := ⟨u.line.mode, m, c, s.clock⟩ } } : State)
    let done := fun (u : State) (m : LineMode) =>
      State.settle false (u.answer (s.header i) 0x03 .ok (.modes s.line.mode m)) s0
    (s.line.mode = .initializing → exec i s = .next (s.replied i 0x03 .wrongMode .empty)) ∧
    (s.line.mode ≠ .initializing → ¬(1 ≤ n ∧ n ≤ 3) → exec i s = .next (s.replied i 0x03 .outOfRange .empty)) ∧
    (1 ≤ n → n ≤ 3 → (s.line.mode = .halted ∨ s.line.mode = .config ∧ n = 3 ∨ s.line.mode = .drain ∧ n = 2) →
      exec i s = .next (s.replied i 0x03 .wrongMode .empty)) ∧
    ((s.line.mode = .config ∧ n = 1 ∨ s.line.mode = .run ∧ n = 2 ∨ s.line.mode = .drain ∧ n = 3) →
      exec i s = .next (done s0 s.line.mode)) ∧
    (s.line.mode = .config → n = 2 →
      exec i s = .next (done (((changed s0 .run .mode).startTest 0).startTest 1) .run)) ∧
    ((s.line.mode = .run ∨ s.line.mode = .drain) → n = 1 → exec i s = .next (done (changed s0 .config .mode) .config)) ∧
    (s.line.mode = .run → n = 3 →
      ((∃ k b, s.board k = some b ∧ k < 32 ∧ (b.life = .queued ∨ b.life = .atSpray ∨ b.life = .spraying)) →
        exec i s = .next (done (changed s0 .drain .mode) .drain)) ∧
      ((∀ k b, s.board k = some b → k < 32 → b.life = .flashing ∨ b.life = .ovenReady ∨ b.life = .inOven) →
        exec i s = .next (done (changed (changed s0 .drain .mode) .config .drainEnd) .config))) ∧
    (s.line.mode ≠ .halted → exec r s = .next (s.replied r 0x05 .wrongMode .empty)) ∧
    (s.line.mode = .halted → s.line.estop = true → exec r s = .next (s.replied r 0x05 .wrongState .empty)) ∧
    (s.line.mode = .halted → s.line.estop = false → exec r s = .next (State.settle false
      ((changed (s.take r) .config .recover).answer (s.header r) 0x05 .ok .empty) (s.take r)))

/-- R172, R53, R129, R133: LINE_SET, its tests in order and the two groups applied. That the mode test of the application group
goes before the range test of its values is the model's own choice (log 35). -/
def Obligations.LineSet : Prop :=
  ∀ (t : Byte) (f : SettingsFields) (s : State),
    let i : Instr := .lineSet t f
    let s0 := s.take i
    (∀ code, firstFailure [
        (decide (s.line.mode ≠ .initializing), .wrongMode),
        (match f with | .other _ => false | _ => true, .outOfRange),
        (match f with | .application .. => decide (s.line.mode = .config) | _ => true, .wrongMode),
        (match f with
          | .application l n el en =>
            decide (1 ≤ l ∧ l ≤ 8 ∧ 5 ≤ n ∧ n ≤ 120 ∧ 1 ≤ el ∧ el ≤ 8 ∧ 10 ≤ en ∧ en ≤ 600)
          | .oven a b c d g => decide (1 ≤ a ∧ a < b ∧ b < c ∧ c < d ∧ d ≤ 7200 ∧ 5 ≤ g ∧ g ≤ 300)
          | .other _ => true, .outOfRange)] = some code →
      exec i s = .next (s.replied i 0x02 code .empty)) ∧
    (∀ l n el en, f = .application l n el en → s.line.mode = .config → 1 ≤ l → l ≤ 8 → 5 ≤ n → n ≤ 120 → 1 ≤ el →
      el ≤ 8 → 10 ≤ en → en ≤ 600 →
      exec i s = .next (State.settle true (State.answer (s.header i) 0x02 .ok .lineSetApplication { s0 with
        line := { s.line with limits := ⟨l, n, el, en⟩ }
        apps := { s.apps with startList := s.apps.startList.filter fun x => decide (s.clock < x + 1000 * n) }
        oven := { s.oven with
          entryStart := s.oven.entryStart.map fun x => ⟨x.time, decide (x.time + 1000 * en ≤ s.clock)⟩ } }) s0)) ∧
    ∀ a b c d g, f = .oven a b c d g → s.line.mode ≠ .initializing → 1 ≤ a → a < b → b < c → c < d → d ≤ 7200 →
      5 ≤ g → g ≤ 300 →
      (s.oven.occupancy = [] → exec i s = .next (State.answer (s.header i) 0x02 .ok (.lineSetOven false)
        { s0 with oven := { s.oven with settings := ⟨a, b, c, d, g⟩ } })) ∧
      (s.oven.occupancy ≠ [] →
        let u : State := { s0 with oven := { s.oven with staged := some ⟨a, b, c, d, g⟩ } }
        exec i s = .next ((if s.oven.staged = none then u.post .oven else u).answer (s.header i) 0x02 .ok
          (.lineSetOven true)))

/-- R171 with the blocks' own rules: LINE_RESET, its mode test, its reply, and what each block clears and keeps. An applicator
that it fouls keeps its material, parked-wet and cap time (R60, R61). -/
def Obligations.LineReset : Prop :=
  ∀ (t : Byte) (s : State),
    let i : Instr := .lineReset t
    let inFlight := fun a : Fin 6 => ∃ o, (s.lane (appLane a)).op = some o ∧ o.app = a
    let wet := fun a : Fin 6 =>
      (s.unit a).state = .primed ∨ (s.unit a).state = .capping ∧ (s.unit a).material ≠ none
    let fouls := fun (r : Applicator) => { r with
      state := .fouled, debt := 0, keepWet := none, foulCause := some .lineReset, need := none }
    (s.line.mode ≠ .config → s.line.mode ≠ .halted → exec i s = .next (s.replied i 0x06 .wrongMode .empty)) ∧
    ((s.line.mode = .config ∨ s.line.mode = .halted) → s.Canonical →
      ∃ u : State, exec i s = .next (u.answer (s.header i) 0x06 .ok (.lineReset
          ((List.range 32).countP fun k => (s.board k).isSome)
          (allApps.countP fun a => decide ((u.unit a).state = .fouled ∧ (s.unit a).state ≠ .fouled)))) ∧
        (∀ k, u.board k = none) ∧ (∀ l, u.queueOf l = []) ∧ u.tracker.history = s.tracker.history ∧
        u.tracker.nextSeq = s.tracker.nextSeq ∧
        (∀ c, u.cls c = { s.cls c with useCount := 0 }) ∧ u.recipe.materials = s.recipe.materials ∧
        u.apps.queue = [] ∧ u.apps.startList = [] ∧
        (∀ a, inFlight a → (s.unit a).state ≠ .fouled → u.unit a = fouls (s.unit a)) ∧
        (∀ a, ¬ inFlight a → (s.unit a).state = .primed → u.unit a = fouls (s.unit a)) ∧
        (∀ a, ¬ inFlight a → (s.unit a).state = .capping → (s.unit a).material ≠ none →
          u.unit a = fouls { s.unit a with waiting := none }) ∧
        (∀ a, ¬ inFlight a → (s.unit a).state = .capping → (s.unit a).material = none →
          u.unit a = { s.unit a with state := .idleDry, waiting := none, need := none }) ∧
        (∀ a, ¬ inFlight a → (s.unit a).state = .uncapping →
          u.unit a = { s.unit a with state := .parked, waiting := none, need := none }) ∧
        (∀ a, (s.unit a).state = .fouled ∨ ¬ inFlight a ∧ ¬ wet a ∧ (s.unit a).state ≠ .capping ∧
          (s.unit a).state ≠ .uncapping → u.unit a = { s.unit a with need := none }) ∧
        (∀ l, u.lane l = { s.lane l with op := none, status := .idle, arming := ⟨none, 0, 0, .once, 0, 0, false⟩ }) ∧
        (∀ n, u.bay n = .empty) ∧ (∀ l, u.oven.gates.get l = false) ∧ u.oven.waitList = [] ∧
        u.oven.shuttle = none ∧ u.oven.occupancy = [] ∧
        u.oven.entryStart = [] ∧ u.oven.lastEntered = 1 ∧ u.oven.settings = s.oven.staged.getD s.oven.settings ∧
        u.oven.staged = none ∧ u.oven.zones = s.oven.zones ∧ u.oven.diverter = s.oven.diverter ∧
        u.oven.lastExit = s.oven.lastExit ∧ u.hold = { s.hold with lastTaken := 31 } ∧ u.notices = [] ∧
        u.keepOut = s.keepOut ∧ u.criteria = s.criteria ∧ u.line = s.line ∧ u.clock = s.clock ∧
        u.pending = s.pending ∧ u.link = (s.take i).link)

/-! ## The message link (spec/11_the_message_link.md) -/

/-- R174, R175, R179: bytes on a link. The receiver keeps the frame in progress with the time of its last byte and hands
each received frame on: to the intake on the message link, to the block of its event on a field link, where a frame that
spells no event has no effect. At 20 ms of silence the frame in progress is discarded.

R175: the tests of the request intake on a received frame, in their order.

The model's own choice: a command carries any burst of bytes, and silence counts from its last byte (log 25); bytes reported
for a field link are received as any others, a good frame among them taken (log 8); a timeout moves the clock on to the end of
the silence, and without a frame in progress it changes nothing (log 3); INTAKE_FULL replies wait while they stand in the
reply queue (log 15); a frame and the request it hands on are apart (log 2). -/
def Obligations.FrameIntake : Prop :=
  (∀ (bytes : List Byte) (k : Link) (s : State),
     let keeps := fun (k : Link) (r : List Byte) (time : Nat) (u : State) =>
       ({ u with link := { u.link with rx := u.link.rx.set (Link.index k) ⟨r, time⟩ } } : State)
     let taken := fun (k : Link) (u : State) (f : Frame) =>
       if k = .message then u.intakeFrame f
       else
         match fieldEvent k f with
         | none => u
         | some i =>
           match exec i u with
           | .next v => v
           | _ => u
     let got := fun k => receive false ((s.rx k).bytes ++ bytes)
     let left := receive true (s.rx k).bytes
     exec (.requestFrame bytes) s =
       .next ((got .message).1.foldl (fun u f => u.intakeFrame f) (keeps .message (got .message).2 s.clock s)) ∧
     exec (.fieldLinkFrameDiscard k bytes) s = .next ((got k).1.foldl (taken k) (keeps k (got k).2 s.clock s)) ∧
     ((s.rx k).bytes = [] → exec (.frameTimeout k) s = .next s) ∧
     ((s.rx k).bytes ≠ [] → exec (.frameTimeout k) s = .next (left.1.foldl (taken k)
       (keeps k left.2 (s.rx k).last { s with clock := max s.clock ((s.rx k).last + 20) })))) ∧
  (∀ (f : Frame) (s : State),
     let refused := fun (code : ResultCode) (place : Bool) (u : State) =>
       ({ u with link := { u.link with
           replies := u.link.replies ++ [⟨(f.kind.toNat + 0x80) % 0x100, f.tag, code, .empty, place⟩] } } : State)
     let placed : State := { s with link := { s.link with intake := s.link.intake ++ [⟨f.kind.toNat, f.tag⟩] } }
     let full := s.link.replies.countP fun r => decide (r.code = .intakeFull) && !r.place
     (f.tag = 0#8 → s.intakeFrame f = s) ∧
     (f.tag ≠ 0#8 → 8 ≤ s.link.intake.length → s.intakeFrame f = if 8 ≤ full then s else refused .intakeFull false s) ∧
     (f.tag ≠ 0#8 → s.link.intake.length < 8 →
       match payloadLength f.kind.toNat f.payload with
       | none => s.intakeFrame f = refused .unknownKind true placed
       | some n =>
         if f.payload.length ≠ n then s.intakeFrame f = refused .malformed true placed
         else ∃ i, readRequest f.kind.toNat f.tag f.payload = some i ∧
           s.intakeFrame f = { placed with link := { placed.link with handed := s.link.handed ++ [i] } }))

/-- R175 to R177: the transmitter. Free, it takes the oldest reply, or with no reply waiting the oldest notice; when the
last byte is sent it is free, and a reply's request gives up its intake place. -/
def Obligations.Transmitting : Prop :=
  ∀ s : State,
    (∀ r rs, s.link.tx = .idle → s.link.replies = r :: rs →
      exec .replySend s = .next { s with link := { s.link with tx := .reply r, replies := rs } } ∧
      exec .noticeSend s = .next s) ∧
    (s.link.replies = [] → exec .replySend s = .next s) ∧
    (∀ n ns, s.link.tx = .idle → s.link.replies = [] → s.notices = n :: ns →
      exec .noticeSend s = .next { s with link := { s.link with tx := .notice n }, notices := ns }) ∧
    (s.notices = [] → exec .noticeSend s = .next s) ∧
    (s.link.tx ≠ .idle → exec .replySend s = .next s ∧ exec .noticeSend s = .next s) ∧
    (s.link.tx = .idle → exec .replySent s = .next s ∧ exec .noticeFrameSent s = .next s) ∧
    (∀ r, s.link.tx = .reply r →
      exec .noticeFrameSent s = .next s ∧
      ∃ left, exec .replySent s = .next { s with link := { s.link with tx := .idle, intake := left } } ∧
        (r.place = false → left = s.link.intake) ∧
        (r.place = true → left = s.link.intake.erase ⟨(r.kind + 0x80) % 0x100, r.tag⟩)) ∧
    ∀ n, s.link.tx = .notice n →
      exec .replySent s = .next s ∧
      exec .noticeFrameSent s = .next { s with link := { s.link with tx := .idle } }

/-- R174: a receiver finds a frame that the bytes it gets hold whole, behind any bytes that are no start byte, and goes on
after it; a start byte whose frame has a length above 1024 or a wrong CRC is discarded alone. That hunting goes on from the byte
after a discarded start byte over the bytes kept, that a received frame is consumed whole, and that a long length is discarded
at once, are the model's own choice (log 8). -/
def Obligations.FramesFound : Prop :=
  ∀ (silent : Bool) (noise rest : List Byte) (f : Frame), (∀ b ∈ noise, b ≠ 0xA5#8) → f.payload.length ≤ 1024 →
    let after := receive silent rest
    receive silent (noise ++ f.bytes ++ rest) = (f :: after.1, after.2) ∧
    (∀ lo hi : Byte, 1024 < lo.toNat + 256 * hi.toNat →
      receive silent (noise ++ 0xA5#8 :: lo :: hi :: rest) = receive silent (lo :: hi :: rest)) ∧
    ∀ lo hi : Byte, lo.toNat + 256 * hi.toNat ≠ (crc16 f.covered).toNat →
      receive silent (noise ++ 0xA5#8 :: (f.covered ++ lo :: hi :: rest)) =
        receive silent (f.covered ++ lo :: hi :: rest)

/-- R178: a well-formed request whose payload a frame can hold is read back, with every field, from the frame that spells
it, and its payload has the length of its kind. The payloads of LINE_SET (log 9), CLASS_WRITE (log 10) and
MATERIAL_WRITE (log 11) are the model's own choice. -/
def Obligations.RequestsReadBack : Prop :=
  ∀ (i : Instr) (f : Frame), i.wf = true → requestFrameOf i = some f →
    payloadLength f.kind.toNat f.payload = some f.payload.length ∧ f.payload.length ≤ 1024 ∧
    readRequest f.kind.toNat f.tag f.payload = some i

/-! ## Every step -/

/-- A step runs the command at the front of the queue on the state with the queue's rest. With an empty queue the oldest
request handed on comes to the queue, else the expiries due, else the clock rises by 1 ms; the last clause is the model's
own choice (log 1). -/
def Obligations.StepRunsFront : Prop :=
  ∀ (c : Instr) (rest : List Instr) (s : State),
    step { s with pending := c :: rest } = exec c { s with pending := rest } ∧
    (s.pending = [] →
      (∀ i is, s.link.handed = i :: is → step s = .next { s with pending := [i] }) ∧
      (s.link.handed = [] → s.dueEvents ≠ [] → step s = .next { s with pending := s.dueEvents }) ∧
      (s.link.handed = [] → s.dueEvents = [] → step s = .next { s with clock := s.clock + 1 }))

/-- What every step keeps of the tables: their canonical form (log 7), the board table's own rules with the class use
counts (R2, R3, R26), the history list in sequence (R20), and the constraints among classes and materials (R27, R30). -/
def Obligations.TablesKept : Prop :=
  ∀ s t : State, step s = .next t →
    (s.Canonical → t.Canonical) ∧
    (s.TableSound → t.TableSound) ∧
    (s.HistoryOrdered → t.HistoryOrdered) ∧
    (s.Canonical → s.RecipesSound → t.RecipesSound)

/-- What every step keeps of the limits: those of the lists (R12, R20, R53, R54, R128, R129, R175), no notice twice (R177), the
spit debt (R50), the doses (R142; the mark that an accumulator has saturated is the model's own, log 27), the findings (R113),
the op ids (R96) and the last-taken slot (R159). -/
def Obligations.LimitsKept : Prop :=
  ∀ s t : State, step s = .next t →
    (s.ListsBounded → t.ListsBounded) ∧
    (s.notices.Nodup → t.notices.Nodup) ∧
    (s.DebtsBounded → t.DebtsBounded) ∧
    (s.DosesBounded → t.DosesBounded) ∧
    (s.FindingsBounded → t.FindingsBounded) ∧
    (s.OpIdsInRange → t.OpIdsInRange) ∧
    (s.hold.lastTaken < 32 → t.hold.lastTaken < 32)

/-- R167: the state after reset meets every invariant that the other statements say a step or a command keeps, the last-change
record's among them (R166). -/
def Obligations.ResetIsSound : Prop :=
  State.reset.Canonical ∧ State.reset.TableSound ∧ State.reset.HistoryOrdered ∧ State.reset.RecipesSound ∧
  State.reset.ListsBounded ∧ State.reset.notices.Nodup ∧ State.reset.DebtsBounded ∧ State.reset.DosesBounded ∧
  State.reset.FindingsBounded ∧ State.reset.OpIdsInRange ∧ State.reset.hold.lastTaken < 32 ∧
  State.reset.EditsSpareSprayed ∧ State.reset.NoSpitWhileSpraying ∧ State.reset.EditSound ∧
  State.reset.line.lastChange.after = State.reset.line.mode

/-- R166: the line mode changes only by the rows of the table: each command that changes it, the mode it leaves and the mode
it reaches. The last-change record ends with the mode that stands. -/
def Obligations.ModeMachine : Prop :=
  ∀ (i : Instr) (s t : State), exec i s = .next t →
    (s.line.lastChange.after = s.line.mode → t.line.lastChange.after = t.line.mode) ∧
    (t.line.mode ≠ s.line.mode →
      (t.line.mode = .initializing ∧ ∃ e, i = .powerOn e) ∨
      (s.line.mode = .initializing ∧ i = .startUpEnd ∧ t.line.mode = if s.line.estop then .halted else .config) ∨
      (s.line.mode = .config ∧ t.line.mode = .run ∧ ∃ x, i = .mode x 2) ∨
      (s.line.mode = .run ∧ t.line.mode = .drain ∧ ∃ x, i = .mode x 3) ∨
      ((s.line.mode = .run ∨ s.line.mode = .drain) ∧ t.line.mode = .config ∧ ∃ x, i = .mode x 1) ∨
      (s.line.mode = .run ∧ t.line.mode = .config ∧ t.line.lastChange.before = .drain ∧ ∃ x, i = .mode x 3) ∨
      (s.line.mode = .drain ∧ t.line.mode = .config ∧ t.line.lastChange.cause = .drainEnd) ∨
      (s.line.mode ≠ .initializing ∧ t.line.mode = .halted ∧ ((∃ x, i = .halt x) ∨ i = .estopChange true)) ∨
      (s.line.mode = .halted ∧ s.line.estop = false ∧ t.line.mode = .config ∧ ∃ x, i = .recover x))

/-- R59, R89, R96, R127, R169: a command that leaves the line in HALTED or INITIALIZING starts no board, no head operation
and no shuttle operation. -/
def Obligations.NothingStartsStopped : Prop :=
  ∀ (i : Instr) (s t : State), exec i s = .next t → (t.line.mode = .halted ∨ t.line.mode = .initializing) →
    (∀ l, (s.lane l).op = none → (t.lane l).op = none) ∧
    (s.oven.shuttle = none → t.oven.shuttle = none) ∧
    ∀ k b, t.board k = some b → b.life = .spraying → ∃ b', s.board k = some b' ∧ b'.life = .spraying

/-- R175, R176: a request taken by its owning block produces one reply, at the end of the reply queue, with the request's
kind plus 80h and its tag, or it is a keep-out edit accepted, which stays without reply until its completion. A command that
is no request, no frame, no edit step, no sending and no power-on produces none. -/
def Obligations.OneReply : Prop :=
  ∀ (i : Instr) (s t : State), exec i s = .next t →
    (∀ k, requestKind i = some k →
      (∃ r, t.link.replies = s.link.replies ++ [r] ∧ r.kind = (k + 0x80) % 0x100 ∧ r.tag = i.requestTag ∧
        r.place = s.link.handed.contains i) ∨
      (t.link.replies = s.link.replies ∧ s.keepOut.edit = none ∧ (k = 0x10 ∨ k = 0x12 ∨ k = 0x13) ∧
        ∃ e, t.keepOut.edit = some e ∧ e.tag = i.requestTag ∧ e.place = s.link.handed.contains i)) ∧
    (requestKind i = none → (∀ e, i ≠ .powerOn e) → (∀ bs, i ≠ .requestFrame bs) → (∀ k, i ≠ .frameTimeout k) →
      (∀ k bs, i ≠ .fieldLinkFrameDiscard k bs) → i ≠ .editStep → i ≠ .replySend →
      t.link.replies = s.link.replies)
end

