-- ==== Sys2Proof/Laws/Table.lean ====
section
/-! SUPPORT. Numbered tables: reading after a write, and the canonical form that every write keeps. -/

namespace Sys2Proof.Machine

variable {α : Type}

@[simp] theorem Table.read_nil (d : Nat → α) (i : Nat) : Table.read d [] i = d i := rfl

theorem Table.read_put_same (d : Nat → α) (i : Nat) (v : α) (t : Table α) : Table.read d (Table.put i v t) i = v := by
  induction t with
  | nil => simp [Table.put, Table.read]
  | cons p t ih =>
    obtain ⟨j, w⟩ := p
    unfold Table.put
    split
    · simp [Table.read]
    · split
      · simp [Table.read]
      · rename_i h1 h2; simp [Table.read, h2, ih]

theorem Table.read_put_other (d : Nat → α) {i k : Nat} (h : k ≠ i) (v : α) (t : Table α) :
    Table.read d (Table.put i v t) k = Table.read d t k := by
  induction t with
  | nil => simp [Table.put, Table.read, h]
  | cons p t ih =>
    obtain ⟨j, w⟩ := p
    unfold Table.put
    split
    · simp [Table.read, h]
    · split
      · rename_i h1 h2; subst h2; simp [Table.read, h]
      · simp [Table.read, ih]

theorem Table.read_drop_same (d : Nat → α) (i : Nat) (t : Table α) : Table.read d (Table.drop i t) i = d i := by
  induction t with
  | nil => rfl
  | cons p t ih =>
    obtain ⟨j, w⟩ := p
    by_cases h : j = i
    · subst h; simpa [Table.drop] using ih
    · have : Table.drop i ((j, w) :: t) = (j, w) :: Table.drop i t := by simp [Table.drop, h]
      rw [this]; simp [Table.read, Ne.symm h, ih]

theorem Table.read_drop_other (d : Nat → α) {i k : Nat} (h : k ≠ i) (t : Table α) :
    Table.read d (Table.drop i t) k = Table.read d t k := by
  induction t with
  | nil => rfl
  | cons p t ih =>
    obtain ⟨j, w⟩ := p
    by_cases hj : j = i
    · subst hj
      have : Table.drop j ((j, w) :: t) = Table.drop j t := by simp [Table.drop]
      rw [this]; simp [Table.read, h, ih]
    · have : Table.drop i ((j, w) :: t) = (j, w) :: Table.drop i t := by simp [Table.drop, hj]
      rw [this]; simp [Table.read, ih]

/-- Reading the number just written gives what was written. -/
theorem Table.read_write_same [DecidableEq α] (d : Nat → α) (i : Nat) (v : α) (t : Table α) :
    Table.read d (Table.write d i v t) i = v := by
  unfold Table.write; split
  · rename_i h; rw [Table.read_drop_same, h]
  · exact Table.read_put_same d i v t

/-- A write leaves every other number as it reads. -/
theorem Table.read_write_other [DecidableEq α] (d : Nat → α) {i k : Nat} (h : k ≠ i) (v : α) (t : Table α) :
    Table.read d (Table.write d i v t) k = Table.read d t k := by
  unfold Table.write; split
  · exact Table.read_drop_other d h t
  · exact Table.read_put_other d h v t

/-- Reading after a write, in one equation. -/
theorem Table.read_write [DecidableEq α] (d : Nat → α) (i k : Nat) (v : α) (t : Table α) :
    Table.read d (Table.write d i v t) k = if k = i then v else Table.read d t k := by
  split
  · rename_i h; subst h; exact Table.read_write_same d _ v t
  · rename_i h; exact Table.read_write_other d h v t

/-! ## The canonical form -/

theorem Table.rises_weaken {lo lo' : Option Nat} (t : Table α) (h : ∀ b, lo' = some b → ∃ c, lo = some c ∧ b ≤ c)
    (ht : Table.rises lo t = true) : Table.rises lo' t = true := by
  cases t with
  | nil => rfl
  | cons p t =>
    simp only [Table.rises, Bool.and_eq_true] at ht ⊢
    refine ⟨?_, ht.2⟩
    cases lo' with
    | none => rfl
    | some b =>
      obtain ⟨c, rfl, hbc⟩ := h b rfl
      simp at ht ⊢; omega

theorem Table.rises_put (lo : Option Nat) (i : Nat) (v : α) (t : Table α) (hi : lo.all (fun b => decide (b < i)) = true)
    (h : Table.rises lo t = true) : Table.rises lo (Table.put i v t) = true := by
  induction t generalizing lo with
  | nil => simp [Table.put, Table.rises, hi]
  | cons p t ih =>
    obtain ⟨j, w⟩ := p
    simp only [Table.rises, Bool.and_eq_true] at h
    unfold Table.put
    split
    · simp [Table.rises, h.2, *]
    · split
      · rename_i h2; subst h2; simp [Table.rises, hi, h.2]
      · simp only [Table.rises, Bool.and_eq_true]
        refine ⟨h.1, ih _ ?_ h.2⟩
        simp; omega

theorem Table.rises_drop (lo : Option Nat) (i : Nat) (t : Table α) (h : Table.rises lo t = true) :
    Table.rises lo (Table.drop i t) = true := by
  induction t generalizing lo with
  | nil => rfl
  | cons p t ih =>
    obtain ⟨j, w⟩ := p
    simp only [Table.rises, Bool.and_eq_true] at h
    by_cases hj : j = i
    · have : Table.drop i ((j, w) :: t) = Table.drop i t := by simp [Table.drop, hj]
      rw [this]
      refine ih _ (Table.rises_weaken t ?_ h.2)
      intro b hb; subst hb; exact ⟨j, rfl, by simpa using Nat.le_of_lt (by simpa using h.1)⟩
    · have : Table.drop i ((j, w) :: t) = (j, w) :: Table.drop i t := by simp [Table.drop, hj]
      rw [this]; simp only [Table.rises, Bool.and_eq_true]; exact ⟨h.1, ih _ h.2⟩

theorem Table.mem_put {i : Nat} {v : α} {t : Table α} {p : Nat × α} (h : p ∈ Table.put i v t) : p = (i, v) ∨ p ∈ t := by
  induction t with
  | nil => exact .inl (by simpa [Table.put] using h)
  | cons q t ih =>
    obtain ⟨j, w⟩ := q
    unfold Table.put at h
    split at h
    · rcases List.mem_cons.1 h with h | h
      · exact .inl h
      · exact .inr h
    · split at h
      · rcases List.mem_cons.1 h with h | h
        · exact .inl h
        · exact .inr (List.mem_cons_of_mem _ h)
      · rcases List.mem_cons.1 h with h | h
        · exact .inr (h ▸ List.mem_cons_self ..)
        · exact (ih h).imp id (List.mem_cons_of_mem _)

/-- Every write keeps the canonical form. -/
theorem Table.wf_write [DecidableEq α] (d : Nat → α) (i : Nat) (v : α) (t : Table α) (h : Table.wf d t = true) :
    Table.wf d (Table.write d i v t) = true := by
  simp only [Table.wf, Bool.and_eq_true, List.all_eq_true, decide_eq_true_eq] at h ⊢
  unfold Table.write
  split
  · exact ⟨Table.rises_drop _ i t h.1, fun p hp => h.2 p (List.mem_of_mem_filter hp)⟩
  · rename_i hv
    refine ⟨Table.rises_put _ i v t rfl h.1, fun p hp => ?_⟩
    rcases Table.mem_put hp with rfl | hp
    · exact hv
    · exact h.2 p hp

theorem Table.wf_nil [DecidableEq α] (d : Nat → α) : Table.wf d ([] : Table α) = true := rfl

end Sys2Proof.Machine
end

