-- ==== Sys2Proof/Laws/State.lean ====
section
/-! SUPPORT. What each update of the state leaves alone, field by field: for every update one lemma, a conjunction of
one equation per field, each true by rfl; and what the readers of a record see after its update. -/

namespace Sys2Proof.Machine

variable (s : State)

@[simp] theorem State.reach_fields (t : Nat) :
    (s.reach t).pending = s.pending ∧ (s.reach t).line = s.line ∧ (s.reach t).link = s.link ∧
    (s.reach t).notices = s.notices ∧ (s.reach t).recipe = s.recipe ∧ (s.reach t).tracker = s.tracker ∧
    (s.reach t).apps = s.apps ∧ (s.reach t).keepOut = s.keepOut ∧ (s.reach t).path = s.path ∧
    (s.reach t).criteria = s.criteria ∧ (s.reach t).oven = s.oven ∧ (s.reach t).hold = s.hold :=
  ⟨rfl, rfl, rfl, rfl, rfl, rfl, rfl, rfl, rfl, rfl, rfl, rfl⟩

@[simp] theorem State.answer_fields (h : Header) (k : Nat) (c : ResultCode) (b : Body) :
    (s.answer h k c b).pending = s.pending ∧ (s.answer h k c b).clock = s.clock ∧
    (s.answer h k c b).line = s.line ∧ (s.answer h k c b).notices = s.notices ∧
    (s.answer h k c b).recipe = s.recipe ∧ (s.answer h k c b).tracker = s.tracker ∧
    (s.answer h k c b).apps = s.apps ∧ (s.answer h k c b).keepOut = s.keepOut ∧ (s.answer h k c b).path = s.path ∧
    (s.answer h k c b).criteria = s.criteria ∧ (s.answer h k c b).oven = s.oven ∧ (s.answer h k c b).hold = s.hold :=
  ⟨rfl, rfl, rfl, rfl, rfl, rfl, rfl, rfl, rfl, rfl, rfl, rfl⟩

@[simp] theorem State.refuse_fields (h : Header) (k : Nat) (c : ResultCode) :
    (s.refuse h k c).pending = s.pending ∧ (s.refuse h k c).clock = s.clock ∧ (s.refuse h k c).line = s.line ∧
    (s.refuse h k c).notices = s.notices ∧ (s.refuse h k c).recipe = s.recipe ∧
    (s.refuse h k c).tracker = s.tracker ∧ (s.refuse h k c).apps = s.apps ∧ (s.refuse h k c).keepOut = s.keepOut ∧
    (s.refuse h k c).path = s.path ∧ (s.refuse h k c).criteria = s.criteria ∧ (s.refuse h k c).oven = s.oven ∧
    (s.refuse h k c).hold = s.hold :=
  ⟨rfl, rfl, rfl, rfl, rfl, rfl, rfl, rfl, rfl, rfl, rfl, rfl⟩

@[simp] theorem State.take_fields (i : Instr) :
    (s.take i).pending = s.pending ∧ (s.take i).clock = s.clock ∧ (s.take i).line = s.line ∧
    (s.take i).notices = s.notices ∧ (s.take i).recipe = s.recipe ∧ (s.take i).tracker = s.tracker ∧
    (s.take i).apps = s.apps ∧ (s.take i).keepOut = s.keepOut ∧ (s.take i).path = s.path ∧
    (s.take i).criteria = s.criteria ∧ (s.take i).oven = s.oven ∧ (s.take i).hold = s.hold :=
  ⟨rfl, rfl, rfl, rfl, rfl, rfl, rfl, rfl, rfl, rfl, rfl, rfl⟩

@[simp] theorem State.setCls_fields (c : Nat) (r : ClassRecord) :
    (s.setCls c r).pending = s.pending ∧ (s.setCls c r).clock = s.clock ∧ (s.setCls c r).line = s.line ∧
    (s.setCls c r).link = s.link ∧ (s.setCls c r).notices = s.notices ∧ (s.setCls c r).tracker = s.tracker ∧
    (s.setCls c r).apps = s.apps ∧ (s.setCls c r).keepOut = s.keepOut ∧ (s.setCls c r).path = s.path ∧
    (s.setCls c r).criteria = s.criteria ∧ (s.setCls c r).oven = s.oven ∧ (s.setCls c r).hold = s.hold :=
  ⟨rfl, rfl, rfl, rfl, rfl, rfl, rfl, rfl, rfl, rfl, rfl, rfl⟩

@[simp] theorem State.raiseUse_fields (c : Nat) :
    (s.raiseUse c).pending = s.pending ∧ (s.raiseUse c).clock = s.clock ∧ (s.raiseUse c).line = s.line ∧
    (s.raiseUse c).link = s.link ∧ (s.raiseUse c).notices = s.notices ∧ (s.raiseUse c).tracker = s.tracker ∧
    (s.raiseUse c).apps = s.apps ∧ (s.raiseUse c).keepOut = s.keepOut ∧ (s.raiseUse c).path = s.path ∧
    (s.raiseUse c).criteria = s.criteria ∧ (s.raiseUse c).oven = s.oven ∧ (s.raiseUse c).hold = s.hold :=
  ⟨rfl, rfl, rfl, rfl, rfl, rfl, rfl, rfl, rfl, rfl, rfl, rfl⟩

@[simp] theorem State.lowerUse_fields (c : Nat) :
    (s.lowerUse c).pending = s.pending ∧ (s.lowerUse c).clock = s.clock ∧ (s.lowerUse c).line = s.line ∧
    (s.lowerUse c).link = s.link ∧ (s.lowerUse c).notices = s.notices ∧ (s.lowerUse c).tracker = s.tracker ∧
    (s.lowerUse c).apps = s.apps ∧ (s.lowerUse c).keepOut = s.keepOut ∧ (s.lowerUse c).path = s.path ∧
    (s.lowerUse c).criteria = s.criteria ∧ (s.lowerUse c).oven = s.oven ∧ (s.lowerUse c).hold = s.hold :=
  ⟨rfl, rfl, rfl, rfl, rfl, rfl, rfl, rfl, rfl, rfl, rfl, rfl⟩

@[simp] theorem State.setMat_fields (m : Nat) (r : MaterialRecord) :
    (s.setMat m r).pending = s.pending ∧ (s.setMat m r).clock = s.clock ∧ (s.setMat m r).line = s.line ∧
    (s.setMat m r).link = s.link ∧ (s.setMat m r).notices = s.notices ∧ (s.setMat m r).tracker = s.tracker ∧
    (s.setMat m r).apps = s.apps ∧ (s.setMat m r).keepOut = s.keepOut ∧ (s.setMat m r).path = s.path ∧
    (s.setMat m r).criteria = s.criteria ∧ (s.setMat m r).oven = s.oven ∧ (s.setMat m r).hold = s.hold :=
  ⟨rfl, rfl, rfl, rfl, rfl, rfl, rfl, rfl, rfl, rfl, rfl, rfl⟩

@[simp] theorem State.setBoard_fields (k : Nat) (b : Option Board) :
    (s.setBoard k b).pending = s.pending ∧ (s.setBoard k b).clock = s.clock ∧ (s.setBoard k b).line = s.line ∧
    (s.setBoard k b).link = s.link ∧ (s.setBoard k b).notices = s.notices ∧ (s.setBoard k b).recipe = s.recipe ∧
    (s.setBoard k b).apps = s.apps ∧ (s.setBoard k b).keepOut = s.keepOut ∧ (s.setBoard k b).path = s.path ∧
    (s.setBoard k b).criteria = s.criteria ∧ (s.setBoard k b).oven = s.oven ∧ (s.setBoard k b).hold = s.hold :=
  ⟨rfl, rfl, rfl, rfl, rfl, rfl, rfl, rfl, rfl, rfl, rfl, rfl⟩

@[simp] theorem State.mapBoards_fields (f : Board → Board) :
    (s.mapBoards f).pending = s.pending ∧ (s.mapBoards f).clock = s.clock ∧ (s.mapBoards f).line = s.line ∧
    (s.mapBoards f).link = s.link ∧ (s.mapBoards f).notices = s.notices ∧ (s.mapBoards f).recipe = s.recipe ∧
    (s.mapBoards f).apps = s.apps ∧ (s.mapBoards f).keepOut = s.keepOut ∧ (s.mapBoards f).path = s.path ∧
    (s.mapBoards f).criteria = s.criteria ∧ (s.mapBoards f).oven = s.oven ∧ (s.mapBoards f).hold = s.hold :=
  ⟨rfl, rfl, rfl, rfl, rfl, rfl, rfl, rfl, rfl, rfl, rfl, rfl⟩

@[simp] theorem State.setQueue_fields (l : Fin 2) (q : List Nat) :
    (s.setQueue l q).pending = s.pending ∧ (s.setQueue l q).clock = s.clock ∧ (s.setQueue l q).line = s.line ∧
    (s.setQueue l q).link = s.link ∧ (s.setQueue l q).notices = s.notices ∧ (s.setQueue l q).recipe = s.recipe ∧
    (s.setQueue l q).apps = s.apps ∧ (s.setQueue l q).keepOut = s.keepOut ∧ (s.setQueue l q).path = s.path ∧
    (s.setQueue l q).criteria = s.criteria ∧ (s.setQueue l q).oven = s.oven ∧ (s.setQueue l q).hold = s.hold :=
  ⟨rfl, rfl, rfl, rfl, rfl, rfl, rfl, rfl, rfl, rfl, rfl, rfl⟩

@[simp] theorem State.appendHistory_fields (g : List Byte) (c p : Nat) (d : Disposition) (x : NumSet 16) (t : Nat) :
    (s.appendHistory g c p d x t).pending = s.pending ∧ (s.appendHistory g c p d x t).clock = s.clock ∧
    (s.appendHistory g c p d x t).line = s.line ∧ (s.appendHistory g c p d x t).link = s.link ∧
    (s.appendHistory g c p d x t).notices = s.notices ∧ (s.appendHistory g c p d x t).recipe = s.recipe ∧
    (s.appendHistory g c p d x t).apps = s.apps ∧ (s.appendHistory g c p d x t).keepOut = s.keepOut ∧
    (s.appendHistory g c p d x t).path = s.path ∧ (s.appendHistory g c p d x t).criteria = s.criteria ∧
    (s.appendHistory g c p d x t).oven = s.oven ∧ (s.appendHistory g c p d x t).hold = s.hold :=
  ⟨rfl, rfl, rfl, rfl, rfl, rfl, rfl, rfl, rfl, rfl, rfl, rfl⟩

@[simp] theorem State.setUnit_fields (a : Fin 6) (r : Applicator) :
    (s.setUnit a r).pending = s.pending ∧ (s.setUnit a r).clock = s.clock ∧ (s.setUnit a r).line = s.line ∧
    (s.setUnit a r).link = s.link ∧ (s.setUnit a r).notices = s.notices ∧ (s.setUnit a r).recipe = s.recipe ∧
    (s.setUnit a r).tracker = s.tracker ∧ (s.setUnit a r).keepOut = s.keepOut ∧ (s.setUnit a r).path = s.path ∧
    (s.setUnit a r).criteria = s.criteria ∧ (s.setUnit a r).oven = s.oven ∧ (s.setUnit a r).hold = s.hold :=
  ⟨rfl, rfl, rfl, rfl, rfl, rfl, rfl, rfl, rfl, rfl, rfl, rfl⟩

@[simp] theorem State.enqueue_fields (e : PrimeEntry) :
    (s.enqueue e).pending = s.pending ∧ (s.enqueue e).clock = s.clock ∧ (s.enqueue e).line = s.line ∧
    (s.enqueue e).link = s.link ∧ (s.enqueue e).notices = s.notices ∧ (s.enqueue e).recipe = s.recipe ∧
    (s.enqueue e).tracker = s.tracker ∧ (s.enqueue e).keepOut = s.keepOut ∧ (s.enqueue e).path = s.path ∧
    (s.enqueue e).criteria = s.criteria ∧ (s.enqueue e).oven = s.oven ∧ (s.enqueue e).hold = s.hold :=
  ⟨rfl, rfl, rfl, rfl, rfl, rfl, rfl, rfl, rfl, rfl, rfl, rfl⟩

@[simp] theorem State.nextOrder_fields :
    (s.nextOrder).pending = s.pending ∧ (s.nextOrder).clock = s.clock ∧ (s.nextOrder).line = s.line ∧
    (s.nextOrder).link = s.link ∧ (s.nextOrder).notices = s.notices ∧ (s.nextOrder).recipe = s.recipe ∧
    (s.nextOrder).tracker = s.tracker ∧ (s.nextOrder).keepOut = s.keepOut ∧ (s.nextOrder).path = s.path ∧
    (s.nextOrder).criteria = s.criteria ∧ (s.nextOrder).oven = s.oven ∧ (s.nextOrder).hold = s.hold :=
  ⟨rfl, rfl, rfl, rfl, rfl, rfl, rfl, rfl, rfl, rfl, rfl, rfl⟩

@[simp] theorem State.setLane_fields (l : Fin 2) (r : Lane) :
    (s.setLane l r).pending = s.pending ∧ (s.setLane l r).clock = s.clock ∧ (s.setLane l r).line = s.line ∧
    (s.setLane l r).link = s.link ∧ (s.setLane l r).notices = s.notices ∧ (s.setLane l r).recipe = s.recipe ∧
    (s.setLane l r).tracker = s.tracker ∧ (s.setLane l r).apps = s.apps ∧ (s.setLane l r).keepOut = s.keepOut ∧
    (s.setLane l r).criteria = s.criteria ∧ (s.setLane l r).oven = s.oven ∧ (s.setLane l r).hold = s.hold :=
  ⟨rfl, rfl, rfl, rfl, rfl, rfl, rfl, rfl, rfl, rfl, rfl, rfl⟩

@[simp] theorem State.modLane_fields (l : Fin 2) (f : Lane → Lane) :
    (s.modLane l f).pending = s.pending ∧ (s.modLane l f).clock = s.clock ∧ (s.modLane l f).line = s.line ∧
    (s.modLane l f).link = s.link ∧ (s.modLane l f).notices = s.notices ∧ (s.modLane l f).recipe = s.recipe ∧
    (s.modLane l f).tracker = s.tracker ∧ (s.modLane l f).apps = s.apps ∧ (s.modLane l f).keepOut = s.keepOut ∧
    (s.modLane l f).criteria = s.criteria ∧ (s.modLane l f).oven = s.oven ∧ (s.modLane l f).hold = s.hold :=
  ⟨rfl, rfl, rfl, rfl, rfl, rfl, rfl, rfl, rfl, rfl, rfl, rfl⟩

@[simp] theorem State.advance_fields (l : Fin 2) :
    (s.advance l).pending = s.pending ∧ (s.advance l).clock = s.clock ∧ (s.advance l).line = s.line ∧
    (s.advance l).link = s.link ∧ (s.advance l).notices = s.notices ∧ (s.advance l).recipe = s.recipe ∧
    (s.advance l).tracker = s.tracker ∧ (s.advance l).apps = s.apps ∧ (s.advance l).keepOut = s.keepOut ∧
    (s.advance l).criteria = s.criteria ∧ (s.advance l).oven = s.oven ∧ (s.advance l).hold = s.hold :=
  ⟨rfl, rfl, rfl, rfl, rfl, rfl, rfl, rfl, rfl, rfl, rfl, rfl⟩

@[simp] theorem State.sendOp_fields (l : Fin 2) (k : OpKind) (a : Fin 6) (n : Nat) (x : Option StrokeRef) (c : HeadCommand) :
    (s.sendOp l k a n x c).pending = s.pending ∧ (s.sendOp l k a n x c).clock = s.clock ∧
    (s.sendOp l k a n x c).line = s.line ∧ (s.sendOp l k a n x c).link = s.link ∧
    (s.sendOp l k a n x c).notices = s.notices ∧ (s.sendOp l k a n x c).recipe = s.recipe ∧
    (s.sendOp l k a n x c).tracker = s.tracker ∧ (s.sendOp l k a n x c).apps = s.apps ∧
    (s.sendOp l k a n x c).keepOut = s.keepOut ∧ (s.sendOp l k a n x c).criteria = s.criteria ∧
    (s.sendOp l k a n x c).oven = s.oven ∧ (s.sendOp l k a n x c).hold = s.hold :=
  ⟨rfl, rfl, rfl, rfl, rfl, rfl, rfl, rfl, rfl, rfl, rfl, rfl⟩

@[simp] theorem State.setEntry_fields (i : Nat) (e : KeepOutEntry) :
    (s.setEntry i e).pending = s.pending ∧ (s.setEntry i e).clock = s.clock ∧ (s.setEntry i e).line = s.line ∧
    (s.setEntry i e).link = s.link ∧ (s.setEntry i e).notices = s.notices ∧ (s.setEntry i e).recipe = s.recipe ∧
    (s.setEntry i e).tracker = s.tracker ∧ (s.setEntry i e).apps = s.apps ∧ (s.setEntry i e).path = s.path ∧
    (s.setEntry i e).criteria = s.criteria ∧ (s.setEntry i e).oven = s.oven ∧ (s.setEntry i e).hold = s.hold :=
  ⟨rfl, rfl, rfl, rfl, rfl, rfl, rfl, rfl, rfl, rfl, rfl, rfl⟩

@[simp] theorem State.countHits_fields (cols : List (Nat × List Cell)) :
    (s.countHits cols).pending = s.pending ∧ (s.countHits cols).clock = s.clock ∧
    (s.countHits cols).line = s.line ∧ (s.countHits cols).link = s.link ∧ (s.countHits cols).notices = s.notices ∧
    (s.countHits cols).recipe = s.recipe ∧ (s.countHits cols).tracker = s.tracker ∧
    (s.countHits cols).apps = s.apps ∧ (s.countHits cols).path = s.path ∧
    (s.countHits cols).criteria = s.criteria ∧ (s.countHits cols).oven = s.oven ∧ (s.countHits cols).hold = s.hold :=
  ⟨rfl, rfl, rfl, rfl, rfl, rfl, rfl, rfl, rfl, rfl, rfl, rfl⟩

@[simp] theorem State.setBay_fields (n : Fin 8) (v : Bay) :
    (s.setBay n v).pending = s.pending ∧ (s.setBay n v).clock = s.clock ∧ (s.setBay n v).line = s.line ∧
    (s.setBay n v).link = s.link ∧ (s.setBay n v).notices = s.notices ∧ (s.setBay n v).recipe = s.recipe ∧
    (s.setBay n v).tracker = s.tracker ∧ (s.setBay n v).apps = s.apps ∧ (s.setBay n v).keepOut = s.keepOut ∧
    (s.setBay n v).path = s.path ∧ (s.setBay n v).criteria = s.criteria ∧ (s.setBay n v).hold = s.hold :=
  ⟨rfl, rfl, rfl, rfl, rfl, rfl, rfl, rfl, rfl, rfl, rfl, rfl⟩

@[simp] theorem State.setGate_fields (l : Fin 2) (o : Bool) :
    (s.setGate l o).pending = s.pending ∧ (s.setGate l o).clock = s.clock ∧ (s.setGate l o).line = s.line ∧
    (s.setGate l o).link = s.link ∧ (s.setGate l o).notices = s.notices ∧ (s.setGate l o).recipe = s.recipe ∧
    (s.setGate l o).tracker = s.tracker ∧ (s.setGate l o).apps = s.apps ∧ (s.setGate l o).keepOut = s.keepOut ∧
    (s.setGate l o).path = s.path ∧ (s.setGate l o).criteria = s.criteria ∧ (s.setGate l o).hold = s.hold :=
  ⟨rfl, rfl, rfl, rfl, rfl, rfl, rfl, rfl, rfl, rfl, rfl, rfl⟩

@[simp] theorem State.setZone_fields (z : Fin 4) (r : Zone) :
    (s.setZone z r).pending = s.pending ∧ (s.setZone z r).clock = s.clock ∧ (s.setZone z r).line = s.line ∧
    (s.setZone z r).link = s.link ∧ (s.setZone z r).notices = s.notices ∧ (s.setZone z r).recipe = s.recipe ∧
    (s.setZone z r).tracker = s.tracker ∧ (s.setZone z r).apps = s.apps ∧ (s.setZone z r).keepOut = s.keepOut ∧
    (s.setZone z r).path = s.path ∧ (s.setZone z r).criteria = s.criteria ∧ (s.setZone z r).hold = s.hold :=
  ⟨rfl, rfl, rfl, rfl, rfl, rfl, rfl, rfl, rfl, rfl, rfl, rfl⟩

@[simp] theorem State.clearShuttle_fields :
    (s.clearShuttle).pending = s.pending ∧ (s.clearShuttle).clock = s.clock ∧ (s.clearShuttle).line = s.line ∧
    (s.clearShuttle).link = s.link ∧ (s.clearShuttle).notices = s.notices ∧ (s.clearShuttle).recipe = s.recipe ∧
    (s.clearShuttle).tracker = s.tracker ∧ (s.clearShuttle).apps = s.apps ∧ (s.clearShuttle).keepOut = s.keepOut ∧
    (s.clearShuttle).path = s.path ∧ (s.clearShuttle).criteria = s.criteria ∧ (s.clearShuttle).hold = s.hold :=
  ⟨rfl, rfl, rfl, rfl, rfl, rfl, rfl, rfl, rfl, rfl, rfl, rfl⟩

@[simp] theorem State.startShuttle_fields (k : ShuttleKind) (n : Fin 8) (j : Nat) :
    (s.startShuttle k n j).pending = s.pending ∧ (s.startShuttle k n j).clock = s.clock ∧
    (s.startShuttle k n j).line = s.line ∧ (s.startShuttle k n j).link = s.link ∧
    (s.startShuttle k n j).notices = s.notices ∧ (s.startShuttle k n j).recipe = s.recipe ∧
    (s.startShuttle k n j).tracker = s.tracker ∧ (s.startShuttle k n j).apps = s.apps ∧
    (s.startShuttle k n j).keepOut = s.keepOut ∧ (s.startShuttle k n j).path = s.path ∧
    (s.startShuttle k n j).criteria = s.criteria ∧ (s.startShuttle k n j).hold = s.hold :=
  ⟨rfl, rfl, rfl, rfl, rfl, rfl, rfl, rfl, rfl, rfl, rfl, rfl⟩

@[simp] theorem State.setMode_fields (m : LineMode) (c : ChangeCause) :
    (s.setMode m c).pending = s.pending ∧ (s.setMode m c).clock = s.clock ∧ (s.setMode m c).link = s.link ∧
    (s.setMode m c).notices = s.notices ∧ (s.setMode m c).recipe = s.recipe ∧ (s.setMode m c).tracker = s.tracker ∧
    (s.setMode m c).apps = s.apps ∧ (s.setMode m c).keepOut = s.keepOut ∧ (s.setMode m c).path = s.path ∧
    (s.setMode m c).criteria = s.criteria ∧ (s.setMode m c).oven = s.oven ∧ (s.setMode m c).hold = s.hold :=
  ⟨rfl, rfl, rfl, rfl, rfl, rfl, rfl, rfl, rfl, rfl, rfl, rfl⟩

@[simp] theorem State.setCriterion_fields (i : Nat) (c : Criterion) :
    (s.setCriterion i c).pending = s.pending ∧ (s.setCriterion i c).clock = s.clock ∧
    (s.setCriterion i c).line = s.line ∧ (s.setCriterion i c).link = s.link ∧
    (s.setCriterion i c).notices = s.notices ∧ (s.setCriterion i c).recipe = s.recipe ∧
    (s.setCriterion i c).tracker = s.tracker ∧ (s.setCriterion i c).apps = s.apps ∧
    (s.setCriterion i c).keepOut = s.keepOut ∧ (s.setCriterion i c).path = s.path ∧
    (s.setCriterion i c).oven = s.oven ∧ (s.setCriterion i c).hold = s.hold :=
  ⟨rfl, rfl, rfl, rfl, rfl, rfl, rfl, rfl, rfl, rfl, rfl, rfl⟩

@[simp] theorem State.setRoute_fields (n : Nat) (r : RouteEntry) :
    (s.setRoute n r).pending = s.pending ∧ (s.setRoute n r).clock = s.clock ∧ (s.setRoute n r).line = s.line ∧
    (s.setRoute n r).link = s.link ∧ (s.setRoute n r).notices = s.notices ∧ (s.setRoute n r).recipe = s.recipe ∧
    (s.setRoute n r).tracker = s.tracker ∧ (s.setRoute n r).apps = s.apps ∧ (s.setRoute n r).keepOut = s.keepOut ∧
    (s.setRoute n r).path = s.path ∧ (s.setRoute n r).criteria = s.criteria ∧ (s.setRoute n r).oven = s.oven :=
  ⟨rfl, rfl, rfl, rfl, rfl, rfl, rfl, rfl, rfl, rfl, rfl, rfl⟩

@[simp] theorem State.setRx_fields (k : Link) (r : Receiver) :
    (s.setRx k r).pending = s.pending ∧ (s.setRx k r).clock = s.clock ∧ (s.setRx k r).line = s.line ∧
    (s.setRx k r).notices = s.notices ∧ (s.setRx k r).recipe = s.recipe ∧ (s.setRx k r).tracker = s.tracker ∧
    (s.setRx k r).apps = s.apps ∧ (s.setRx k r).keepOut = s.keepOut ∧ (s.setRx k r).path = s.path ∧
    (s.setRx k r).criteria = s.criteria ∧ (s.setRx k r).oven = s.oven ∧ (s.setRx k r).hold = s.hold :=
  ⟨rfl, rfl, rfl, rfl, rfl, rfl, rfl, rfl, rfl, rfl, rfl, rfl⟩

@[simp] theorem State.takePlace_fields (k : Nat) (t : Byte) :
    (s.takePlace k t).pending = s.pending ∧ (s.takePlace k t).clock = s.clock ∧ (s.takePlace k t).line = s.line ∧
    (s.takePlace k t).notices = s.notices ∧ (s.takePlace k t).recipe = s.recipe ∧
    (s.takePlace k t).tracker = s.tracker ∧ (s.takePlace k t).apps = s.apps ∧
    (s.takePlace k t).keepOut = s.keepOut ∧ (s.takePlace k t).path = s.path ∧
    (s.takePlace k t).criteria = s.criteria ∧ (s.takePlace k t).oven = s.oven ∧ (s.takePlace k t).hold = s.hold :=
  ⟨rfl, rfl, rfl, rfl, rfl, rfl, rfl, rfl, rfl, rfl, rfl, rfl⟩

@[simp] theorem State.handOn_fields (i : Instr) :
    (s.handOn i).pending = s.pending ∧ (s.handOn i).clock = s.clock ∧ (s.handOn i).line = s.line ∧
    (s.handOn i).notices = s.notices ∧ (s.handOn i).recipe = s.recipe ∧ (s.handOn i).tracker = s.tracker ∧
    (s.handOn i).apps = s.apps ∧ (s.handOn i).keepOut = s.keepOut ∧ (s.handOn i).path = s.path ∧
    (s.handOn i).criteria = s.criteria ∧ (s.handOn i).oven = s.oven ∧ (s.handOn i).hold = s.hold :=
  ⟨rfl, rfl, rfl, rfl, rfl, rfl, rfl, rfl, rfl, rfl, rfl, rfl⟩

@[simp] theorem State.post_fields (n : Notice) :
    (s.post n).pending = s.pending ∧ (s.post n).clock = s.clock ∧ (s.post n).line = s.line ∧
    (s.post n).link = s.link ∧ (s.post n).recipe = s.recipe ∧ (s.post n).tracker = s.tracker ∧
    (s.post n).apps = s.apps ∧ (s.post n).keepOut = s.keepOut ∧ (s.post n).path = s.path ∧
    (s.post n).criteria = s.criteria ∧ (s.post n).oven = s.oven ∧ (s.post n).hold = s.hold := by
  unfold State.post; split <;> exact ⟨rfl, rfl, rfl, rfl, rfl, rfl, rfl, rfl, rfl, rfl, rfl, rfl⟩

/-! ## Readers after their updates -/

@[simp] theorem State.reach_clock (t : Nat) : (s.reach t).clock = max s.clock t := rfl

@[simp] theorem State.answer_replies (h : Header) (k : Nat) (c : ResultCode) (b : Body) :
    (s.answer h k c b).link.replies = s.link.replies ++ [⟨(k + 0x80) % 0x100, h.tag, c, b, h.place⟩] := rfl

@[simp] theorem State.answer_intake (h : Header) (k : Nat) (c : ResultCode) (b : Body) :
    (s.answer h k c b).link.intake = s.link.intake ∧ (s.answer h k c b).link.handed = s.link.handed ∧
    (s.answer h k c b).link.rx = s.link.rx ∧ (s.answer h k c b).link.tx = s.link.tx := ⟨rfl, rfl, rfl, rfl⟩

@[simp] theorem State.take_link (i : Instr) :
    (s.take i).link.handed = s.link.handed.erase i ∧ (s.take i).link.replies = s.link.replies ∧
    (s.take i).link.intake = s.link.intake ∧ (s.take i).link.rx = s.link.rx ∧ (s.take i).link.tx = s.link.tx :=
  ⟨rfl, rfl, rfl, rfl, rfl⟩

@[simp] theorem State.setCls_cls (c k : Nat) (r : ClassRecord) :
    (s.setCls c r).cls k = if k = c then r else s.cls k := Table.read_write _ _ _ _ _

@[simp] theorem State.setMat_mat (m k : Nat) (r : MaterialRecord) :
    (s.setMat m r).mat k = if k = m then r else s.mat k := Table.read_write _ _ _ _ _

@[simp] theorem State.setBoard_board (k j : Nat) (b : Option Board) :
    (s.setBoard k b).board j = if j = k then b else s.board j := Table.read_write _ _ _ _ _

@[simp] theorem State.setEntry_entry (i j : Nat) (e : KeepOutEntry) :
    (s.setEntry i e).entry j = if j = i then e else s.entry j := Table.read_write _ _ _ _ _

@[simp] theorem State.setCriterion_criterion (i j : Nat) (c : Criterion) :
    (s.setCriterion i c).criterion j = if j = i then c else s.criterion j := Table.read_write _ _ _ _ _

@[simp] theorem State.setRoute_route (i j : Nat) (r : RouteEntry) :
    (s.setRoute i r).route j = if j = i then r else s.route j := Table.read_write _ _ _ _ _

theorem vector_get_set {α : Type} {n : Nat} (v : Vector α n) (i j : Fin n) (x : α) :
    (v.set i x).get j = if j = i then x else v.get j := by
  simp only [Vector.get_eq_getElem, Vector.getElem_set]
  by_cases h : (i : Nat) = j
  · simp [h, Fin.ext_iff]
  · simp [h, Fin.ext_iff, Ne.symm h]

@[simp] theorem State.setUnit_unit (a b : Fin 6) (r : Applicator) :
    (s.setUnit a r).unit b = if b = a then r else s.unit b := vector_get_set _ _ _ _

@[simp] theorem State.setLane_lane (l k : Fin 2) (r : Lane) :
    (s.setLane l r).lane k = if k = l then r else s.lane k := vector_get_set _ _ _ _

@[simp] theorem State.modLane_lane (l k : Fin 2) (f : Lane → Lane) :
    (s.modLane l f).lane k = if k = l then f (s.lane l) else s.lane k := vector_get_set _ _ _ _

@[simp] theorem State.setBay_bay (n k : Fin 8) (v : Bay) :
    (s.setBay n v).bay k = if k = n then v else s.bay k := vector_get_set _ _ _ _

@[simp] theorem State.setZone_zone (z k : Fin 4) (r : Zone) :
    (s.setZone z r).zone k = if k = z then r else s.zone k := vector_get_set _ _ _ _

@[simp] theorem State.setQueue_queueOf (l k : Fin 2) (q : List Nat) :
    (s.setQueue l q).queueOf k = if k = l then q else s.queueOf k := vector_get_set _ _ _ _

/-- A posted notice stands in the set, and no other joins it. -/
theorem State.mem_post (n m : Notice) : m ∈ (s.post n).notices ↔ m = n ∨ m ∈ s.notices := by
  unfold State.post
  split
  · rename_i h
    have : n ∈ s.notices := by simpa using h
    constructor
    · exact .inr
    · rintro (rfl | h)
      · exact this
      · exact h
  · simp [or_comm]

/-- Posting keeps the set free of duplicates. -/
theorem State.nodup_post (n : Notice) (h : s.notices.Nodup) : (s.post n).notices.Nodup := by
  unfold State.post
  split
  · exact h
  · rename_i hn
    have hn : n ∉ s.notices := by simpa using hn
    exact List.nodup_append.2 ⟨h, by simp, by intro a ha b hb; simp at hb; subst hb; rintro rfl; exact hn ha⟩

end Sys2Proof.Machine
end

