-- ==== Sys2Proof/Laws/Requests.lean ====
section
/-! SUPPORT. Requests: reading a table of tests, and what a request's own block still reads after it has taken the
request. -/

namespace Sys2Proof.Machine

/-! ## Tables of tests -/

@[simp] theorem firstFailure_nil : firstFailure [] = none := rfl

@[simp] theorem firstFailure_passed (c : ResultCode) (ts : List (Bool × ResultCode)) :
    firstFailure ((true, c) :: ts) = firstFailure ts := rfl

@[simp] theorem firstFailure_failed (c : ResultCode) (ts : List (Bool × ResultCode)) :
    firstFailure ((false, c) :: ts) = some c := rfl

theorem firstFailure_cons (x : Bool) (c : ResultCode) (ts : List (Bool × ResultCode)) :
    firstFailure ((x, c) :: ts) = if x then firstFailure ts else some c := by cases x <;> rfl

/-- Every test of a table that names a code stands before it or is the one that fails. -/
theorem firstFailure_eq_none (ts : List (Bool × ResultCode)) : firstFailure ts = none ↔ ∀ p ∈ ts, p.1 = true := by
  simp [firstFailure]

/-! ## What a block reads after taking a request -/

variable (s : State) (i : Instr)

@[simp] theorem State.take_cls (c : Nat) : (s.take i).cls c = s.cls c := rfl
@[simp] theorem State.take_mat (m : Nat) : (s.take i).mat m = s.mat m := rfl
@[simp] theorem State.take_board (k : Nat) : (s.take i).board k = s.board k := rfl
@[simp] theorem State.take_boards : (s.take i).boards = s.boards := rfl
@[simp] theorem State.take_queueOf (l : Fin 2) : (s.take i).queueOf l = s.queueOf l := rfl
@[simp] theorem State.take_sprayBoard (l : Fin 2) : (s.take i).sprayBoard l = s.sprayBoard l := rfl
@[simp] theorem State.take_unit (a : Fin 6) : (s.take i).unit a = s.unit a := rfl
@[simp] theorem State.take_lane (l : Fin 2) : (s.take i).lane l = s.lane l := rfl
@[simp] theorem State.take_entry (k : Nat) : (s.take i).entry k = s.entry k := rfl
@[simp] theorem State.take_criterion (k : Nat) : (s.take i).criterion k = s.criterion k := rfl
@[simp] theorem State.take_route (n : Nat) : (s.take i).route n = s.route n := rfl
@[simp] theorem State.take_bay (n : Fin 8) : (s.take i).bay n = s.bay n := rfl
@[simp] theorem State.take_zone (z : Fin 4) : (s.take i).zone z = s.zone z := rfl
@[simp] theorem State.take_blocked (b : Board) : (s.take i).blocked b = s.blocked b := rfl
@[simp] theorem State.take_blockedAt (k : Nat) : (s.take i).blockedAt k = s.blockedAt k := rfl
@[simp] theorem State.take_inUse (c : Nat) : (s.take i).inUse c = s.inUse c := rfl
@[simp] theorem State.take_held (m : Nat) : (s.take i).held m = s.held m := rfl
@[simp] theorem State.take_queued (a : Fin 6) : (s.take i).queued a = s.queued a := rfl
@[simp] theorem State.take_opOf (a : Fin 6) : (s.take i).opOf a = s.opOf a := rfl
@[simp] theorem State.take_drained : (s.take i).drained = s.drained := rfl
@[simp] theorem State.take_lookup (c : Nat) (d : Side) (x y : Nat) : (s.take i).lookup c d x y = s.lookup c d x y := rfl

/-- Reply links: what a request leaves of the link port once it is answered. -/
theorem State.replied_link (k : Nat) (c : ResultCode) (b : Body) :
    (s.replied i k c b).link =
      { s.link with
        handed := s.link.handed.erase i
        replies := s.link.replies ++ [⟨(k + 0x80) % 0x100, i.requestTag, c, b, s.link.handed.contains i⟩] } := rfl

end Sys2Proof.Machine
end

