-- ==== Sys2Proof/Laws/Steady.lean ====
section
/-! SUPPORT. What the operations over heads, boards and the shuttle leave alone: each shared operation that the close of
a step is made of keeps `Steady`. Each lemma carries it forward from a state `s0` before. -/

namespace Sys2Proof.Machine

variable {s0 s : State}

theorem Steady.refl (s : State) : Steady s s := by constructor <;> first | rfl | (intro l; exact ⟨rfl, rfl, rfl, rfl⟩)

theorem Steady.trans {a b c : State} (h : Steady a b) (g : Steady b c) : Steady a c where
  pending := g.pending.trans h.pending
  clock := g.clock.trans h.clock
  link := g.link.trans h.link
  recipe := g.recipe.trans h.recipe
  criteria := g.criteria.trans h.criteria
  hold := g.hold.trans h.hold
  edit := g.edit.trans h.edit
  estop := g.estop.trans h.estop
  limits := g.limits.trans h.limits
  history := g.history.trans h.history
  nextSeq := g.nextSeq.trans h.nextSeq
  queues := g.queues.trans h.queues
  occupancy := g.occupancy.trans h.occupancy
  entryStart := g.entryStart.trans h.entryStart
  lastEntered := g.lastEntered.trans h.lastEntered
  zones := g.zones.trans h.zones
  settings := g.settings.trans h.settings
  staged := g.staged.trans h.staged
  diverter := g.diverter.trans h.diverter
  lastExit := g.lastExit.trans h.lastExit
  lanes l :=
    have a := h.lanes l
    have b := g.lanes l
    ⟨b.1.trans a.1, b.2.1.trans a.2.1, b.2.2.1.trans a.2.2.1, b.2.2.2.trans a.2.2.2⟩

/-! ## The updates -/

theorem Steady.post (h : Steady s0 s) (n : Notice) : Steady s0 (s.post n) :=
  h.trans (by unfold State.post; split <;> exact ⟨rfl, rfl, rfl, rfl, rfl, rfl, rfl, rfl, rfl, rfl, rfl, rfl, rfl, rfl, rfl,
    rfl, rfl, rfl, rfl, rfl, fun _ => ⟨rfl, rfl, rfl, rfl⟩⟩)

theorem Steady.setBoard (h : Steady s0 s) (k : Nat) (b : Option Board) : Steady s0 (s.setBoard k b) :=
  h.trans ⟨rfl, rfl, rfl, rfl, rfl, rfl, rfl, rfl, rfl, rfl, rfl, rfl, rfl, rfl, rfl, rfl, rfl, rfl, rfl, rfl,
    fun _ => ⟨rfl, rfl, rfl, rfl⟩⟩

theorem Steady.setUnit (h : Steady s0 s) (a : Fin 6) (r : Applicator) : Steady s0 (s.setUnit a r) :=
  h.trans ⟨rfl, rfl, rfl, rfl, rfl, rfl, rfl, rfl, rfl, rfl, rfl, rfl, rfl, rfl, rfl, rfl, rfl, rfl, rfl, rfl,
    fun _ => ⟨rfl, rfl, rfl, rfl⟩⟩

theorem Steady.withApps (h : Steady s0 s) (x : AppManager) : Steady s0 { s with apps := x } :=
  h.trans ⟨rfl, rfl, rfl, rfl, rfl, rfl, rfl, rfl, rfl, rfl, rfl, rfl, rfl, rfl, rfl, rfl, rfl, rfl, rfl, rfl,
    fun _ => ⟨rfl, rfl, rfl, rfl⟩⟩

theorem Steady.countHits (h : Steady s0 s) (cols : List (Nat × List Cell)) : Steady s0 (s.countHits cols) :=
  h.trans ⟨rfl, rfl, rfl, rfl, rfl, rfl, rfl, rfl, rfl, rfl, rfl, rfl, rfl, rfl, rfl, rfl, rfl, rfl, rfl, rfl,
    fun _ => ⟨rfl, rfl, rfl, rfl⟩⟩

theorem Steady.setMode (h : Steady s0 s) (m : LineMode) (c : ChangeCause) : Steady s0 (s.setMode m c) :=
  h.trans ⟨rfl, rfl, rfl, rfl, rfl, rfl, rfl, rfl, rfl, rfl, rfl, rfl, rfl, rfl, rfl, rfl, rfl, rfl, rfl, rfl,
    fun _ => ⟨rfl, rfl, rfl, rfl⟩⟩

theorem Steady.setBay (h : Steady s0 s) (n : Fin 8) (v : Bay) : Steady s0 (s.setBay n v) :=
  h.trans ⟨rfl, rfl, rfl, rfl, rfl, rfl, rfl, rfl, rfl, rfl, rfl, rfl, rfl, rfl, rfl, rfl, rfl, rfl, rfl, rfl,
    fun _ => ⟨rfl, rfl, rfl, rfl⟩⟩

theorem Steady.setGate (h : Steady s0 s) (l : Fin 2) (o : Bool) : Steady s0 (s.setGate l o) :=
  h.trans ⟨rfl, rfl, rfl, rfl, rfl, rfl, rfl, rfl, rfl, rfl, rfl, rfl, rfl, rfl, rfl, rfl, rfl, rfl, rfl, rfl,
    fun _ => ⟨rfl, rfl, rfl, rfl⟩⟩

theorem Steady.withShuttle (h : Steady s0 s) (x : Option ShuttleOp) :
    Steady s0 { s with oven := { s.oven with shuttle := x } } :=
  h.trans ⟨rfl, rfl, rfl, rfl, rfl, rfl, rfl, rfl, rfl, rfl, rfl, rfl, rfl, rfl, rfl, rfl, rfl, rfl, rfl, rfl,
    fun _ => ⟨rfl, rfl, rfl, rfl⟩⟩

theorem Steady.withWaitList (h : Steady s0 s) (x : List Nat) :
    Steady s0 { s with oven := { s.oven with waitList := x } } :=
  h.trans ⟨rfl, rfl, rfl, rfl, rfl, rfl, rfl, rfl, rfl, rfl, rfl, rfl, rfl, rfl, rfl, rfl, rfl, rfl, rfl, rfl,
    fun _ => ⟨rfl, rfl, rfl, rfl⟩⟩

/-- A change of a lane that keeps its strokes, late-reply records and last fault. -/
theorem Steady.modLane (h : Steady s0 s) (l : Fin 2) (f : Lane → Lane)
    (hf : ∀ r : Lane, (f r).strokes = r.strokes ∧ (f r).lateFlag = r.lateFlag ∧ (f r).lastLate = r.lastLate ∧
      (f r).lastFault = r.lastFault) : Steady s0 (s.modLane l f) := by
  refine h.trans ⟨rfl, rfl, rfl, rfl, rfl, rfl, rfl, rfl, rfl, rfl, rfl, rfl, rfl, rfl, rfl, rfl, rfl, rfl, rfl, rfl,
    fun k => ?_⟩
  rw [State.modLane_lane]; split
  · rename_i e; subst e; exact hf _
  · exact ⟨rfl, rfl, rfl, rfl⟩

theorem Steady.modBoard (h : Steady s0 s) (k : Nat) (f : Board → Board) : Steady s0 (s.modBoard k f) := by
  unfold State.modBoard; split
  · exact h
  · dsimp only; split
    · exact (h.setBoard _ _).post _
    · exact h.setBoard _ _

theorem Steady.modBoardQuiet (h : Steady s0 s) (k : Nat) (f : Board → Board) : Steady s0 (s.modBoardQuiet k f) := by
  unfold State.modBoardQuiet; split
  · exact h
  · exact h.setBoard _ _

theorem Steady.modUnit (h : Steady s0 s) (a : Fin 6) (f : Applicator → Applicator) : Steady s0 (s.modUnit a f) := by
  unfold State.modUnit; dsimp only; split
  · exact (h.setUnit _ _).post _
  · exact h.setUnit _ _

theorem Steady.setStatus (h : Steady s0 s) (l : Fin 2) (st : LaneStatus) : Steady s0 (s.setStatus l st) := by
  have g := h.modLane l (fun r => { r with status := st }) fun _ => ⟨rfl, rfl, rfl, rfl⟩
  unfold State.setStatus; dsimp only; split
  · exact g
  · exact g.post _

theorem Steady.sendOp (h : Steady s0 s) (l : Fin 2) (k : OpKind) (a : Fin 6) (n : Nat) (x : Option StrokeRef)
    (c : HeadCommand) : Steady s0 (s.sendOp l k a n x c) := h.modLane l _ fun _ => ⟨rfl, rfl, rfl, rfl⟩

theorem Steady.advance (h : Steady s0 s) (l : Fin 2) : Steady s0 (s.advance l) :=
  h.modLane l _ fun _ => ⟨rfl, rfl, rfl, rfl⟩

theorem Steady.enqueue (h : Steady s0 s) (e : PrimeEntry) : Steady s0 (s.enqueue e) := h.withApps _

theorem Steady.nextOrder (h : Steady s0 s) : Steady s0 s.nextOrder := h.withApps _

/-! ## Bays and the shuttle -/

theorem Steady.reserve (h : Steady s0 s) (n : Fin 8) (k : Nat) : Steady s0 (s.reserve n k) := by
  unfold State.reserve; dsimp only; split
  · exact h.setBay _ _
  · exact (h.setBay _ _).setGate _ _

theorem Steady.requestBay (h : Steady s0 s) (k : Nat) : Steady s0 (s.requestBay k) := by
  unfold State.requestBay; split
  · exact h.reserve _ _
  · exact h.withWaitList _

theorem Steady.freeBay (h : Steady s0 s) (n : Fin 8) : Steady s0 (s.freeBay n) := by
  unfold State.freeBay; split
  · exact h.setBay _ _
  · exact (h.withWaitList _).reserve _ _

theorem Steady.raiseCore (h : Steady s0 s) (q : Bool) (k n : Nat) : Steady s0 (s.raiseCore q k n) := by
  unfold State.raiseCore; split
  · exact h
  · split
    · exact h.modBoardQuiet _ _
    · split
      · dsimp only; split
        · exact h.modBoardQuiet _ _
        · exact h.modBoard _ _
      · split
        · exact h
        · exact (h.modBoardQuiet _ _).post _

theorem Steady.leaveReady (h : Steady s0 s) (k : Nat) : Steady s0 (s.leaveReady k) := by
  unfold State.leaveReady; split
  · exact h
  · split
    · exact h.modBoard _ _
    · exact h

theorem Steady.testReady (h : Steady s0 s) (k : Nat) : Steady s0 (s.testReady k) := by
  unfold State.testReady; split
  · exact h
  · split
    · exact h.modBoard _ _
    · exact h

theorem Steady.openExpiry (h : Steady s0 s) (k : Nat) : Steady s0 (s.openExpiry k) :=
  ((h.modBoardQuiet _ _).raiseCore _ _ _).leaveReady _

theorem Steady.heldOver (h : Steady s0 s) (k : Nat) : Steady s0 (s.heldOver k) := by
  unfold State.heldOver; split
  · exact h
  · split
    · exact h.openExpiry _
    · exact h

theorem Steady.clearShuttle (h : Steady s0 s) : Steady s0 s.clearShuttle := h.withShuttle _

theorem Steady.withdraw (h : Steady s0 s) (k : Nat) : Steady s0 (s.withdraw k) := (h.clearShuttle.post _).heldOver _

theorem Steady.abandonShuttle (h : Steady s0 s) : Steady s0 s.abandonShuttle := by
  unfold State.abandonShuttle; split
  · exact h
  · split
    · exact h.clearShuttle.heldOver _
    · exact h.clearShuttle.modBoard _ _

theorem Steady.decideShuttle (h : Steady s0 s) : Steady s0 s.decideShuttle := by
  unfold State.decideShuttle; split
  · exact h
  · split
    · exact (h.withShuttle _).modBoard _ _
    · split
      · split
        · exact h.withShuttle _
        · exact h
      · exact h

/-! ## Heads and lanes -/

theorem Steady.autoPurge (h : Steady s0 s) (a : Fin 6) : Steady s0 (s.autoPurge a) := by
  unfold State.autoPurge; split
  · exact h
  · exact h.enqueue _

theorem Steady.sendWaiting (h : Steady s0 s) (l : Fin 2) (a : Fin 6) : Steady s0 (s.sendWaiting l a) := by
  unfold State.sendWaiting; split
  · exact h
  · dsimp only; split <;> exact (h.modUnit _ _).sendOp _ _ _ _ _ _

theorem Steady.sendSpit (h : Steady s0 s) (l : Fin 2) (a : Fin 6) : Steady s0 (s.sendSpit l a) :=
  (h.modUnit _ _).sendOp _ _ _ _ _ _

theorem Steady.grant (h : Steady s0 s) (e : PrimeEntry) : Steady s0 (s.grant e) := by
  unfold State.grant; dsimp only; split
  · exact ((h.withApps _).modUnit _ _).sendOp _ _ _ _ _ _
  · split <;> exact ((h.withApps _).modUnit _ _).sendOp _ _ _ _ _ _

theorem Steady.grants (h : Steady s0 s) (n : Nat) : Steady s0 (s.grants n) := by
  induction n generalizing s with
  | zero => exact h
  | succ n ih =>
    unfold State.grants; split
    · split
      · exact ih (h.grant _)
      · exact h
    · exact h

theorem Steady.grantDecision (h : Steady s0 s) : Steady s0 s.grantDecision := by
  unfold State.grantDecision; split
  · exact h.grants _
  · exact h

theorem Steady.autoStep (h : Steady s0 s) (a : Fin 6) : Steady s0 (s.autoStep a) := by
  unfold State.autoStep; split
  · exact h
  · split
    · exact h
    · split <;> first
        | exact h
        | exact (h.modUnit _ _).nextOrder
        | exact h.enqueue _
        | (split <;> first | exact h | exact h.enqueue _)

theorem Steady.clearNeed (h : Steady s0 s) (l : Fin 2) : Steady s0 (s.clearNeed l) := h.modUnit _ _

theorem Steady.stopLane (h : Steady s0 s) (l : Fin 2) : Steady s0 (s.stopLane l) := (h.clearNeed l).setStatus _ _

theorem Steady.stopWaiting (h : Steady s0 s) (l : Fin 2) : Steady s0 (s.stopWaiting l) := by
  unfold State.stopWaiting; split
  · exact h.clearNeed l
  · exact h

theorem Steady.laneOver (h : Steady s0 s) (l : Fin 2) : Steady s0 (s.laneOver l) := by
  unfold State.laneOver; dsimp only; split <;>
    exact ((h.stopWaiting l).setStatus _ _).modLane _ _ fun _ => ⟨rfl, rfl, rfl, rfl⟩

theorem Steady.toFlashing (h : Steady s0 s) (k : Nat) (f : Board → Board) : Steady s0 (s.toFlashing k f) :=
  (h.modBoard _ _).requestBay _

theorem Steady.terminal (h : Steady s0 s) (l : Fin 2) (k : Nat) : Steady s0 (s.terminal l k) :=
  (h.toFlashing _ _).laneOver _

theorem Steady.abandonBoard (h : Steady s0 s) (k : Nat) : Steady s0 (s.abandonBoard k) := h.toFlashing _ _

theorem Steady.abandon (h : Steady s0 s) (l : Fin 2) (k : Nat) : Steady s0 (s.abandon l k) :=
  (h.abandonBoard _).laneOver _

theorem Steady.judge (h : Steady s0 s) (l : Fin 2) (k : Nat) (f : State → State) (hf : Steady s0 (f s)) :
    Steady s0 (s.judge l k f) := by
  unfold State.judge; split
  · exact h
  · split
    · exact h.abandon _ _
    · split
      · exact h.stopLane _
      · exact hf

theorem Steady.startBoard (h : Steady s0 s) (l : Fin 2) (k : Nat) : Steady s0 (s.startBoard l k) :=
  ((h.modBoard _ _).setStatus _ _).modLane _ _ fun _ => ⟨rfl, rfl, rfl, rfl⟩

theorem Steady.startTest (h : Steady s0 s) (l : Fin 2) : Steady s0 (s.startTest l) := by
  unfold State.startTest; split
  · exact h
  · split
    · split <;> first | exact h | exact h.startBoard _ _ | exact h.post _
    · exact h

theorem Steady.departDisarmed (h : Steady s0 s) (k : Nat) : Steady s0 (s.departDisarmed k) := by
  unfold State.departDisarmed; split
  · exact h
  · split
    · split
      · exact h.abandonBoard _
      · split
        · exact h
        · exact (h.modBoard _ _).startTest _
    · exact h

theorem Steady.afterAdvance (h : Steady s0 s) (l : Fin 2) (k : Nat) (f : State → State) (hf : Steady s0 (f s)) :
    Steady s0 (s.afterAdvance l k f) := by
  unfold State.afterAdvance; split
  · exact h.terminal _ _
  · exact hf

theorem Steady.lastUse (h : Steady s0 s) (st : Stroke) : Steady s0 (s.lastUse st) := by
  unfold State.lastUse; split
  · exact h.autoPurge _
  · exact h

theorem Steady.fragmented (h : Steady s0 s) (l : Fin 2) (k : Nat) (st : Stroke) : Steady s0 (s.fragmented l k st) :=
  (h.raiseCore _ _ _).judge _ _ _
    ((((h.raiseCore _ _ _).lastUse _).advance _).afterAdvance _ _ _ (((h.raiseCore _ _ _).lastUse _).advance _))

theorem Steady.skipStroke (h : Steady s0 s) (l : Fin 2) (k : Nat) (st : Stroke) (cols : List (Nat × List Cell)) :
    Steady s0 (s.skipStroke l k st cols) := by
  have g := (((h.countHits cols).modBoardQuiet k fun b => { b with strokesDone := b.strokesDone + 1 }).lastUse st).advance l
  exact g.afterAdvance _ _ _ (g.judge _ _ _ g)

theorem Steady.sendStroke (h : Steady s0 s) (l : Fin 2) (k : Nat) (b : Board) (st : Stroke)
    (cols : List (Nat × List Cell)) : Steady s0 (s.sendStroke l k b st cols) :=
  (((h.countHits _).modBoardQuiet _ _).modUnit _ _).sendOp _ _ _ _ _ _

theorem Steady.addGated (h : Steady s0 s) (k : Nat) (b : Board) (n : Nat) : Steady s0 (s.addGated k b n) := by
  unfold State.addGated; dsimp only; split
  · exact (h.modBoardQuiet _ _).raiseCore _ _ _
  · exact h.modBoardQuiet _ _

theorem Steady.resolveStroke (h : Steady s0 s) (l : Fin 2) (k : Nat) (b : Board) (st : Stroke) :
    Steady s0 (s.resolveStroke l k b st) := by
  unfold State.resolveStroke; dsimp only; split
  · exact h.fragmented _ _ _
  · refine (h.addGated _ _ _).judge _ _ _ ?_
    split
    · exact (h.addGated _ _ _).skipStroke _ _ _ _
    · exact (h.addGated _ _ _).sendStroke _ _ _ _ _

theorem Steady.awaitApp (h : Steady s0 s) (l : Fin 2) (st : Stroke) : Steady s0 (s.awaitApp l st) := by
  unfold State.awaitApp; dsimp only; split
  · exact ((h.setStatus _ _).modUnit _ _).autoStep _
  · exact h.setStatus _ _

theorem Steady.takeStroke (h : Steady s0 s) (l : Fin 2) : Steady s0 (s.takeStroke l) := by
  unfold State.takeStroke; split
  · exact h
  · dsimp only; split
    · exact h.resolveStroke _ _ _ _
    · exact h.awaitApp _ _

theorem Steady.wake (h : Steady s0 s) (l : Fin 2) : Steady s0 (s.wake l) := by
  unfold State.wake; split
  · dsimp only; split
    · exact (h.clearNeed _).setStatus _ _
    · exact h.autoStep _
  · exact h

theorem Steady.serve (h : Steady s0 s) (n : Nat) (l : Fin 2) : Steady s0 (s.serve n l) := by
  induction n generalizing s with
  | zero => exact h
  | succ n ih =>
    have hw := h.wake l
    unfold State.serve; dsimp only; split
    · exact hw
    · split
      · exact hw.sendWaiting _ _
      · have hg := hw.grantDecision
        split
        · exact hg
        · split
          · exact hg.sendWaiting _ _
          · split
            · exact ih (hg.takeStroke _)
            · split
              · exact hg.sendSpit _ _
              · exact hg

theorem Steady.serveLane (h : Steady s0 s) (l : Fin 2) : Steady s0 (s.serveLane l) := h.serve _ _

/-! ## Reports and the close -/

theorem Steady.react (h : Steady s0 s) (k : Nat) (w : Bool) : Steady s0 (s.react k w) := by
  unfold State.react; split
  · exact h
  · split
    · exact h
    · unfold State.reactAtSpray; split
      · exact h.toFlashing _ _
      · split
        · exact h.startTest _
        · exact h
    · unfold State.reactSpraying
      repeat' split
      all_goals first
        | exact h
        | exact h.departDisarmed _
        | exact h.abandon _ _
        | exact h.stopLane _
        | exact h.setStatus _ _
    all_goals first
      | exact h
      | (unfold State.reactBuffered; dsimp only
         have g := h.leaveReady k
         repeat' split
         all_goals first
           | exact g
           | exact g.withdraw _
           | exact g.testReady _
           | exact (g.withdraw _).testReady _)

theorem Steady.raise (h : Steady s0 s) (n k : Nat) : Steady s0 (s.raise n k) := (h.raiseCore _ _ _).react _ _

theorem Steady.drainEnd (h : Steady s0 s) (a : State) : Steady s0 (s.drainEnd a) := by
  unfold State.drainEnd; split
  · exact (h.setMode _ _).post _
  · exact h

/-- The close of a step. -/
theorem Steady.settle (h : Steady s0 s) (p : Bool) (a : State) : Steady s0 (s.settle p a) := by
  have g := ((h.serveLane 0).serveLane 1).drainEnd a
  unfold State.settle; dsimp only; split
  · exact g.decideShuttle
  · exact g

end Sys2Proof.Machine
end

