-- ==== Sys2Proof/Tests/Slice0.lean ====
section
/-! SUPPORT. Tests: one ill-formed term for each check of Instr.wf, the worked examples of the spec, and for each statement
with hypotheses a state and operands that meet them all (each theorem test_witness_<Name> applies the statement, given as
a hypothesis, at that state). -/

open Sys2Proof Sys2Proof.Machine

namespace Sys2Proof.Tests

/-! ## Ill-formed commands -/

def entryFields : EntryFields := ⟨1, 7, 0x3F, 0, 224, 0x3F8, 96, 0x3F8, 1, 3, 0⟩
def strokeFields : StrokeFields := ⟨0, 1, 0, 100, 200, 239, 2, 12, 0⟩
def classFields : ClassFields := ⟨1, 1, some ⟨0, 1, 5⟩, none, 1#16, 0, 10, 9, 1, 60, 500, 1⟩
def materialFields : MaterialFields := ⟨1, 1000, 1000, 30, 10, 5, 60, 2000, (List.range 8).map fun k => (100 * k, 40 * k)⟩

theorem test_wf_accepts : (Instr.classWrite 1 7 classFields).wf = true ∧ (Instr.materialWrite 1 0 materialFields).wf = true ∧
    (Instr.ruleWrite 1 1023 entryFields).wf = true ∧ (Instr.strokeLoad 1 0 511 [strokeFields]).wf = true := by decide
theorem test_wf_one_byte : (Instr.retire 1 256).wf = false := by decide
theorem test_wf_two_bytes : (Instr.criterionRead 1 65536).wf = false := by decide
theorem test_wf_four_bytes : (Instr.historyRead 1 4294967296 1).wf = false := by decide
theorem test_wf_class_slot : (Instr.classWrite 1 7 { classFields with slot1 := some ⟨0, 65536, 5⟩ }).wf = false := by decide
theorem test_wf_class_field : (Instr.classWrite 1 7 { classFields with flowCap := 256 }).wf = false := by decide
theorem test_wf_points : (Instr.materialWrite 1 0 { materialFields with points := [(0, 0)] }).wf = false := by decide
theorem test_wf_material_field : (Instr.materialWrite 1 0 { materialFields with primeMs := 65536 }).wf = false := by decide
theorem test_wf_entry : (Instr.ruleWrite 1 0 { entryFields with site := 256 }).wf = false := by decide
theorem test_wf_fill : (Instr.ruleFill 1 0 65536 entryFields).wf = false := by decide
theorem test_wf_stroke : (Instr.strokeLoad 1 0 0 [{ strokeFields with swath := 256 }]).wf = false := by decide
theorem test_wf_stroke_count : (Instr.strokeLoad 1 0 0 (List.replicate 86 strokeFields)).wf = false := by decide
theorem test_wf_criterion : (Instr.criterionWrite 1 0 ⟨256, 0, 0, 0, 0, 8⟩).wf = false := by decide
theorem test_wf_route : (Instr.routeWrite 1 0 ⟨0, 256, 0, 0⟩).wf = false := by decide
theorem test_wf_application : (Instr.lineSet 1 (.application 1 256 1 10)).wf = false := by decide
theorem test_wf_oven : (Instr.lineSet 1 (.oven 1 2 3 65536 5)).wf = false := by decide
theorem test_wf_group : (Instr.lineSet 1 (.other 1)).wf = false := by decide
theorem test_wf_field_link : (Instr.fieldLinkFrameDiscard .message []).wf = false := by decide
theorem test_wf_tag : (Instr.announce 1 0 (List.replicate 25 0x41#8) 1 0).wf = false := by decide

/-! ## Frames (11 11.7) -/

/-- The LINE_STATUS frame of 11.7, byte for byte. -/
theorem test_frame_line_status :
    ((requestFrameOf (.lineStatus 7)).map Frame.bytes) = some [0xA5, 0x00, 0x00, 0x01, 0x07, 0x16, 0xC7] := by decide +kernel
theorem test_receive_line_status :
    receive false [0xA5, 0x00, 0x00, 0x01, 0x07, 0x16, 0xC7] = ([⟨0x01, 0x07, []⟩], []) := by decide +kernel
/-- 11.7: with its CRC received as 17h C7h the frame is discarded. -/
theorem test_receive_wrong_crc : (receive false [0xA5, 0x00, 0x00, 0x01, 0x07, 0x17, 0xC7]).1 = [] := by decide +kernel
/-- 11 R174: a length of 1025 discards the frame at once. -/
theorem test_receive_long : receive false [0xA5, 0x01, 0x04, 0x01] = ([], []) := by decide
/-- 11.7: the reply to RULE_FILL is of kind 92h. -/
theorem test_reply_kind :
    (({ line := State.reset.line, tracker := State.reset.tracker, link := State.reset.link, pending := [], clock := 0,
        notices := [], recipe := State.reset.recipe, apps := State.reset.apps, keepOut := State.reset.keepOut,
        path := State.reset.path, criteria := [], oven := State.reset.oven, hold := State.reset.hold } :
      State).refuse ⟨5, true⟩ 0x12 .wrongMode).link.replies.map Reply.frame = [⟨0x92, 5, [4]⟩] := by decide
/-- 11 R177: the NOTICE frame of lane 1. -/
theorem test_notice_frame : (Notice.lane 1).frame = ⟨0xFF, 0, [2, 1]⟩ := by decide
/-- 11 R178: a rule write, its fields read in place. -/
theorem test_read_rule_write : readRequest 0x10 9 [0x31, 0x00, 1, 7, 0x3F, 0, 224, 0, 0xF8, 3, 96, 0, 0xF8, 3, 1, 3, 0] =
    some (.ruleWrite 9 49 entryFields) := by decide

/-! ## Doses (08 8.10) -/

def acrylic : MaterialRecord := ⟨true, 1000, 1000, 30, 10, 5, 60, 1250,
  [(400, 0), (600, 16), (700, 48), (800, 128), (900, 256), (1000, 512), (1100, 1024), (1200, 1536)]⟩

theorem test_rate_between : acrylic.rate 935 = 345 := by decide
theorem test_rate_ends : acrylic.rate 350 = 0 ∧ acrylic.rate 1200 = 1536 ∧ acrylic.rate 3000 = 1536 := by decide
theorem test_rate_falling : ({ acrylic with points := [(1000, 512), (1100, 500)] } : MaterialRecord).rate 1035 = 508 := by
  decide
theorem test_credit : (Accumulator.mk 1 0 0 false).credit 345 1000 = ⟨1, 1347, 168, false⟩ ∧
    (Accumulator.mk 1 1347 168 false).credit 345 1000 = ⟨1, 2695, 80, false⟩ := by decide
theorem test_credit_saturates : (Accumulator.mk 1 16777000 0 false).credit 1536 1000 = ⟨1, 16777215, 0, true⟩ ∧
    (Accumulator.mk 1 16777215 0 true).credit 1 100 = ⟨1, 16777215, 0, true⟩ := by decide
/-- R142 by hand: a dose that comes to the limit without passing it still carries its remainder, until one would pass. -/
theorem test_credit_exact : (Accumulator.mk 1 16777214 0 false).credit 256 1 = ⟨1, 16777215, 0, false⟩ ∧
    (Accumulator.mk 1 16777215 0 false).credit 1 100 = ⟨1, 16777215, 100, false⟩ ∧
    (Accumulator.mk 1 16777215 100 false).credit 1 200 = ⟨1, 16777215, 0, true⟩ := by decide
theorem test_credit_time : creditTime 1006500 1002000 = (2000, true) ∧ creditTime 1001000 1000000 = (1000, false) := by
  decide

/-! ## Small states -/

def class1 : ClassRecord := ⟨true, 1, some ⟨0, 1, 5⟩, none, 1#16, false, 10, 9, 1, 60, 500, true, 1⟩
def mat0 : MaterialRecord :=
  ⟨true, 1000, 1000, 30, 10, 5, 60, 2000, [(0, 0), (1, 1), (2, 2), (3, 3), (4, 4), (5, 5), (6, 6), (7, 7)]⟩

/-- A board of class 1 in lane 0. -/
def boardAt (life : LifeState) (loc : Location) : Board := {
  tag := [0x41#8], cls := 1, lane := 0, side := .top, pass := 0, life := life, loc := loc, announced := 0, mark := none,
  strokesDone := 0, gated := 0, used := 1#8, sprayEnd := none, flowClamped := false, interrupted := false,
  disarmed := false, sites := [(1, .unread)], maskWait := none, findings := [], overflow := 0, kindsSeen := 0#8,
  tallies := [], inspectDone := false, flashReady := none, openDeadline := none, ovenEntry := none, zone := none,
  lastCredit := none, verdict := none, accs := [], doseGap := false, overTemp := false, pendingSet := 0#16,
  inService := 0#16, flashArmed := false, openArmed := false, overdueArmed := false }

/-- A line in a mode, with class 1 and material 0 and nothing else. -/
def lineIn (m : LineMode) : State :=
  { State.reset with
    line := { State.reset.line with mode := m }
    recipe := { classes := [(1, class1)], materials := [(0, mat0)] } }

/-- The lane queues with one given for lane 0. -/
def queuesOf (q : List Nat) : Vector (List Nat) 2 := #v[q, []]

/-- The line with one board in slot 0. -/
def withBoard (m : LineMode) (b : Board) (queue : List Nat) : State :=
  { lineIn m with tracker := { State.reset.tracker with boards := [(0, some b)], queues := queuesOf queue } }

theorem withBoard_board (m : LineMode) (b : Board) (q : List Nat) (k : Nat) :
    (withBoard m b q).board k = if k = 0 then some b else none := rfl

/-- A queued board; one at the spray position, waiting, sprayed or flashing; one in bay 0; one in the oven. -/
def queued (m : LineMode) : State := withBoard m (boardAt .queued .laneQueue) [0]
def waiting (m : LineMode) : State := withBoard m (boardAt .atSpray .sprayPos) [0]
def sprayed (m : LineMode) : State := withBoard m (boardAt .spraying .sprayPos) [0]
def inBay (m : LineMode) (life : LifeState) : State :=
  let s := withBoard m (boardAt life (.bay 0)) []
  { s with oven := { s.oven with bays := s.oven.bays.set 0 (.occupied 0) } }
def inOven (m : LineMode) : State :=
  let s := withBoard m { boardAt .inOven .oven with
    ovenEntry := some 0, lastCredit := some 0, zone := some 1, accs := [⟨0, 6000, 0, false⟩], overdueArmed := true } []
  { s with oven := { s.oven with occupancy := [0] } }

/-! ## Verdicts (08 8.10) -/

def class7 : ClassRecord :=
  { class1 with count := 2, slot1 := some ⟨1, 900, 2400⟩, slot2 := some ⟨5, 600, 1800⟩ }

def verdictOfDoses (gap : Bool) (accs : List (Nat × Nat)) : Verdict :=
  ({ boardAt .inOven .oven with doseGap := gap, accs := accs.map fun p => ⟨p.1, p.2, 0, false⟩ } : Board).exitVerdict class7

theorem test_verdicts :
    verdictOfDoses false [(1, 1294000), (5, 650000)] = .cured ∧ verdictOfDoses false [(1, 1294000), (5, 590000)] = .undercure ∧
    verdictOfDoses true [(1, 1294000), (5, 590000)] = .doseUncertain ∧
    verdictOfDoses true [(1, 2400001), (5, 590000)] = .overcure ∧ verdictOfDoses true [(1, 2400000), (5, 600000)] = .cured ∧
    verdictOfDoses false [(1, 880000)] = .undercure := by decide

/-! ## Resolving one stroke (05 5.9) -/

def psu : Board := { boardAt .spraying .sprayPos with cls := 7, sites := [(3, .absent)] }
def stroke47 : Stroke := ⟨0, 1, .x, 100, 200, 239, 2, 12, false⟩
def table59 : State :=
  { lineIn .run with keepOut := { State.reset.keepOut with entries := [
    (40, { resetEntry with enabled := true, clsValue := 7, clsCare := 0x3F, side := .top, xValue := 224, xCare := 0x3F8,
                           yValue := 96, yCare := 0x3F8, rule := .keepOut, hits := 12 }),
    (52, { resetEntry with enabled := true, clsValue := 7, clsCare := 0x3F, side := .either, xValue := 232,
                           xCare := 0x3F8, yValue := 96, yCare := 0x3E0, rule := .masked, site := 3, hits := 9 })] } }

theorem test_stroke_runs : openRuns (table59.resolve psu stroke47) = [(200, 223)] := by decide
theorem test_stroke_closed : closedColumns (table59.resolve psu stroke47) = 16 := by decide
theorem test_stroke_hits : ((table59.countHits (table59.resolve psu stroke47)).entry 40).hits = 13 ∧
    ((table59.countHits (table59.resolve psu stroke47)).entry 52).hits = 10 := by decide
/-- 05 5.9: with site 3 PRESENT the columns 232 to 239 are open again. -/
theorem test_stroke_present :
    openRuns (table59.resolve { psu with sites := [(3, .present)] } stroke47) = [(200, 223), (232, 239)] := by decide

/-! ## A take (09 9.10) -/

def held910 : State :=
  { lineIn .run with tracker := { State.reset.tracker with boards := [
    (1, some { boardAt .queued .laneQueue with pendingSet := 1#16 }),
    (2, some { boardAt .flashing (.bay 1) with pendingSet := 0x200#16 }),
    (3, some { boardAt .spraying .sprayPos with pendingSet := 2#16 }),
    (6, some { boardAt .queued .laneQueue with pendingSet := 1#16 })] } }

theorem test_take_first : held910.takeChoice.map (fun p => (p.1, p.2)) = some (1, 0) := by decide

/-! ## An admission contest (07 7.8) -/

def contest (marked : Option Mark) : State :=
  let b := fun (l : Fin 2) (life : LifeState) (n : Fin 8) (spray : Nat) (dl : Option Nat) => ({
    boardAt life (.bay n) with lane := l, sprayEnd := some spray, openDeadline := dl } : Board)
  let s : State := { lineIn .run with clock := 1000000, tracker := { State.reset.tracker with boards := [
    (8, some (b 0 .ovenReady 0 100000 (some 1300000))), (9, some (b 1 .ovenReady 1 100000 (some 1300000))),
    (10, some (b 0 .ovenReady 2 120000 (some 1250000))),
    (11, some { b 1 .flashing 3 90000 none with mark := marked })] } }
  { s with oven := { s.oven with
    lastEntered := 0, entryStart := [⟨960000, false⟩, ⟨970000, false⟩],
    bays := #v[.occupied 8, .occupied 9, .occupied 10, .occupied 11, .empty, .empty, .empty, .empty],
    zones := Vector.replicate 4 ⟨935, some 999000, false, some 1002000⟩ } }

theorem test_contest_divert : (contest (some .rework)).decideShuttle.oven.shuttle =
    some ⟨.divert, 11, 3, 1000000, 1020000⟩ := by decide
theorem test_contest_admit : (contest none).decideShuttle.oven.shuttle =
    some ⟨.admission, 10, 2, 1000000, 1020000⟩ := by decide

/-! ## Witnesses

Each theorem applies a statement at one state and its operands, so that every hypothesis of it is met there; what it
concludes is only that the statement then speaks. -/

/-- The command answers a next state. -/
abbrev Answers (i : Instr) (s : State) : Prop := ∃ t, exec i s = .next t

/-! ### Boards -/

theorem test_witness_Announce_mode (h : Obligations.Announce) : Answers (.announce 1 0 [0x42] 1 0) (lineIn .drain) :=
  ⟨_, h.1 1 0 [0x42] 1 0 (lineIn .drain) .wrongMode (by decide)⟩
theorem test_witness_Announce_lane (h : Obligations.Announce) : Answers (.announce 1 2 [0x42] 1 0) (queued .config) :=
  ⟨_, h.1 1 2 [0x42] 1 0 (queued .config) .outOfRange (by decide)⟩
theorem test_witness_Announce_room (h : Obligations.Announce) :
    Answers (.announce 1 0 [0x42] 1 0) (withBoard .run (boardAt .queued .laneQueue) [0, 1, 2, 3]) :=
  ⟨_, h.1 1 0 [0x42] 1 0 (withBoard .run (boardAt .queued .laneQueue) [0, 1, 2, 3]) .noRoom (by decide)⟩
theorem test_witness_Announce_creates (h : Obligations.Announce) : Answers (.announce 1 1 [0x42] 1 1) (queued .config) :=
  ⟨_, h.2 1 1 [0x42] 1 1 .bottom 1 0 (queued .config) (by decide) (by decide) (by decide) (by decide) (by decide) (by decide)
    (by decide) (by decide)
    (by intro k b _ hb; rw [queued, withBoard_board] at hb; split at hb <;> simp_all [boardAt]; subst hb; simp)
    (by simp [State.lastOf, queued, withBoard, lineIn, State.reset, State.powerOn])
    (by decide) (by decide) (by decide) (by decide) (by decide)⟩

theorem empty_board (m : LineMode) (k : Nat) : (lineIn m).board k = none := rfl

theorem no_sprayPos (m : LineMode) (b : Board) (q : List Nat) (l : Fin 2) (hb : b.loc ≠ .sprayPos) :
    (withBoard m b q).sprayEmpty l := by
  intro k x _ hx; rw [withBoard_board] at hx; split at hx <;> simp_all

theorem at_sprayPos (m : LineMode) (b : Board) (q : List Nat) (hl : b.lane = 0) (hb : b.loc = .sprayPos) :
    (withBoard m b q).atSprayPos 0 0 b :=
  ⟨by decide, rfl, hl, hb, by intro k _ hk; omega⟩

theorem not_sprayEmpty (m : LineMode) (b : Board) (q : List Nat) (hl : b.lane = 0) (hb : b.loc = .sprayPos) :
    ¬ (withBoard m b q).sprayEmpty 0 := fun h => h 0 b (by decide) rfl hl hb

theorem test_witness_LaneArrive_discarded (h : Obligations.LaneSensors) : Answers (.laneArrive 1) State.reset :=
  ⟨_, (h.1 1 State.reset).1 (by decide)⟩
theorem test_witness_LaneArrive_taken (h : Obligations.LaneSensors) : Answers (.laneArrive 0) (waiting .halted) :=
  ⟨_, (h.1 0 (waiting .halted)).2.1 (by decide) (not_sprayEmpty _ _ _ rfl rfl)⟩
theorem test_witness_LaneArrive_none (h : Obligations.LaneSensors) : Answers (.laneArrive 0) (lineIn .run) :=
  ⟨_, (h.1 0 (lineIn .run)).2.2.1 (by decide) (by intro k b hk; simp [State.queueOf, lineIn, State.reset, State.powerOn] at hk)⟩
theorem test_witness_LaneArrive_oldest (h : Obligations.LaneSensors) : ∃ t, exec (.laneArrive 0) (queued .run) = t :=
  ⟨_, (h.1 0 (queued .run)).2.2.2 0 (boardAt .queued .laneQueue) (by decide) (no_sprayPos _ _ _ _ (by decide))
    ⟨[], [], by decide, by decide, by decide, by simp⟩⟩
theorem test_witness_LaneClear_discarded (h : Obligations.LaneSensors) : Answers (.laneClear 0) State.reset :=
  ⟨_, (h.2.1 0 State.reset).1 (by decide)⟩
theorem test_witness_LaneClear_empty (h : Obligations.LaneSensors) : Answers (.laneClear 0) (queued .run) :=
  ⟨_, (h.2.1 0 (queued .run)).2.1 (by decide) (no_sprayPos _ _ _ _ (by decide))⟩
theorem test_witness_LaneClear_unreserved (h : Obligations.LaneSensors) : Answers (.laneClear 0) (waiting .run) :=
  ⟨_, ((h.2.1 0 (waiting .run)).2.2 0 (boardAt .atSpray .sprayPos) (by decide) (at_sprayPos _ _ _ rfl rfl)).1 (by decide)⟩
/-- A flashing board at the spray position with bay 7 reserved for it. -/
def leaving : State :=
  let s := withBoard .run (boardAt .flashing .sprayPos) [0]
  { s with oven := { s.oven with bays := s.oven.bays.set 7 (.reserved 0) } }
theorem test_witness_LaneClear_reserved (h : Obligations.LaneSensors) : Answers (.laneClear 0) leaving :=
  ⟨_, ((h.2.1 0 leaving).2.2 0 (boardAt .flashing .sprayPos) (by decide)
    ⟨by decide, by decide, rfl, rfl, by intro k _ hk; omega⟩).2 7 (by decide) (by decide)⟩

/-- A board at the spray position, every bay taken; and one that waits for a bay. -/
def crowded : State := { leaving with oven := { leaving.oven with bays := Vector.replicate 8 (.occupied 5) } }
def awaited : State := { crowded with oven := { crowded.oven with waitList := [0] } }
theorem test_witness_BayRequest (h : Obligations.LaneSensors) :
    (waiting .run).requestBay 0 ≠ waiting .run ∧ (crowded.requestBay 0).oven.waitList = [0] :=
  ⟨fun e => absurd (((h.2.2 0 _ (waiting .run) rfl).1 0 (by decide) (by decide)).symm.trans e) (by decide),
    congrArg (fun u : State => u.oven.waitList) ((h.2.2 0 _ crowded rfl).2.1 (by decide))⟩
theorem test_witness_BayFreed (h : Obligations.LaneSensors) :
    (crowded.freeBay 7).bay 7 = .empty ∧ (awaited.freeBay 7).oven.gates = #v[true, false] :=
  ⟨congrArg (fun u : State => u.bay 7) (((h.2.2 0 _ crowded rfl).2.2 7).1 (by decide)),
    congrArg (fun u : State => u.oven.gates) (((h.2.2 0 _ awaited rfl).2.2 7).2 [] (by decide))⟩
theorem test_witness_Retirement_step (h : Obligations.Retirement) :
    ((inBay .run .flashing).retire true 0 .removed).bay 0 = .empty :=
  ((h.1 true 0 .removed (inBay .run .flashing) (boardAt .flashing (.bay 0)) (by decide)).2.2.2.2.2.2.2.2.2.2.1 0 (by decide)
    (by decide)).2.2.1 (by decide) |>.1
theorem test_witness_Retirement_free (h : Obligations.Retirement) :
    ((queued .run).retire false 0 .scrap).oven = (queued .run).oven :=
  (h.1 false 0 .scrap (queued .run) (boardAt .queued .laneQueue) (by decide)).2.2.2.2.2.2.2.2.2.1 (by decide)
theorem test_witness_Retirement_refused (h : Obligations.Retirement) : Answers (.retire 1 0) (sprayed .run) :=
  ⟨_, (h.2 1 0 (sprayed .run)).1 .wrongState (by decide)⟩
theorem test_witness_Retirement_slot (h : Obligations.Retirement) : Answers (.retire 1 32) (sprayed .run) :=
  ⟨_, (h.2 1 32 (sprayed .run)).1 .outOfRange (by decide)⟩
theorem test_witness_Retirement_taken (h : Obligations.Retirement) : Answers (.retire 1 0) (waiting .halted) :=
  ⟨_, (h.2 1 0 (waiting .halted)).2 (boardAt .atSpray .sprayPos) (by decide) (by decide) (by decide) (by decide)⟩

/-- A flashing board in bay 0 whose bay the board of slot 1 waits for. -/
def queuedFor : State :=
  let s := inBay .run .flashing
  { s with
    tracker := { s.tracker with boards := s.tracker.boards ++ [(1, some { boardAt .flashing .sprayPos with lane := 1 })] }
    oven := { s.oven with waitList := [1] } }
theorem test_witness_Retirement_handed_on (h : Obligations.Retirement) :
    (queuedFor.retire true 0 .removed).bay 0 = .reserved 1 ∧
    (queuedFor.retire true 0 .removed).oven.gates = #v[false, true] :=
  have w := ((h.1 true 0 .removed queuedFor (boardAt .flashing (.bay 0)) (by decide)).2.2.2.2.2.2.2.2.2.2.1 0 (by decide)
    (by decide)).2.2.2 1 [] (by decide)
  ⟨w.1, w.2 { boardAt .flashing .sprayPos with lane := 1 } rfl⟩
/-- A history of one entry, sequence number 6. -/
def recorded : State :=
  { lineIn .run with tracker := { State.reset.tracker with
      history := [⟨[0x41], 1, 0, .cured, 0#16, 5, 6#32⟩], nextSeq := 7#32 } }
theorem test_witness_HistoryRead_modes (h : Obligations.BoardReads) :
    Answers (.historyRead 1 6 1) State.reset ∧ Answers (.historyRead 1 6 17) recorded ∧ Answers (.historyRead 1 6 16) recorded :=
  ⟨⟨_, (h.2.2 1 6 1 State.reset).1 (by decide)⟩, ⟨_, (h.2.2 1 6 17 recorded).2.1 (by decide) (by decide)⟩,
    ⟨_, (h.2.2 1 6 16 recorded).2.2.1 (by decide) (by decide) (by decide)⟩⟩
theorem test_witness_HistoryRead_order (h : Obligations.BoardReads) : (6#32 : BitVec 32).toNat = 6 :=
  have := (h.2.2 1 6 1 recorded).2.2.2 ⟨by decide, by
    intro j e hj
    match j, hj with
    | 0, hj => simp only [recorded, List.getElem?_cons_zero, Option.some.injEq] at hj; subst hj; decide
    | j + 1, hj => simp [recorded] at hj⟩ (by decide) (by decide) (by decide)
  rfl
theorem test_witness_BoardList (h : Obligations.BoardReads) : Answers (.boardList 1 0xFF 5) State.reset ∧
    Answers (.boardList 1 2 5) (queued .run) ∧ Answers (.boardList 1 0xFF 5) (queued .run) :=
  ⟨⟨_, (h.2.1 1 0xFF 5 State.reset).1 (by decide)⟩, ⟨_, (h.2.1 1 2 5 (queued .run)).2.1 (by decide) (by decide)⟩,
    ⟨_, (h.2.1 1 0xFF 5 (queued .run)).2.2 (by decide) (by decide) (by decide)⟩⟩

/-! ### Applicators -/

/-- Applicator 0 in a state with material 0. -/
def withUnit (m : LineMode) (st : AppState) (mat : Option Nat) : State :=
  (lineIn m).setUnit 0 { resetApplicator with state := st, material := mat, debt := 4, keepWet := some 30000 }

theorem test_witness_Applicators_refused (h : Obligations.ApplicatorRequests) :
    Answers (.prime 1 6 0) (lineIn .run) ∧ Answers (.purge 1 0) (withUnit .run .parked none) ∧
    Answers (.park 1 0) (lineIn .halted) ∧ Answers (.unpark 1 0) (withUnit .run .primed (some 0)) :=
  ⟨⟨_, (h.1 1 6 0 (lineIn .run)).1 .outOfRange (by decide)⟩,
    ⟨_, (h.1 1 0 0 (withUnit .run .parked none)).2.1 .wrongState (by decide)⟩,
    ⟨_, (h.2 1 0 (lineIn .halted)).1 .wrongMode (by decide)⟩,
    ⟨_, (h.2 1 0 (withUnit .run .primed (some 0))).2.1 .wrongState (by decide)⟩⟩
theorem test_witness_Applicators_prime (h : Obligations.ApplicatorRequests) :
    Answers (.prime 1 0 0) (lineIn .run) ∧ Answers (.prime 1 0 0) (withUnit .run .primed (some 0)) :=
  ⟨⟨_, (((h.1 1 0 0 (lineIn .run)).2.2 0 (by decide) (by decide) (by decide)).1 (by decide) (by decide)).1 (by decide)⟩,
    ⟨_, (((h.1 1 0 0 (withUnit .run .primed (some 0))).2.2 0 (by decide) (by decide) (by decide)).1 (by decide) (by decide)).2
      (by decide) (by decide)⟩⟩
theorem test_witness_Applicators_purge (h : Obligations.ApplicatorRequests) :
    Answers (.purge 1 0) (lineIn .run) ∧ Answers (.purge 1 0) (withUnit .run .fouled none) :=
  ⟨⟨_, ((h.1 1 0 0 (lineIn .run)).2.2 0 (by decide) (by decide) (by decide)).2.1 (by decide)⟩,
    ⟨_, ((h.1 1 0 0 (withUnit .run .fouled none)).2.2 0 (by decide) (by decide) (by decide)).2.2 (by decide)⟩⟩
theorem test_witness_Applicators_park (h : Obligations.ApplicatorRequests) :
    Answers (.park 1 0) (lineIn .run) ∧ Answers (.park 1 0) (withUnit .run .parked none) ∧
    Answers (.unpark 1 0) (withUnit .run .parked none) ∧ Answers (.unpark 1 0) (withUnit .run .uncapping none) :=
  ⟨⟨_, ((h.2 1 0 (lineIn .run)).2.2 0 (by decide) (by decide) (by decide)).1 (by decide)⟩,
    ⟨_, ((h.2 1 0 (withUnit .run .parked none)).2.2 0 (by decide) (by decide) (by decide)).2.1 (by decide)⟩,
    ⟨_, ((h.2 1 0 (withUnit .run .parked none)).2.2 0 (by decide) (by decide) (by decide)).2.2.1 (by decide)⟩,
    ⟨_, ((h.2 1 0 (withUnit .run .uncapping none)).2.2 0 (by decide) (by decide) (by decide)).2.2.2 (by decide)⟩⟩

/-- An operation in flight on head 0. -/
def withOp (k : OpKind) (stroke : Option StrokeRef) (s : State) : State :=
  s.setLane 0 { resetLane with status := .running, op := some ⟨255, k, 0, 3000, some 3000, stroke⟩ }

theorem test_witness_OperationEnds (h : Obligations.OperationEnds) :
    let s := withOp .spit none (withUnit .run .spitting (some 0))
    Answers (.headDone 0 255) s ∧ Answers (.headFault 0 255 0) s ∧ Answers (.headDeadline 0) s :=
  have w := h 0 255 0 (withOp .spit none (withUnit .run .spitting (some 0))) ⟨255, .spit, 0, 3000, some 3000, none⟩ (by decide)
    (by decide) (by decide)
  ⟨⟨_, (w.1 (by decide) (by decide)).1⟩, ⟨_, (w.1 (by decide) (by decide)).2⟩, ⟨_, w.2 3000 (by decide)⟩⟩

/-- R61, R41 by hand: LINE_RESET keeps parked-wet and the cap time of an uncap in flight, a fault of the uncap ends both. -/
theorem test_parked_wet :
    let r : Applicator := { resetApplicator with state := .uncapping, material := some 0, parkedWet := true, capTime := some 7 }
    let s := withOp .uncap none ((lineIn .config).setUnit 0 r)
    (s.lineReset.unit 0).state = .fouled ∧ (s.lineReset.unit 0).parkedWet = true ∧ (s.lineReset.unit 0).capTime = some 7 ∧
    (s.endUnit .uncap .deadline r).parkedWet = false ∧ (s.endUnit .uncap .deadline r).capTime = none := by decide

theorem test_witness_Timers (h : Obligations.ApplicatorAndEntryTimers) :
    Answers (.keepWetExpiry 0) (lineIn .run) ∧ Answers (.keepWetExpiry 0) (withUnit .run .primed (some 0)) ∧
    Answers .primeWindowAgeOut (lineIn .run) ∧
    Answers .primeWindowAgeOut { lineIn .run with apps := { State.reset.apps with startList := [7, 9] } } :=
  ⟨⟨_, (h.1 0 (lineIn .run)).1 (by decide)⟩, ⟨_, (h.1 0 (withUnit .run .primed (some 0))).2 30000 (by decide)⟩,
    ⟨_, (h.2.1 (lineIn .run)).1 (by decide)⟩, ⟨_, (h.2.1 _).2 7 [9] rfl⟩⟩
def entered : State := { lineIn .run with oven := { State.reset.oven with entryStart := [⟨5, true⟩, ⟨9, false⟩] } }
theorem test_witness_EntryTimers (h : Obligations.ApplicatorAndEntryTimers) :
    Answers .entryWindowExpiry (lineIn .run) ∧ Answers .entryDrop (lineIn .run) ∧ Answers .entryWindowExpiry entered ∧
    Answers .entryDrop entered :=
  ⟨⟨_, (h.2.2 (lineIn .run)).1 (by decide)⟩, ⟨_, (h.2.2 (lineIn .run)).2.1 (by decide)⟩,
    ⟨_, (h.2.2 entered).2.2.1 [⟨5, true⟩] ⟨9, false⟩ [] (by decide) (by decide) (by decide)⟩,
    ⟨_, (h.2.2 entered).2.2.2 ⟨5, true⟩ [⟨9, false⟩] (by decide)⟩⟩

/-- Applicator 0 with a prime request granted where the mode lets it. -/
def requested (m : LineMode) : State :=
  { lineIn m with apps := { State.reset.apps with queue := [⟨0, .prime, some 0, .lineComputer⟩] } }
theorem test_witness_HeadChoices (h : Obligations.HeadChoices) : (requested .halted).grantDecision = requested .halted :=
  (h.1 (requested .halted)).2.2.2.2 (by decide)
theorem test_witness_HeadChoices_grant (h : Obligations.HeadChoices) :
    ∀ e ∈ (requested .run).grantDecision.apps.queue, (requested .run).grantDecision.grantReady (appLane e.app) = false :=
  (h.1 (requested .run)).2.2.2.1 (by decide) (by decide) (by decide)
theorem test_witness_HeadChoices_spit (h : Obligations.HeadChoices) :
    (sprayed .run).spitChoice 0 = none ∧ ((withUnit .run .primed (some 0)).unit 0).state = .primed ∧
    ((lineIn .run).unit 0).debt = 0 :=
  ⟨(h.2.1 (sprayed .run) 0).1 (by decide), ((h.2.1 (withUnit .run .primed (some 0)) 0).2.1 0 (by decide)).2.1,
    have := (h.2.1 (lineIn .run) 0).2.2 (by decide) (by decide); by decide⟩

/-- Applicator 0 with a purge request granted, of the material it holds. -/
def purgeAsked (st : AppState) (mat : Option Nat) : State :=
  let s := withUnit .run st mat
  { s with apps := { s.apps with queue := [⟨0, .purge, mat, .lineComputer⟩] } }
theorem no_line_wait (s : State) (hs : ∀ a, (s.unit a).waiting = none) (l : Fin 2) (a : Fin 6) (w : WaitCommand)
    (_ : appLane a = l) (hw : (s.unit a).waiting = some w) : w.origin = .automatic := by
  rw [hs a] at hw; cases hw
theorem test_witness_HeadChoices_oldest (h : Obligations.HeadChoices) :
    (lineIn .run).grantDecision = lineIn .run ∧ (∃ t, (requested .run).grantDecision = t) ∧
    (∃ t, (purgeAsked .primed (some 0)).grantDecision = t) ∧ ∃ t, (purgeAsked .fouled none).grantDecision = t :=
  ⟨(h.2.2.1 (lineIn .run)).1 (.inr (by intro e he; cases he)),
    ⟨_, ((h.2.2.1 (requested .run)).2 [] _ [] rfl (by intro x hx; cases hx) ⟨by decide, no_line_wait _ (by decide) _⟩
      (by decide) (by decide) (by decide)).1 0 rfl rfl⟩,
    ⟨_, ((h.2.2.1 (purgeAsked .primed (some 0))).2 [] _ [] rfl (by intro x hx; cases hx)
      ⟨by decide, no_line_wait _ (by decide) _⟩ (by decide) (by decide) (by decide)).2.1 0 rfl (by decide)⟩,
    ⟨_, ((h.2.2.1 (purgeAsked .fouled none)).2 [] _ [] rfl (by intro x hx; cases hx)
      ⟨by decide, no_line_wait _ (by decide) _⟩ (by decide) (by decide) (by decide)).2.2 rfl (by decide)⟩⟩
/-- Lane 0 waits for applicator 0. -/
def awaiting (s : State) : State := s.setLane 0 { resetLane with status := .waitApplicator }
theorem test_witness_HeadChoices_wake (h : Obligations.HeadChoices) :
    (lineIn .run).wake 0 = lineIn .run ∧ (((awaiting (withUnit .run .primed (some 0))).wake 0).lane 0).status = .running ∧
    (awaiting (lineIn .run)).wake 0 = (awaiting (lineIn .run)).autoStep 0 :=
  ⟨(h.2.2.2.1 (lineIn .run) 0).1 (by decide),
    congrArg (fun u : State => (u.lane 0).status)
      ((h.2.2.2.1 (awaiting (withUnit .run .primed (some 0))) 0).2.1 (by decide) (by decide)),
    (h.2.2.2.1 (awaiting (lineIn .run)) 0).2.2 (by decide) (by decide)⟩
/-- Applicator 0 with a need of material 1. -/
def needy (st : AppState) (mat : Option Nat) : State :=
  (lineIn .run).setUnit 0 { resetApplicator with state := st, material := mat, need := some 1 }
theorem test_witness_HeadChoices_steps (h : Obligations.HeadChoices) :
    let spitting := withOp .spit none (needy .fouled none)
    let queued := (needy .idleDry none).enqueue ⟨0, .prime, some 1, .automatic⟩
    (lineIn .run).autoStep 0 = lineIn .run ∧ queued.autoStep 0 = queued ∧
    (((needy .parked none).autoStep 0).unit 0).state = .uncapping ∧
    (needy .primed (some 1)).autoStep 0 = needy .primed (some 1) ∧ spitting.autoStep 0 = spitting ∧
    ((needy .fouled none).autoStep 0).apps.queue = [⟨0, .purge, none, .automatic⟩] ∧
    ((needy .idleDry none).autoStep 0).apps.queue = [⟨0, .prime, some 1, .automatic⟩] ∧
    (needy .purging none).autoStep 0 = needy .purging none :=
  have w := fun s => h.2.2.2.2.1 s 0 1
  ⟨(w _).1 rfl, (w _).2.1 rfl (by decide), congrArg (fun u : State => (u.unit 0).state) (((w _).2.2 rfl (by decide)).1 rfl),
    ((w _).2.2 rfl (by decide)).2.1 rfl, ((w _).2.2 rfl (by decide)).2.2.1 rfl ⟨_, rfl, rfl⟩,
    congrArg (fun u : State => u.apps.queue)
      (((w _).2.2 rfl (by decide)).2.2.2.1 rfl (by rintro ⟨o, ho, _⟩; cases ho)),
    congrArg (fun u : State => u.apps.queue) (((w _).2.2 rfl (by decide)).2.2.2.2.1 rfl),
    ((w _).2.2 rfl (by decide)).2.2.2.2.2 (by decide)⟩
/-- Applicator 0 with a waiting command. -/
def commanded (st : AppState) (w : WaitCommand) : State :=
  (lineIn .run).setUnit 0 { resetApplicator with state := st, waiting := some w }
theorem commanded_first (st : AppState) (w : WaitCommand) (c : Fin 6) (x : WaitCommand) (hc : c ≠ 0)
    (hx : ((commanded st w).unit c).waiting = some x) : False := by
  fin_cases c <;> first | exact hc rfl | cases hx
theorem test_witness_HeadChoices_serve (h : Obligations.HeadChoices) :
    (lineIn .halted).serve 1 0 = lineIn .halted ∧
    (((commanded .capping ⟨.cap, .lineComputer, 0, 0⟩).serve 1 0).unit 0).waiting = none ∧
    (requested .run).serve 1 0 = (requested .run).grantDecision ∧
    (((commanded .uncapping ⟨.uncap, .automatic, 0, 0⟩).serve 1 0).unit 0).waiting = none :=
  have w := fun s => h.2.2.2.2.2 s 0 0
  ⟨(w (lineIn .halted)).2.1 (by decide),
    congrArg (fun u : State => (u.unit 0).waiting)
      (((w (commanded .capping ⟨.cap, .lineComputer, 0, 0⟩)).2.2 (by decide) (by decide) (by decide)).1 0 _
        ⟨by decide, rfl, rfl, fun c x _ hc hx _ => (commanded_first _ _ c x hc hx).elim⟩),
    ((w (requested .run)).2.2 (by decide) (by decide) (by decide)).2.1
      (by intro a x _ hx; fin_cases a <;> cases hx) (by decide),
    congrArg (fun u : State => (u.unit 0).waiting)
      ((((w (commanded .uncapping ⟨.uncap, .automatic, 0, 0⟩)).2.2 (by decide) (by decide) (by decide)).2.2
        (by intro a x _ hx; fin_cases a <;> cases hx; decide) (by decide)).1 0 _
        ⟨by decide, rfl, ⟨rfl, rfl⟩, fun c x _ hc hx _ => (commanded_first _ _ c x hc hx).elim⟩)⟩
theorem test_witness_HeadChoices_strokes (h : Obligations.HeadChoices) :
    let s := (sprayed .run).setLane 0 { resetLane with status := .running }
    s.serve 1 0 = s.takeStroke 0 ∧ (((withUnit .run .primed (some 0)).serve 1 0).unit 0).state = .spitting ∧
    (lineIn .run).serve 1 0 = lineIn .run :=
  have quiet := fun (s : State) (hs : ∀ a, (s.unit a).waiting = none) (p : WaitCommand → Prop) (a : Fin 6) (x : WaitCommand)
    (_ : appLane a = 0) (hx : (s.unit a).waiting = some x) (_ : p x) => by rw [hs a] at hx; cases hx
  have w := fun s => h.2.2.2.2.2 s 0 0
  have served := fun s h1 h2 h3 h4 h5 => ((w s).2.2 h1 h2 h3).2.2 (quiet _ h4 _) h5
  ⟨((served _ (by decide) (by decide) (by decide) (by decide) (by decide)).2 (quiet _ (by decide) _)).1 (by decide),
    congrArg (fun u : State => (u.unit 0).state)
      (((served (withUnit .run .primed (some 0)) (by decide) (by decide) (by decide) (by decide) (by decide)).2
        (quiet _ (by decide) _)).2 (by decide) |>.1 0 (by decide)),
    (((served (lineIn .run) (by decide) (by decide) (by decide) (by decide) (by decide)).2 (quiet _ (by decide) _)).2
      (by decide)).2 (by decide)⟩

/-! ### Recipes -/

theorem test_witness_ClassWrite (h : Obligations.ClassWrite) : Answers (.classWrite 1 0 classFields) (lineIn .run) ∧
    Answers (.classWrite 1 48 classFields) (lineIn .run) ∧
    Answers (.classWrite 1 48 { classFields with valid := 0 }) (lineIn .run) :=
  ⟨⟨_, h 1 0 classFields (lineIn .run)⟩,
    ⟨_, (show _ ∧ ∀ a : SlotFields, _ from h 1 48 classFields (lineIn .run)).2 ⟨0, 1, 5⟩ (by decide) (by decide)⟩,
    ⟨_, (show _ ∧ ∀ a : SlotFields, _ from h 1 48 { classFields with valid := 0 } (lineIn .run)).1 (by decide)⟩⟩
theorem test_witness_RecipeReads (h : Obligations.RecipeReads) : Answers (.materialRead 1 0) (withUnit .run .primed (some 0)) :=
  ⟨_, (h 1 0 false true (withUnit .run .primed (some 0)) (by decide)
    (iff_of_true rfl (.inl ⟨0, by decide, by decide, by decide⟩))).2⟩

/-! ### The keep-out table -/

theorem table59_canonical : table59.Canonical :=
  ⟨by decide, by decide, by decide, by decide, by decide, by decide, by decide⟩
theorem lineIn_canonical : (lineIn .run).Canonical :=
  ⟨by decide, by decide, by decide, by decide, by decide, by decide, by decide⟩
theorem above_52 (j : Nat) (hj : 52 < j) : table59.entry j = resetEntry := by
  simp [State.entry, table59, Table.read, show j ≠ 40 by omega, show j ≠ 52 by omega]
theorem test_witness_KeepOutLookup_entry (h : Obligations.KeepOutLookup) :
    (table59.lookup 7 .top 232 96).decider = some 52 := by
  have w := (h table59 7 232 96 .top table59_canonical).1 52 (by decide) (by
    intro j hj hit; rw [above_52 j hj] at hit; exact absurd hit.1 (by decide))
  exact congrArg LookupResult.decider w
theorem test_witness_KeepOutLookup_default (h : Obligations.KeepOutLookup) :
    ((lineIn .run).lookup 1 .top 0 0).decider = none := by
  have w := (h (lineIn .run) 1 0 0 .top lineIn_canonical).2 (fun i hit => nomatch (show false = true from hit.1))
  exact congrArg LookupResult.decider w
theorem test_witness_Cells (h : Obligations.CellsAndStrokes) :
    ((LookupResult.mk (some 3) .masked 16 0).cell { psu with sites := [(16, .present)] } 1).isOpen = true ∧
    ((LookupResult.mk (some 3) .masked 1 0).cell psu 1).isOpen = false ∧
    ((LookupResult.mk none .coat 0 0).cell psu 1).isOpen = true ∧ ((LookupResult.mk none .keepOut 0 0).cell psu 1).isOpen = false ∧
    ((LookupResult.mk (some 3) .materialOnly 0 7).cell psu 7).isOpen = true ∧
    ((LookupResult.mk (some 3) .materialOnly 0 7).cell psu 6).isOpen = false :=
  ⟨congrArg Cell.isOpen ((h.1 (LookupResult.mk (some 3) .masked 16 0) { psu with sites := [(16, .present)] } 1).2.2.1
      (by decide) (by decide)),
    congrArg Cell.isOpen ((h.1 (LookupResult.mk (some 3) .masked 1 0) psu 1).2.2.2.1 (by decide) (by decide)),
    congrArg Cell.isOpen ((h.1 (LookupResult.mk none .coat 0 0) psu 1).1 (by decide)),
    congrArg Cell.isOpen ((h.1 (LookupResult.mk none .keepOut 0 0) psu 1).2.1 (by decide)),
    congrArg Cell.isOpen ((h.1 (LookupResult.mk (some 3) .materialOnly 0 7) psu 7).2.2.2.2.1 (by decide) (by decide)),
    congrArg Cell.isOpen ((h.1 (LookupResult.mk (some 3) .materialOnly 0 7) psu 6).2.2.2.2.2 (by decide) (by decide))⟩
theorem test_witness_Hits (h : Obligations.CellsAndStrokes) :
    ∃ e, (table59.countHits (table59.resolve psu stroke47)).entry 40 = e :=
  ⟨_, h.2.2 table59 (table59.resolve psu stroke47) 40 (by decide)⟩
theorem test_witness_RuleReads (h : Obligations.RuleReads) :
    Answers (.ruleRead 1 0 0) State.reset ∧ Answers (.ruleRead 1 1024 0) table59 ∧ Answers (.ruleRead 1 1023 0xFF) table59 ∧
    Answers (.ruleProbe 1 49 0 0 0) table59 ∧ Answers (.ruleProbe 1 48 1 1023 1023) table59 :=
  ⟨⟨_, ((h 1 0 0 0 0 0 0 State.reset).1 (by decide)).1⟩,
    ⟨_, ((h 1 1024 0 0 0 0 0 table59).2 (by decide)).1 (by decide)⟩,
    ⟨_, ((h 1 1023 0xFF 0 0 0 0 table59).2 (by decide)).2.1 (by decide) (by decide)⟩,
    ⟨_, ((h 1 0 0 49 0 0 0 table59).2 (by decide)).2.2.1 (by decide)⟩,
    ⟨_, ((h 1 0 0 48 1 1023 1023 table59).2 (by decide)).2.2.2 .bottom (by decide) (by decide) (by decide) (by decide)
      (by decide)⟩⟩

/-- A state with an edit in flight of class 7 alone, and one with a board of class 7 being sprayed. -/
def editing (s : State) : State :=
  { s with keepOut := { s.keepOut with edit := some {
      kind := .move, ranges := [(40, 40), (41, 41)], tag := 5, place := true, accepted := 0, affected := 0x40#48, taken := 0,
      steps := [.copy 40 41, .clear 40] } } }
def sprayed7 : State := withBoard .run psu [0]
theorem sprayed7_board (k : Nat) : sprayed7.board k = if k = 0 then some psu else none := rfl
def entryOf7 : KeepOutEntry := { resetEntry with enabled := true, clsValue := 7, clsCare := 0x3F }
def fields7 : EntryFields := ⟨1, 7, 0x3F, 0, 0, 0, 0, 0, 0, 0, 0⟩

theorem affected7 (s : State) (he : s.keepOut.entries = []) (first last c : Nat) (h1 : 1 ≤ c) (h2 : c ≤ 48) :
    (NumSet.has (0x40#48) (c - 1) = true ↔ entryOf7.names c = true ∨
      ∃ k, first ≤ k ∧ k ≤ last ∧ ∃ p ∈ s.keepOut.entries, p.1 = k ∧ p.2.names c = true) := by
  simp only [he, List.not_mem_nil, false_and, exists_const, exists_false, and_false, or_false]
  revert c; decide

theorem test_witness_RuleWriteAndFill_refused (h : Obligations.RuleWriteAndFill) :
    Answers (.ruleWrite 1 0 entryFields) State.reset ∧ Answers (.ruleFill 1 1 1024 entryFields) (lineIn .run) :=
  ⟨⟨_, (h 1 0 0 entryFields 0 State.reset true (by decide)).1 (by decide)⟩,
    ⟨_, (h 1 1 1024 entryFields 0 (lineIn .run) false (by decide)).2.1 (by decide) (by decide)⟩⟩
theorem test_witness_RuleWriteAndFill_in_flight (h : Obligations.RuleWriteAndFill) :
    Answers (.ruleFill 1 0 1023 fields7) (editing (lineIn .run)) :=
  ⟨_, ((h 1 0 1023 fields7 0x40#48 (editing (lineIn .run)) false (by decide)).2.2 entryOf7 (by decide) (by decide) (by decide)
    (by decide) (affected7 _ rfl 0 1023)).1 (by decide)⟩
theorem test_witness_RuleWriteAndFill_in_spray (h : Obligations.RuleWriteAndFill) : Answers (.ruleWrite 1 1023 fields7) sprayed7 :=
  ⟨_, (((h 1 1023 1023 fields7 0x40#48 sprayed7 true (by decide)).2.2 entryOf7 (by decide) (by decide) (by decide) (by decide)
    (affected7 _ rfl 1023 1023)).2 (by decide)).1 0 psu (by decide) (by decide) (by decide) (by decide) (by intro k _ hk; omega)⟩
theorem test_witness_RuleWriteAndFill_accepted (h : Obligations.RuleWriteAndFill) : Answers (.ruleWrite 1 1023 fields7) (lineIn .run) :=
  ⟨_, (((h 1 1023 1023 fields7 0x40#48 (lineIn .run) true (by decide)).2.2 entryOf7 (by decide) (by decide) (by decide)
    (by decide) (affected7 _ rfl 1023 1023)).2 (by decide)).2 (by intro k b _ hb; cases hb)⟩

theorem affects_none (s : State) (he : s.keepOut.entries = []) (q : Nat → Prop) (c : Nat) (_ : 1 ≤ c) (_ : c ≤ 48) :
    (NumSet.has (0#48) (c - 1) = true ↔ ∃ p ∈ s.keepOut.entries, q p.1 ∧ p.2.names c = true) := by
  simp [he, NumSet.has]
theorem affects_7 (s : State) (e : KeepOutEntry) (q : Nat → Prop) (he : s.keepOut.entries = [(40, e)]) (hq : q 40)
    (hn : ∀ c, 1 ≤ c → c ≤ 48 → e.names c = decide (c = 7)) (c : Nat) (h1 : 1 ≤ c) (h2 : c ≤ 48) :
    (NumSet.has (0x40#48) (c - 1) = true ↔ ∃ p ∈ s.keepOut.entries, q p.1 ∧ p.2.names c = true) := by
  simp only [he, List.mem_singleton, exists_eq_left, hq, hn c h1 h2, true_and]
  revert c; decide
/-- The indices a move touches. -/
abbrev touched (src dst n k : Nat) : Prop := (src ≤ k ∧ k < src + n) ∨ (dst ≤ k ∧ k < dst + n)
theorem names_7 : ∀ c, 1 ≤ c → c ≤ 48 → entryOf7.names c = decide (c = 7) := by decide

/-- Entry 40 of class 7 alone. -/
def only40 (s : State) : State := { s with keepOut := { s.keepOut with entries := [(40, entryOf7)] } }
theorem test_witness_RuleMove_refused (h : Obligations.RuleMove) :
    Answers (.ruleMove 1 0 1 1) State.reset ∧ Answers (.ruleMove 1 1023 0 2) (lineIn .run) ∧
    Answers (.ruleMove 1 0 1 1) (editing (lineIn .run)) :=
  ⟨⟨_, (h 1 0 1 1 0 State.reset).1 (by decide)⟩, ⟨_, (h 1 1023 0 2 0 (lineIn .run)).2.1 (by decide) (by decide)⟩,
    ⟨_, ((h 1 0 1 1 0#48 (editing (lineIn .run))).2.2 (by decide) (by decide) (by decide) (by decide)
      (affects_none _ rfl (touched 0 1 1))).1 (by decide)⟩⟩
theorem test_witness_RuleMove_occupied (h : Obligations.RuleMove) : Answers (.ruleMove 1 41 40 1) (only40 (lineIn .run)) :=
  ⟨_, (((h 1 41 40 1 0x40#48 (only40 (lineIn .run))).2.2 (by decide) (by decide) (by decide) (by decide)
    (affects_7 _ entryOf7 (touched 41 40 1) rfl (by decide) names_7)).2 (by decide)).1 (by decide)⟩
theorem test_witness_RuleMove_in_spray (h : Obligations.RuleMove) : Answers (.ruleMove 1 40 1023 1) (only40 sprayed7) :=
  ⟨_, ((((h 1 40 1023 1 0x40#48 (only40 sprayed7)).2.2 (by decide) (by decide) (by decide) (by decide)
    (affects_7 _ entryOf7 (touched 40 1023 1) rfl (by decide) names_7)).2 (by decide)).2 (by decide)).1 0 psu (by decide) (by decide) (by decide)
    (by decide) (by intro k _ hk; omega)⟩
theorem test_witness_RuleMove_accepted (h : Obligations.RuleMove) : Answers (.ruleMove 1 40 41 1) (only40 (lineIn .run)) :=
  ⟨_, ((((h 1 40 41 1 0x40#48 (only40 (lineIn .run))).2.2 (by decide) (by decide) (by decide) (by decide)
    (affects_7 _ entryOf7 (touched 40 41 1) rfl (by decide) names_7)).2 (by decide)).2 (by decide)).2 (by intro k b _ hb; cases hb)⟩
theorem test_witness_EditStepTaken (h : Obligations.EditStepTaken) : Answers .editStep (lineIn .run) ∧
    Answers .editStep (editing (lineIn .run)) ∧
    Answers .editStep { lineIn .run with keepOut := ⟨[], some ⟨.write, [(0, 0)], 5, true, 0, 0#48, 0, [.write 0 resetEntry]⟩⟩ } :=
  ⟨⟨_, (h (lineIn .run)).1 (by decide)⟩,
    ⟨_, ((h (editing (lineIn .run))).2 _ (.copy 40 41) [.clear 40] rfl rfl).1 (by decide)⟩,
    ⟨_, ((h _).2 _ (.write 0 resetEntry) [] rfl rfl).2 0 0 (by decide) (by decide) (by decide) (by decide) rfl⟩⟩

/-- An edit of class 7 under a line whose entry 40 it moves. -/
def moving : State := editing (only40 (withBoard .run (boardAt .spraying .sprayPos) [0]))
theorem moving_sound : moving.EditSound := by
  intro e he c h1 h2 hc st hst
  have he' : e = _ := (Option.some.inj he).symm
  subst he'
  have h41 : (moving.entry 41).names c = false := rfl
  have h40 : (moving.entry 40).names c = false := by
    have hn := names_7 c h1 h2
    have : c ≠ 7 := by rintro rfl; exact absurd hc (by decide)
    have e40 : moving.entry 40 = entryOf7 := by decide
    rw [e40, hn]; simpa using this
  simp only [List.mem_cons, List.not_mem_nil, or_false] at hst
  obtain rfl | rfl := hst
  · exact ⟨h40, h41⟩
  · exact h40
theorem test_witness_EditGuards (h : Obligations.EditGuardsKept) (t : State) (ht : step moving = .next t) :
    t.EditsSpareSprayed ∧ t.NoSpitWhileSpraying ∧ t.EditSound :=
  ⟨h.1 moving t (by intro e he; rw [← Option.some.inj he]; decide) ht,
    h.2.1 moving t (by intro l o ho; fin_cases l <;> cases ho) ht, h.2.2 moving t moving_sound ht⟩
theorem test_witness_EditGuards_steps : ∃ t, step moving = .next t := ⟨_, rfl⟩
theorem test_witness_EditSpares (h : Obligations.EditSparesOtherClasses) (t : State) (ht : exec .editStep moving = .next t) :
    t.lookup 6 .top 0 0 = moving.lookup 6 .top 0 0 :=
  h moving t _ 6 0 0 .top ⟨by decide, by decide, by decide, by decide, by decide, by decide, by decide⟩ moving_sound rfl
    (by decide) (by decide) (by decide) ht
theorem test_witness_EditSpares_steps : Answers .editStep moving := ⟨_, rfl⟩

/-! ### The path engine -/

def armed : State := (lineIn .run).setLane 0 { resetLane with
  status := .armed, arming := ⟨some 1, 0, 2, .once, 0, 2, false⟩, strokes := [(0, stroke47)] }
theorem test_witness_StrokeBuffers_refused (h : Obligations.StrokeBuffers) :
    Answers (.strokeLoad 1 0 1 [strokeFields]) armed ∧ Answers (.strokeLoad 1 0 512 [strokeFields]) armed ∧
    Answers (.strokeRead 1 0 497 16) armed :=
  ⟨⟨_, (h 1 0 1 1 [strokeFields] armed).1 .strokesInUse (by decide)⟩,
    ⟨_, (h 1 0 512 1 [strokeFields] armed).1 .outOfRange (by decide)⟩,
    ⟨_, (h 1 0 497 16 [] armed).2.1 .outOfRange (by decide)⟩⟩
theorem test_witness_StrokeBuffers_taken (h : Obligations.StrokeBuffers) :
    Answers (.strokeRead 1 0 496 16) armed ∧ Answers (.strokeLoad 1 0 2 [strokeFields]) armed :=
  ⟨⟨_, ((h 1 0 496 16 [] armed).2.2 0 (by decide) (by decide)).1 (by decide) (by decide) (by decide)⟩,
    let ⟨_, w⟩ := ((h 1 0 2 1 [strokeFields] armed).2.2 0 (by decide) (by decide)).2 [stroke47] (by decide) (by decide) (by decide)
      (by decide) (by decide)
    ⟨_, w.1⟩⟩
def loaded (st : Stroke) : State := (lineIn .run).setLane 0 { resetLane with strokes := [(511, st)] }
theorem test_witness_ArmLane (h : Obligations.ArmLane) :
    Answers (.armLane 1 0 1 0 1 0 0) armed ∧ Answers (.armLane 1 0 1 511 1 0 0) (loaded stroke47) ∧
    Answers (.armLane 1 0 1 511 1 1 1) (loaded { stroke47 with material := 0 }) :=
  ⟨⟨_, (h 1 0 1 0 1 0 0 armed).1 .wrongState (by decide)⟩,
    ⟨_, ((h 1 0 1 511 1 0 0 (loaded stroke47)).2 0 rfl (by decide) (by decide) (by decide) (by decide) (by decide) (by decide)
      (by decide) (by decide) (by decide) (by decide) (by decide)).1 0 .material (by decide) (by decide) (by decide)⟩,
    ⟨_, ((h 1 0 1 511 1 1 1 (loaded { stroke47 with material := 0 })).2 0 rfl (by decide) (by decide) (by decide) (by decide)
      (by decide) (by decide) (by decide) (by decide) (by decide) (by decide) (by decide)).2 (by decide)⟩⟩
/-- ARM_LANE for a lane other than 0 and 1. -/
theorem test_witness_ArmLane_lane (h : Obligations.ArmLane) : Answers (.armLane 1 2 1 0 1 0 0) (lineIn .run) :=
  ⟨_, (h 1 2 1 0 1 0 0 (lineIn .run)).1 .outOfRange (by decide)⟩
/-- A board of lane 0 in a life state at the spray position, the lane in a state. -/
def laneAt (life : LifeState) (st : LaneStatus) : State :=
  (withBoard .run (boardAt life .sprayPos) [0]).setLane 0 { resetLane with status := st, arming := ⟨some 1, 0, 2, .once, 0, 2, false⟩ }
theorem laneAt_at (life : LifeState) (st : LaneStatus) : (laneAt life st).atSprayPos 0 0 (boardAt life .sprayPos) :=
  ⟨by decide, rfl, rfl, rfl, by intro k _ hk; omega⟩
theorem test_witness_Disarm (h : Obligations.DisarmLane) :
    Answers (.disarm 1 0) State.reset ∧ Answers (.disarm 1 2) (lineIn .run) ∧ Answers (.disarm 1 1) (lineIn .run) ∧
    Answers (.disarm 1 0) armed ∧ Answers (.disarm 1 0) (laneAt .spraying .running) ∧
    Answers (.disarm 1 0) (laneAt .flashing .stopped) :=
  ⟨⟨_, (h 1 0 State.reset).1 (by decide)⟩, ⟨_, (h 1 2 (lineIn .run)).2.1 (by decide) (by decide)⟩,
    ⟨_, ((h 1 1 (lineIn .run)).2.2 1 (by decide) (by decide)).1 (by decide)⟩,
    ⟨_, ((h 1 0 armed).2.2 0 (by decide) (by decide)).2.1 (by decide)⟩,
    ⟨_, ((((h 1 0 (laneAt .spraying .running)).2.2 0 (by decide) (by decide)).2.2 (by decide)).2 0 _ (laneAt_at _ _)).2
      (by decide)⟩,
    ⟨_, ((((h 1 0 (laneAt .flashing .stopped)).2.2 0 (by decide) (by decide)).2.2 (by decide)).2 0 _ (laneAt_at _ _)).1
      (by decide)⟩⟩
def running : State := (lineIn .run).setLane 0 { resetLane with status := .running }
theorem test_witness_Disarm_empty (h : Obligations.DisarmLane) : Answers (.disarm 1 0) running :=
  ⟨_, (((h 1 0 running).2.2 0 (by decide) (by decide)).2.2 (by decide)).1 (by intro k b _ hb; cases hb)⟩
theorem test_witness_StatusReads (h : Obligations.StatusReads) :
    Answers (.applicatorStatus 1 0) State.reset ∧ Answers (.applicatorStatus 1 6) (lineIn .run) ∧
    Answers (.applicatorStatus 1 255) (lineIn .run) ∧ Answers (.applicatorStatus 1 5) (lineIn .run) ∧
    Answers (.laneStatus 1 0 0) State.reset ∧ Answers (.laneStatus 1 1 2) (lineIn .run) ∧ Answers (.laneStatus 1 1 0) (lineIn .run) ∧
    Answers (.laneStatus 1 1 1) (lineIn .run) ∧ Answers (.ovenStatus 1) State.reset ∧ Answers (.ovenStatus 1) (lineIn .run) :=
  ⟨⟨_, (h.1 1 0 State.reset).1 (by decide)⟩, ⟨_, (h.1 1 6 (lineIn .run)).2.1 (by decide) (by decide) (by decide)⟩,
    ⟨_, (h.1 1 255 (lineIn .run)).2.2.1 (by decide) (by decide)⟩,
    ⟨_, (h.1 1 5 (lineIn .run)).2.2.2 5 (by decide) (by decide)⟩,
    ⟨_, (h.2.1 1 0 0 State.reset).1 (by decide)⟩, ⟨_, (h.2.1 1 1 2 (lineIn .run)).2.1 (by decide) (by decide)⟩,
    ⟨_, ((h.2.1 1 1 0 (lineIn .run)).2.2 1 (by decide) (by decide)).1 (by decide)⟩,
    ⟨_, ((h.2.1 1 1 1 (lineIn .run)).2.2 1 (by decide) (by decide)).2 (by decide)⟩,
    ⟨_, (h.2.2 1 State.reset).2.1 (by decide)⟩, ⟨_, (h.2.2 1 (lineIn .run)).2.2 (by decide)⟩⟩
/-- An AT_SPRAY board of class 1 with its site PRESENT, on an armed lane. -/
def startable : Board := { boardAt .atSpray .sprayPos with sites := [(1, .present)] }
def starting (armedClass : Nat) : State :=
  (withBoard .run startable [0]).setLane 0 { resetLane with status := .armed, arming := ⟨some armedClass, 0, 2, .once, 0, 2, false⟩ }
theorem starting_at (c : Nat) : (starting c).atSprayPos 0 0 startable := ⟨by decide, rfl, rfl, rfl, by intro k _ hk; omega⟩
theorem test_witness_StartRule (h : Obligations.StartRule) :
    (lineIn .run).startTest 0 = lineIn .run ∧ (laneAt .flashing .idle).startTest 0 = laneAt .flashing .idle ∧
    (starting 2).startTest 0 = (starting 2).post (.lane 0) ∧ ∃ t, (starting 1).startTest 0 = t :=
  ⟨(h.2 (lineIn .run) 0).1 (by intro k b _ hb; cases hb), ((h.2 (laneAt .flashing .idle) 0).2 0 _ (laneAt_at _ _)).1 (by decide),
    (((h.2 (starting 2) 0).2 0 _ (starting_at 2)).2 (by decide)).1 .classMismatch (by decide),
    ⟨_, (((h.2 (starting 1) 0).2 0 _ (starting_at 1)).2 (by decide)).2 (by decide)⟩⟩
theorem test_witness_StrokeSending (h : Obligations.StrokeSending) :
    (∃ t, (sprayed .run).addGated 0 (boardAt .spraying .sprayPos) 11 = t) ∧
    (∃ t, (sprayed .run).addGated 0 (boardAt .spraying .sprayPos) 10 = t) ∧
    ((sprayed .run).sendStroke 0 0 (boardAt .spraying .sprayPos) stroke47 []).unit 1 = (sprayed .run).unit 1 :=
  ⟨⟨_, (h.1 (sprayed .run) 0 11 (boardAt .spraying .sprayPos) (by decide)).1 (by decide) (by decide)⟩,
    ⟨_, (h.1 (sprayed .run) 0 10 (boardAt .spraying .sprayPos) (by decide)).2 (by decide)⟩,
    (h.2.1 (sprayed .run) 0 0 (boardAt .spraying .sprayPos) stroke47 [] (by decide)).2.2.2.2.1 1 (by decide)⟩
theorem of_board {s : State} {k : Nat} {b : Board} (p : Board → Bool) (hb : s.board k = some b)
    (hp : (s.board k).any p = true) : p b = true := by rw [hb] at hp; exact hp
/-- A board being sprayed on lane 0, RUNNING; its current stroke is of material 0 by applicator 0 and covers columns 0 to
`last`; the keep-out table and the routing as given, applicator 0 PRIMED with material 0 where `wet`. -/
def spraying (wet : Bool) (last : Nat) (b : Board) (table : List (Nat × KeepOutEntry)) (routing : List (Nat × RouteEntry)) :
    State :=
  let s := (withBoard .run b [0]).setLane 0 { resetLane with
    status := .running, arming := ⟨some 1, 0, 2, .once, 0, 2, true⟩, strokes := [(0, ⟨0, 0, .x, 0, 0, last, 2, 5, false⟩)] }
  { s.setUnit 0 { resetApplicator with
      state := if wet then .primed else .idleDry, material := if wet then some 0 else none } with
    keepOut := ⟨table, none⟩, hold := { s.hold with routing := routing } }
def plain : Board := boardAt .spraying .sprayPos
theorem spraying_at (wet : Bool) (last : Nat) (b : Board) (table : List (Nat × KeepOutEntry))
    (routing : List (Nat × RouteEntry)) (hl : b.lane = 0) (hb : b.loc = .sprayPos) :
    (spraying wet last b table routing).atSprayPos 0 0 b :=
  ⟨by decide, rfl, hl, hb, by intro k _ hk; omega⟩
theorem test_witness_TakeStroke_waits (h : Obligations.StrokeSending) :
    (((spraying false 3 plain [] []).takeStroke 0).lane 0).status = .waitApplicator :=
  (congrArg (fun u : State => (u.lane 0).status) ((h.2.2 _ 0 0 plain (spraying_at false 3 plain [] [] rfl rfl)).1 rfl
    (by decide))).trans (by decide)
/-- Every other column closed by entry 0. -/
def fence : List (Nat × KeepOutEntry) :=
  [(0, { resetEntry with enabled := true, side := .either, xValue := 1, xCare := 1, rule := .keepOut })]
theorem test_witness_TakeStroke_fragmented (h : Obligations.StrokeSending) :
    (∃ u, (spraying true 33 { plain with mark := some .rework } fence []).takeStroke 0 = State.abandon 0 0 u) ∧
    (∃ u, (spraying true 33 plain fence []).takeStroke 0 = State.stopLane 0 u) ∧
    ∃ t, (spraying true 33 plain fence [(4, ⟨4, .flag, false, false⟩)]).takeStroke 0 = t :=
  have w := fun b r h1 h2 h3 h4 => (h.2.2 _ 0 0 b (spraying_at true 33 b fence r h1 h2)).2.1 h3 h4
  let ⟨_, a, wa, _⟩ := w { plain with mark := some .rework } [] rfl rfl (by decide) (by decide +kernel)
  let ⟨_, b, _, wb, _⟩ := w plain [] rfl rfl (by decide) (by decide +kernel)
  let ⟨_, c, _, _, wc⟩ := w plain [(4, ⟨4, .flag, false, false⟩)] rfl rfl (by decide) (by decide +kernel)
  ⟨⟨_, wa (of_decide_eq_true (of_board (fun x => decide (x.mark ≠ none)) a (by decide)))⟩,
    ⟨_, wb (of_decide_eq_true (of_board (fun x => decide (x.mark = none)) b (by decide)))
      (of_board (fun x => State.blocked _ x) b (by decide))⟩,
    ⟨_, wc (of_decide_eq_true (of_board (fun x => decide (x.mark = none)) c (by decide)))
      (by simpa using of_board (fun x => !State.blocked _ x) c (by decide))⟩⟩
/-- The whole grid closed by entry 0. -/
def wall : List (Nat × KeepOutEntry) := [(0, { resetEntry with enabled := true, side := .either, rule := .keepOut })]
theorem test_witness_TakeStroke_taken (h : Obligations.StrokeSending) :
    (∃ u, (spraying true 3 { plain with mark := some .rework } [] []).takeStroke 0 = State.abandon 0 0 u) ∧
    (∃ u, (spraying true 3 { plain with pendingSet := 1#16 } [] []).takeStroke 0 = State.stopLane 0 u) ∧
    (∃ t, (spraying true 3 plain [] []).takeStroke 0 = t) ∧ ∃ t, (spraying true 3 plain wall []).takeStroke 0 = t :=
  have w := fun b k h1 h2 h3 h4 => (h.2.2 _ 0 0 b (spraying_at true 3 b k [] h1 h2)).2.2 h3 h4
  let ⟨_, a, wa, _⟩ := w { plain with mark := some .rework } [] rfl rfl (by decide) (by decide)
  let ⟨_, b, _, wb, _⟩ := w { plain with pendingSet := 1#16 } [] rfl rfl (by decide) (by decide)
  let ⟨_, c, _, _, wc⟩ := w plain [] rfl rfl (by decide) (by decide)
  let ⟨_, d, _, _, wd⟩ := w plain wall rfl rfl (by decide) (by decide)
  ⟨⟨_, wa (of_decide_eq_true (of_board (fun x => decide (x.mark ≠ none)) a (by decide)))⟩,
    ⟨_, wb (of_decide_eq_true (of_board (fun x => decide (x.mark = none)) b (by decide)))
      (of_board (fun x => State.blocked _ x) b (by decide))⟩,
    ⟨_, (wc (of_decide_eq_true (of_board (fun x => decide (x.mark = none)) c (by decide)))
      (by simpa using of_board (fun x => !State.blocked _ x) c (by decide))).1 (by decide)⟩,
    ⟨_, (wd (of_decide_eq_true (of_board (fun x => decide (x.mark = none)) d (by decide)))
      (by simpa using of_board (fun x => !State.blocked _ x) d (by decide))).2 (by decide)⟩⟩
def stroking : State := withOp .stroke (some ⟨0, 47, false, 1, true⟩) (sprayed .run)
theorem test_witness_StrokeDone (h : Obligations.StrokeDone) : Answers (.headDone 0 255) stroking :=
  ⟨_, (h.1 0 255 stroking ⟨255, .stroke, 0, 3000, some 3000, some ⟨0, 47, false, 1, true⟩⟩ ⟨0, 47, false, 1, true⟩
    (boardAt .spraying .sprayPos) (by decide) (by decide) (by decide) (by decide) (by decide) (by decide)).1 (by decide)⟩
/-- A detached stroke of a disarmed board in flight. -/
def strokeLeft : State :=
  withOp .stroke (some ⟨0, 47, true, 1, true⟩) (withBoard .run { plain with disarmed := true } [0])
theorem test_witness_StrokeDone_detached (h : Obligations.StrokeDone) : Answers (.headDone 0 255) strokeLeft :=
  ⟨_, (h.1 0 255 strokeLeft ⟨255, .stroke, 0, 3000, some 3000, some ⟨0, 47, true, 1, true⟩⟩ ⟨0, 47, true, 1, true⟩
    { plain with disarmed := true } (by decide) (by decide) (by decide) (by decide) (by decide) (by decide)).2 (by decide)⟩
theorem test_witness_Terminal (h : Obligations.StrokeDone) :
    (((laneAt .spraying .running).terminal 0 0).lane 0).status = .idle ∧
    ∃ t, (withOp .stroke none (withBoard .run { plain with used := 0#8 } [0])).terminal 0 0 = t :=
  ⟨congrArg (fun u : State => (u.lane 0).status) (h.2 0 0 5 (some 60) (laneAt .spraying .running) (boardAt .spraying .sprayPos)
      rfl rfl rfl (by decide) (by decide) (by decide) (by decide) (by intro x hx; cases hx; decide)),
    ⟨_, h.2 0 0 0 none (withOp .stroke none (withBoard .run { plain with used := 0#8 } [0])) _ rfl rfl rfl (by decide)
      (by decide) (by decide) (by decide) (by intro x hx; cases hx)⟩⟩
/-- 03 R57, 05 R95: at terminal count a lane ends no need of an applicator; where it reads past its arming stands the reset
stroke, of applicator 0, of the other lane. -/
theorem test_terminal_keeps_needs :
    ((({ (withBoard .run { plain with lane := 1 } []).setUnit 0 { resetApplicator with need := some 0 } with
      path := ⟨#v[resetLane, { resetLane with status := .running, arming := ⟨some 1, 0, 1, .once, 1, 0, true⟩ }]⟩ } :
      State).terminal 1 0).unit 0).need = some 0 := by decide
theorem test_witness_StrokeFaults (h : Obligations.StrokeFaults) :
    Answers (.headFault 0 255 1) stroking ∧ Answers (.headDeadline 0) stroking :=
  have w := fun k => h.1 0 255 k stroking ⟨255, .stroke, 0, 3000, some 3000, some ⟨0, 47, false, 1, true⟩⟩ ⟨0, 47, false, 1, true⟩
    (by decide) (by decide) (by decide)
  ⟨⟨_, (w 1).1 (by decide) (by decide)⟩, ⟨_, (w 1).2 3000 (by decide)⟩⟩
theorem test_witness_StrokeFaults_detached (h : Obligations.StrokeFaults) :
    Answers (.headFault 0 255 1) strokeLeft ∧ Answers (.headDeadline 0) strokeLeft :=
  have w := h.1 0 255 1 strokeLeft ⟨255, .stroke, 0, 3000, some 3000, some ⟨0, 47, true, 1, true⟩⟩ ⟨0, 47, true, 1, true⟩
    (by decide) (by decide) (by decide)
  ⟨⟨_, w.1 (by decide) (by decide)⟩, ⟨_, w.2 3000 (by decide)⟩⟩
/-- A disarmed board on a lane without operation. -/
def disarmedBoard (mark : Option Mark) (pending : NumSet 16) : State :=
  withBoard .run { plain with disarmed := true, mark := mark, pendingSet := pending } [0]
theorem test_witness_Departure (h : Obligations.StrokeFaults) :
    (sprayed .run).departDisarmed 0 = sprayed .run ∧ strokeLeft.departDisarmed 0 = strokeLeft ∧
    (disarmedBoard (some .rework) 0).departDisarmed 0 ≠ disarmedBoard (some .rework) 0 ∧
    (disarmedBoard none 1#16).departDisarmed 0 = disarmedBoard none 1#16 ∧
    (disarmedBoard none 0).departDisarmed 0 ≠ disarmedBoard none 0 :=
  have w := fun m p => (h.2.1 0 (disarmedBoard m p) _ rfl).2 rfl rfl (by rintro ⟨o, x, ho, _⟩; cases ho)
  ⟨(h.2.1 0 (sprayed .run) _ rfl).1 (.inr (.inl rfl)), (h.2.1 0 strokeLeft _ rfl).1 (.inr (.inr ⟨_, _, rfl, rfl, rfl⟩)),
    fun e => absurd (((w (some .rework) 0).1 (by decide)).symm.trans e) (by decide),
    (w none 1#16).2.1 rfl (by decide),
    fun e => absurd (((w none 0).2.2 rfl (by decide)).symm.trans e) (by decide)⟩
theorem test_witness_StopAndAbandon (h : Obligations.StrokeFaults) :
    (((laneAt .spraying .waitApplicator).stopLane 0).lane 0).status = .stopped ∧
    (((laneAt .spraying .stopped).abandon 0 0).lane 0).status = .idle ∧
    ∃ t, (laneAt .spraying .running).abandon 0 0 = t :=
  ⟨congrArg (fun u : State => (u.lane 0).status) ((h.2.2 0 0 (laneAt .spraying .waitApplicator) _ rfl rfl).1 (.inr rfl)),
    congrArg (fun u : State => (u.lane 0).status) ((h.2.2 0 0 (laneAt .spraying .stopped) _ rfl rfl).2 (.inr (.inr rfl))),
    ⟨_, (h.2.2 0 0 (laneAt .spraying .running) _ rfl rfl).2 (.inl rfl)⟩⟩
theorem test_witness_HeadLinkEvents (h : Obligations.HeadLinkEvents) :
    Answers (.headDone 0 1) State.reset ∧ Answers (.headDone 0 254) stroking ∧ Answers (.headDeadline 1) stroking ∧
    Answers (.headCommandSent 0 255) stroking ∧
    Answers (.headCommandSent 0 255) ((lineIn .run).setLane 0 { resetLane with op := some ⟨255, .cap, 0, 5000, none, none⟩ }) :=
  ⟨⟨_, ((h.1 0 1 0 State.reset).1 (by decide)).1⟩,
    ⟨_, ((h.1 0 254 0 stroking).2.1 (by decide) (by intro o ho; rw [← Option.some.inj ho]; decide)).1⟩,
    ⟨_, (h.1 1 254 0 stroking).2.2 (by intro o ho; cases ho)⟩,
    ⟨_, (h.2 0 255 stroking).2 (by intro o ho; rw [← Option.some.inj ho]; decide)⟩,
    ⟨_, (h.2 0 255 ((lineIn .run).setLane 0 { resetLane with op := some ⟨255, .cap, 0, 5000, none, none⟩ })).1 _ rfl (by decide)
      (by decide)⟩⟩

/-! ### Masks, findings and criteria -/

theorem test_witness_Criteria (h : Obligations.Criteria) :
    Answers (.criterionWrite 1 0 ⟨0, 0, 0, 0, 0, 8⟩) State.reset ∧ Answers (.criterionWrite 1 31 ⟨48, 5, 2, 1, 17, 9⟩) (lineIn .run) ∧
    Answers (.criterionRead 1 32) (lineIn .run) ∧ Answers (.criterionRead 1 31) (lineIn .run) ∧
    Answers (.criterionWrite 1 31 ⟨48, 5, 2, 1, 16, 9⟩) (lineIn .run) :=
  ⟨⟨_, ((h 1 0 ⟨0, 0, 0, 0, 0, 8⟩ State.reset).1 (by decide)).1⟩,
    ⟨_, ((h 1 31 ⟨48, 5, 2, 1, 17, 9⟩ (lineIn .run)).2 (by decide)).1 (by decide)⟩,
    ⟨_, ((h 1 32 ⟨0, 0, 0, 0, 0, 8⟩ (lineIn .run)).2 (by decide)).2.1 (by decide)⟩,
    ⟨_, ((h 1 31 ⟨0, 0, 0, 0, 0, 8⟩ (lineIn .run)).2 (by decide)).2.2.1 (by decide)⟩,
    let ⟨_, w⟩ := ((h 1 31 ⟨48, 5, 2, 1, 16, 9⟩ (lineIn .run)).2 (by decide)).2.2.2 .either (by decide) (by decide) (by decide)
      (by decide) (by decide) (by decide) (by decide)
    ⟨_, w.1⟩⟩
theorem test_witness_Masks (h : Obligations.Masks) :
    Answers (.maskReport 1 0 2 0) (waiting .run) ∧ Answers (.maskReport 1 0 1 1) (waiting .run) ∧
    Answers (.maskWaitExpiry 0) (waiting .run) ∧
    Answers (.maskWaitExpiry 0) (withBoard .run { boardAt .atSpray .sprayPos with maskWait := some 60000 } [0]) :=
  ⟨⟨_, (h.1 1 0 2 0 (waiting .run)).1 .outOfRange (by decide)⟩,
    ⟨_, (h.1 1 0 1 1 (waiting .run)).2 (boardAt .atSpray .sprayPos) .unread (by decide) (by decide) (by decide) (by decide)
      (by decide) (by decide) (by decide) (by decide)⟩,
    ⟨_, (h.2 0 (waiting .run)).1 (by intro b hb; rw [← Option.some.inj hb]; decide)⟩,
    ⟨_, (h.2 0 (withBoard .run { boardAt .atSpray .sprayPos with maskWait := some 60000 } [0])).2 _ 60000 rfl (by decide)⟩⟩
theorem test_witness_FindingTaken (h : Obligations.FindingTaken) :
    Answers (.finding 1 0 6 0 0 0) (inBay .run .flashing) ∧ Answers (.finding 1 0 5 1 1023 1023) (inBay .run .flashing) :=
  ⟨⟨_, (h 1 0 6 0 0 0 (inBay .run .flashing)).1 .outOfRange (by decide)⟩,
    let ⟨_, w⟩ := (h 1 0 5 1 1023 1023 (inBay .run .flashing)).2 (boardAt .flashing (.bay 0)) .bottom (by decide) (by decide)
      (by decide) (by decide) (by decide) (by decide) (by decide) (by decide) (by decide)
    ⟨_, w.2.2⟩⟩

/-! ### Flash-off, the shuttle and the oven -/

/-- A flashing board in bay 0 whose timers run, its class one that needs no inspection; `ready` says whether an admission of
it is in flight. -/
def timed : Board := { boardAt .flashing (.bay 0) with
  flashReady := some 500, openDeadline := some 900, flashArmed := true, openArmed := true, inspectDone := true }
def timing (op : Option ShuttleOp) : State :=
  let s := withBoard .run timed []
  { s with clock := 500, oven := { s.oven with bays := s.oven.bays.set 0 (.occupied 0), shuttle := op } }
theorem test_witness_Readiness_inspect (h : Obligations.ReadinessOfABoard) :
    Answers (.inspectDone 1 0) (waiting .run) ∧ Answers (.inspectDone 1 0) (inBay .halted .ovenReady) :=
  ⟨⟨_, (h.1 1 0 (waiting .run)).1 .wrongState (by decide)⟩,
    ⟨_, (h.1 1 0 (inBay .halted .ovenReady)).2 (boardAt .ovenReady (.bay 0)) (by decide) (by decide) (by decide) (by decide)⟩⟩
theorem test_witness_Readiness_test (h : Obligations.ReadinessOfABoard) :
    (inBay .run .flashing).testReady 0 = inBay .run .flashing ∧ ∃ t, (timing none).testReady 0 = t :=
  ⟨(h.2.1 (inBay .run .flashing) 0 (boardAt .flashing (.bay 0)) (by decide)).2 (fun ⟨_, _, ⟨_, hd, _⟩, _⟩ => nomatch hd),
    ⟨_, (h.2.1 (timing none) 0 timed (by decide)).1
      ⟨by decide, ⟨0, by decide⟩, ⟨500, by decide, by decide⟩, by decide, by decide, by decide⟩⟩⟩
theorem test_witness_Readiness_timers (h : Obligations.ReadinessOfABoard) :
    Answers (.flashReadyReached 0) (inBay .run .flashing) ∧ Answers (.flashReadyReached 0) (timing none) ∧
    Answers (.openDeadlineExpiry 0) (inBay .run .flashing) ∧
    Answers (.openDeadlineExpiry 0) (timing (some ⟨.admission, 0, 0, 0, 20000⟩)) ∧ Answers (.openDeadlineExpiry 0) (timing none) :=
  ⟨⟨_, (h.2.2.1 0 (inBay .run .flashing)).1 (by intro b hb; rw [← Option.some.inj hb]; decide)⟩,
    ⟨_, (h.2.2.1 0 (timing none)).2.1 timed 500 (by decide) (by decide) (by decide)⟩,
    ⟨_, (h.2.2.1 0 (inBay .run .flashing)).2.2.1 (by intro b hb; rw [← Option.some.inj hb]; decide)⟩,
    ⟨_, ((h.2.2.1 0 (timing (some ⟨.admission, 0, 0, 0, 20000⟩))).2.2.2 timed 900 (by decide) (by decide) (by decide) (by decide)
      (by decide)).1 (by decide)⟩,
    ⟨_, ((h.2.2.1 0 (timing none)).2.2.2 timed 900 (by decide) (by decide) (by decide) (by decide) (by decide)).2 (by decide)⟩⟩

theorem test_witness_Readiness_left (h : Obligations.ReadinessOfABoard) :
    (((inBay .run .ovenReady).leaveReady 0).board 0).map (·.life) = some .flashing ∧
    (timing none).leaveReady 0 = timing none ∧
    ({ timing none with clock := 900 } : State).heldOver 0 ≠ { timing none with clock := 900 } ∧
    (timing none).heldOver 0 = timing none :=
  ⟨congrArg (fun u : State => (u.board 0).map (·.life)) ((h.2.2.2 (inBay .run .ovenReady) 0 _ rfl).1
      ⟨rfl, .inr (.inr ⟨rfl, rfl⟩)⟩),
    (h.2.2.2 (timing none) 0 timed rfl).2.1 (fun e => nomatch e.1),
    fun e => absurd (((h.2.2.2 { timing none with clock := 900 } 0 timed rfl).2.2.1
      ⟨rfl, rfl, .inl rfl, 900, rfl, by decide⟩).symm.trans e) (by decide),
    (h.2.2.2 (timing none) 0 timed rfl).2.2.2 (by rintro ⟨_, _, _, d, hd, hc⟩; cases hd; exact absurd hc (by decide))⟩
theorem test_witness_Shuttle_none (h : Obligations.ShuttleDecision) :
    (lineIn .halted).decideShuttle = lineIn .halted ∧ (lineIn .run).decideShuttle = lineIn .run :=
  ⟨(h.1 (lineIn .halted)).1 (by rintro ⟨_, hm⟩; revert hm; decide),
    (h.1 (lineIn .run)).2.2.1 (by rintro n ⟨slot, b, hb, _⟩; revert hb; fin_cases n <;> (intro hb; cases hb))
      (by rintro ⟨_, _, hz, _⟩; exact absurd (hz 0) (by decide))⟩
theorem test_witness_Shuttle_no_board (h : Obligations.ShuttleDecision) : (lineIn .config).decideShuttle = lineIn .config :=
  (h.1 (lineIn .config)).2.2.2.1 (by rintro n ⟨slot, b, hb, _⟩; revert hb; fin_cases n <;> (intro hb; cases hb))
    (by rintro n slot b ⟨hb, _⟩; revert hb; fin_cases n <;> (intro hb; cases hb))
theorem contest_bay (m : Option Mark) (n : Fin 8) : (contest m).bay n =
    match n with | 0 => .occupied 8 | 1 => .occupied 9 | 2 => .occupied 10 | 3 => .occupied 11 | _ => .empty := by
  fin_cases n <;> rfl
theorem test_witness_Shuttle_divert (h : Obligations.ShuttleDecision) :
    ∃ t, (contest (some .rework)).decideShuttle = t := by
  refine ⟨_, (h.1 (contest (some .rework))).2.1 3 11 _ ⟨by decide, by decide⟩ (by decide) rfl (by decide) (by decide) ?_⟩
  rintro m hm ⟨slot, b, hb, hs, hl, _⟩
  rw [contest_bay] at hb
  fin_cases m <;> cases hb <;> cases hs <;> first | exact absurd hl (by decide) | exact absurd hm (by decide)
theorem test_witness_Shuttle_admit (h : Obligations.ShuttleDecision) : ∃ t, (contest none).decideShuttle = t := by
  refine ⟨_, (h.1 (contest none)).2.2.2.2 2 10 _ ⟨by decide, by decide⟩ ?_ ⟨by decide, by decide, by decide, by decide⟩
    ⟨by decide, rfl, by decide⟩ ?_⟩
  · rintro n ⟨slot, b, hb, hs, hl, hm⟩
    rw [contest_bay] at hb
    fin_cases n <;> cases hb <;> cases hs <;> first | exact absurd hl (by decide) | exact absurd rfl hm
  · rintro m slot b ⟨hb, hs, hl⟩ hne
    rw [contest_bay] at hb
    fin_cases m <;> cases hb <;> cases hs <;> first | exact absurd hl (by decide) | exact absurd rfl hne | decide
/-- Nothing is left short of the buffer in DRAIN; a board was, as the step began. -/
theorem test_witness_StepClose_drained (h : Obligations.ShuttleDecision) :
    ∃ u : State, (lineIn .drain).settle false (queued .drain) = u.decideShuttle ∧ u.line.mode = .config :=
  have gone : ∀ k, (((lineIn .drain).serveLane 0).serveLane 1).board k = none := by
    have e : (((lineIn .drain).serveLane 0).serveLane 1).tracker.boards = [] := by decide
    intro k; simp [State.board, e]
  ⟨_, (h.2 (lineIn .drain) (queued .drain) _ false (fun _ => rfl) (fun n => absurd ⟨by decide,
      fun k b _ hb => (nomatch (gone k).symm.trans hb), 0, boardAt .queued .laneQueue, by decide, rfl, .inl rfl⟩ n)).1
      (.inr (.inr (.inl (by decide)))), rfl⟩
theorem test_witness_StepClose (h : Obligations.ShuttleDecision) :
    (lineIn .run).settle true (lineIn .run) = (((lineIn .run).serveLane 0).serveLane 1).decideShuttle ∧
    (lineIn .run).settle false (lineIn .run) = ((lineIn .run).serveLane 0).serveLane 1 :=
  have w := fun p => h.2 (lineIn .run) (lineIn .run) _ p (fun d => absurd d.1 (by decide)) (fun _ => rfl)
  have e : (((lineIn .run).serveLane 0).serveLane 1).tracker.boards = [] := by decide
  have gone : ∀ k, (((lineIn .run).serveLane 0).serveLane 1).board k = none := by
    intro k; simp [State.board, e]
  ⟨(w true).1 (.inl rfl), (w false).2 (by
    rintro (h | ⟨h, _⟩ | h | ⟨k, _, ⟨⟨b, hb, _⟩, _⟩ | ⟨⟨b, _, hb, _⟩, _⟩⟩)
    · cases h
    · exact h (by decide)
    · exact h (by decide)
    · rw [gone] at hb; cases hb
    · rw [gone] at hb; cases hb)⟩
/-- The shuttle carries the board of slot 0, marked where it goes to the divert gate. -/
def carrying (k : ShuttleKind) : State :=
  let s := withBoard .run (match k with
    | .admission => boardAt .ovenReady (.bay 0)
    | .divert => { boardAt .flashing .toDivert with mark := some .scrap }) []
  { s with oven := { s.oven with bays := s.oven.bays.set 0 (.occupied 0), shuttle := some ⟨k, 0, 0, 0, 20000⟩ } }
theorem test_witness_ShuttleEnds_none (h : Obligations.ShuttleEnds) :
    Answers .ovenEnter State.reset ∧ Answers .divertPass State.reset ∧ Answers .ovenEnter (carrying .divert) ∧
    Answers .divertPass (carrying .admission) ∧ Answers .admitDeadline (lineIn .run) ∧ Answers .divertDeadline (lineIn .run) :=
  ⟨⟨_, ((h State.reset).1 (by decide)).1⟩, ⟨_, ((h State.reset).1 (by decide)).2⟩,
    ⟨_, (h (carrying .divert)).2.1 (by decide) (by intro o ho; rw [← Option.some.inj ho])⟩,
    ⟨_, (h (carrying .admission)).2.2.1 (by decide) (by intro o ho; rw [← Option.some.inj ho])⟩,
    ⟨_, (h (lineIn .run)).2.2.2.1 (by intro o ho; cases ho)⟩, ⟨_, (h (lineIn .run)).2.2.2.2.1 (by intro o ho; cases ho)⟩⟩
theorem test_witness_ShuttleEnds_taken (h : Obligations.ShuttleEnds) :
    Answers .admitDeadline (carrying .admission) ∧ Answers .divertDeadline (carrying .divert) ∧
    Answers .divertPass (carrying .divert) ∧ Answers .ovenEnter (carrying .admission) :=
  have a := (h (carrying .admission)).2.2.2.2.2 ⟨.admission, 0, 0, 0, 20000⟩ (by decide)
  have d := (h (carrying .divert)).2.2.2.2.2 ⟨.divert, 0, 0, 0, 20000⟩ (by decide)
  ⟨⟨_, a.1 (by decide)⟩, ⟨_, d.2.1 (by decide)⟩,
    ⟨_, d.2.2.1 (by decide) (by decide) { boardAt .flashing .toDivert with mark := some .scrap } .scrap (by decide) (by decide)⟩,
    ⟨_, a.2.2.2 (by decide) (by decide) (boardAt .ovenReady (.bay 0)) (by decide)⟩⟩
def sampled : State := (inOven .run).setZone 3 ⟨935, some 0, false, some 3000⟩
theorem test_witness_ZoneEvents (h : Obligations.ZoneEvents) :
    Answers (.zoneSample 1 935 false) State.reset ∧ Answers (.zoneSample 5 935 false) (inOven .run) ∧
    Answers (.zoneSample 4 935 true) (inOven .run) ∧ Answers (.zoneSample 1 0x8000 false) (inOven .run) ∧
    Answers (.zoneStale 0) (inOven .run) ∧ Answers (.zoneStale 3) sampled ∧ Answers (.zoneChange 0) (inOven .run) ∧
    Answers (.zoneChange 0) (queued .run) :=
  ⟨⟨_, (h.1 1 935 0 State.reset).1 false (by decide)⟩, ⟨_, (h.1 5 935 0 (inOven .run)).2.1 false (by decide) (by decide)⟩,
    ⟨_, (h.1 4 935 0 (inOven .run)).2.2.1 (by decide) (by decide) (by decide)⟩,
    ⟨_, (h.1 1 0x8000 0 (inOven .run)).2.2.2.1 0 (by decide) (by decide)⟩,
    ⟨_, ((h.1 1 0 0 (inOven .run)).2.2.2.2.1 0).1 (by decide)⟩, ⟨_, ((h.1 1 0 0 sampled).2.2.2.2.1 3).2 3000 (by decide)⟩,
    ⟨_, (h.1 1 0 0 (inOven .run)).2.2.2.2.2.1 _ 0 1 rfl (by decide) (by decide) (by decide) (by decide) (by decide)⟩,
    ⟨_, (h.1 1 0 0 (queued .run)).2.2.2.2.2.2 (by intro b hb; rw [← Option.some.inj hb]; decide)⟩⟩
theorem test_witness_Credit (h : Obligations.ZoneEvents) :
    (∃ b, ((inOven .run).creditBoard 100 0).board 0 = some b ∧ b.overTemp = false) ∧
    (∃ t, ((inOven .run).modBoardQuiet 0 fun b => { b with overTemp := true }).creditBoard 2500 0 = t) ∧
    ∃ u : State, (inOven .run).creditBoard 2500 0 = u.raise 10 0 :=
  ⟨⟨_, congrArg (fun u : State => u.board 0) ((h.2 100 0 (inOven .run) _ 0 rfl rfl).1 (by decide)), rfl⟩,
    ⟨_, (h.2 2500 0 ((inOven .run).modBoardQuiet 0 fun b => { b with overTemp := true }) _ 0 rfl rfl).2.1 (by decide) rfl⟩,
    ⟨_, (h.2 2500 0 (inOven .run) _ 0 rfl rfl).2.2 (by decide) rfl⟩⟩
theorem test_witness_OvenExit (h : Obligations.OvenExit) :
    Answers (.overdueExpiry 0) (queued .run) ∧ Answers (.overdueExpiry 0) (inOven .halted) ∧ Answers .ovenExit State.reset ∧
    Answers .ovenExit (lineIn .run) ∧ Answers .ovenExit (inOven .run) :=
  ⟨⟨_, (h.1 0 (queued .run)).1 (by intro b hb; rw [← Option.some.inj hb]; decide)⟩,
    ⟨_, (h.1 0 (inOven .halted)).2 _ 0 rfl (by decide) (by decide) (by decide)⟩,
    ⟨_, (h.2 State.reset).1 (by decide)⟩, ⟨_, (h.2 (lineIn .run)).2.1 (by decide) (by decide)⟩,
    let ⟨_, w⟩ := (h.2 (inOven .run)).2.2 0 [] _ (by decide) (by decide) rfl .overcure
      ⟨fun _ => rfl, fun n => absurd ⟨⟨0, 6000, 0, false⟩, .head _, ⟨0, 1, 5⟩, by decide, by decide⟩ n,
        fun n => absurd ⟨⟨0, 6000, 0, false⟩, .head _, ⟨0, 1, 5⟩, by decide, by decide⟩ n,
        fun n => absurd ⟨⟨0, 6000, 0, false⟩, .head _, ⟨0, 1, 5⟩, by decide, by decide⟩ n⟩
    ⟨_, w.2⟩⟩
/-- A board in the oven with one accumulator of material 0, whose class asks for a dose of 1000 and allows 5000. -/
def dosed (gap : Bool) (dose : Nat) : State :=
  let s := withBoard .run { boardAt .inOven .oven with doseGap := gap, accs := [⟨0, dose, 0, false⟩] } []
  { s with oven := { s.oven with occupancy := [0] } }
theorem test_witness_OvenExit_verdicts (h : Obligations.OvenExit) :
    Answers .ovenExit (dosed true 500) ∧ Answers .ovenExit (dosed false 500) ∧ Answers .ovenExit (dosed false 1000) := by
  have within : ∀ (g : Bool) (d : Nat), d ≤ 5000 → ¬ ∃ a ∈ [(⟨0, d, 0, false⟩ : Accumulator)], ∃ x, class1.slotOf a.material = some x ∧
      x.maximum * 1000 < a.dose := by
    rintro _ d hd ⟨a, ha, x, hx, hm⟩
    obtain rfl := List.mem_singleton.1 ha
    cases hx; simp at hm; omega
  have short : ∃ a ∈ [(⟨0, 500, 0, false⟩ : Accumulator)], ∃ x, class1.slotOf a.material = some x ∧ a.dose < x.required * 1000 :=
    ⟨_, .head _, ⟨0, 1, 5⟩, by decide, by decide⟩
  have enough : ¬ ∃ a ∈ [(⟨0, 1000, 0, false⟩ : Accumulator)], ∃ x, class1.slotOf a.material = some x ∧ a.dose < x.required * 1000 := by
    rintro ⟨a, ha, x, hx, hm⟩
    obtain rfl := List.mem_singleton.1 ha
    cases hx; simp at hm
  refine ⟨?_, ?_, ?_⟩
  · obtain ⟨_, w⟩ := (h.2 (dosed true 500)).2.2 0 [] _ (by decide) (by decide) rfl .doseUncertain
      ⟨fun a => absurd a (within true 500 (by decide)), fun _ _ _ => rfl, fun _ _ e => (nomatch e), fun _ n => absurd short n⟩
    exact ⟨_, w.2⟩
  · obtain ⟨_, w⟩ := (h.2 (dosed false 500)).2.2 0 [] _ (by decide) (by decide) rfl .undercure
      ⟨fun a => absurd a (within true 500 (by decide)), fun _ _ e => (nomatch e), fun _ _ _ => rfl, fun _ n => absurd short n⟩
    exact ⟨_, w.2⟩
  · obtain ⟨_, w⟩ := (h.2 (dosed false 1000)).2.2 0 [] _ (by decide) (by decide) rfl .cured
      ⟨fun a => absurd a (within true 1000 (by decide)), fun _ b => absurd b enough, fun _ b => absurd b enough, fun _ _ => rfl⟩
    exact ⟨_, w.2⟩
theorem test_witness_CureRate (h : Obligations.CureRate) : acrylic.rate 400 = 0 ∧ acrylic.rate 1200 = 1536 ∧
    min 256 512 ≤ acrylic.rate 935 :=
  ⟨(h acrylic 400 (by decide)).1 (400, 0) (by decide) (by decide), (h acrylic 1200 (by decide)).2.1 (1200, 1536) (by decide) (by decide),
    ((h acrylic 935 (by decide)).2.2 [(400, 0), (600, 16), (700, 48), (800, 128)] (900, 256) (1000, 512)
      [(1100, 1024), (1200, 1536)] (by decide) (by decide) (by decide)).2.1⟩
theorem test_witness_DoseCredit (h : Obligations.DoseCredit) :
    ((Accumulator.mk 1 16777215 255 false).credit 4095 2000).saturated = true ∧
    ((Accumulator.mk 1 16777215 0 true).credit 1 100).rest = 0 ∧
    256 * 16777215 + 100 = 256 * ((Accumulator.mk 1 16777215 0 false).credit 1 100).dose +
      ((Accumulator.mk 1 16777215 0 false).credit 1 100).rest ∧
    256 * ((Accumulator.mk 1 0 255 false).credit 345 2000).dose + ((Accumulator.mk 1 0 255 false).credit 345 2000).rest = 690255 :=
  ⟨((h ⟨1, 16777215, 255, false⟩ 4095 4500 0 (by decide) (by decide) (by decide)).2.2.2.2.2.2.2.1 (by decide)).2.2,
    ((h ⟨1, 16777215, 0, true⟩ 1 100 0 (by decide) (by decide) (by decide)).2.2.2.2.2.2.2.2 (by decide)).2.1,
    ((h ⟨1, 16777215, 0, false⟩ 1 100 0 (by decide) (by decide) (by decide)).2.2.2.2.2.2.1 (by decide) (by decide)).1.symm,
    ((h ⟨1, 0, 255, false⟩ 345 2000 0 (by decide) (by decide) (by decide)).2.2.2.2.2.2.1 (by decide) (by decide)).1⟩

/-! ### Holds -/

def routed (n : Nat) (r : RouteEntry) (s : State) : State := { s with hold := { s.hold with routing := [(n, r)] } }
theorem test_witness_RaiseTable (h : Obligations.RaiseTable) :
    (∃ t, (routed 15 ⟨0, .stop, true, false⟩ (queued .run)).raiseCore false 0 15 = t) ∧
    (∃ t, (routed 15 ⟨0, .divert, false, false⟩ (queued .run)).raiseCore true 0 15 = t) ∧
    (∃ t, (queued .run).raiseCore false 0 0 = t) ∧
    (withBoard .run { boardAt .queued .laneQueue with pendingSet := 1#16 } [0]).raiseCore false 0 0 =
      withBoard .run { boardAt .queued .laneQueue with pendingSet := 1#16 } [0] :=
  ⟨⟨_, (h.1 (routed 15 ⟨0, .stop, true, false⟩ (queued .run)) 0 15 (boardAt .queued .laneQueue) false (by decide)).1 (by decide)⟩,
    ⟨_, (h.1 (routed 15 ⟨0, .divert, false, false⟩ (queued .run)) 0 15 (boardAt .queued .laneQueue) true (by decide)).2.1 (by decide)
      (by decide)⟩,
    ⟨_, (h.1 (queued .run) 0 0 (boardAt .queued .laneQueue) false (by decide)).2.2.2.1 (by decide) (by decide) (by decide)⟩,
    (h.1 (withBoard .run { boardAt .queued .laneQueue with pendingSet := 1#16 } [0]) 0 0 _ false rfl).2.2.1 (by decide) (by decide)
      (by decide)⟩
/-- A board of slot 0, blocked by reason 0 where `blocked`. -/
def reacting (life : LifeState) (loc : Location) (mark : Option Mark) (blocked : Bool) (status : LaneStatus) : State :=
  (withBoard .run { boardAt life loc with mark := mark, pendingSet := if blocked then 1#16 else 0 } [0]).setLane 0
    { resetLane with status := status }
theorem test_witness_React_early (h : Obligations.RaiseTable) :
    (queued .run).react 0 true = queued .run ∧
    (∃ u : State, (reacting .atSpray .sprayPos (some .scrap) false .idle).react 0 false = u.requestBay 0) ∧
    (waiting .run).react 0 true = (waiting .run).startTest 0 ∧ stroking.react 0 true = stroking ∧
    (disarmedBoard none 0).react 0 true = (disarmedBoard none 0).departDisarmed 0 :=
  ⟨(h.2 (queued .run) 0 _ true rfl).1 (.inl rfl),
    ⟨_, ((h.2 (reacting .atSpray .sprayPos (some .scrap) false .idle) 0 _ false rfl).2.1 rfl).1 (by decide)⟩,
    ((h.2 (waiting .run) 0 _ true rfl).2.1 rfl).2 rfl,
    (h.2 stroking 0 _ true rfl).2.2.1 rfl ⟨_, _, rfl, rfl, rfl⟩,
    (h.2 (disarmedBoard none 0) 0 _ true rfl).2.2.2.1 rfl (by rintro ⟨o, x, ho, _⟩; cases ho) rfl⟩
theorem test_witness_React_spraying (h : Obligations.RaiseTable) :
    let s := reacting .spraying .sprayPos
    (s (some .rework) false .running).react 0 false = (s (some .rework) false .running).abandon 0 0 ∧
    (s none true .running).react 0 false = (s none true .running).stopLane 0 ∧
    (((s none false .stopped).react 0 true).lane 0).status = .running :=
  have w := fun m k st was => (h.2 (reacting .spraying .sprayPos m k st) 0 _ was rfl).2.2.2.2.1 rfl
    (by rintro ⟨o, x, ho, _⟩; cases ho) rfl
  ⟨(w (some .rework) false .running false).1 (by decide), (w none true .running false).2.1 rfl (by decide),
    congrArg (fun u : State => (u.lane 0).status) ((w none false .stopped true).2.2 rfl (by decide))⟩
theorem test_witness_React_late (h : Obligations.RaiseTable) :
    (timing none).react 0 true = (timing none).testReady 0 ∧
    (((inBay .run .ovenReady).react 0 false).board 0).map (·.life) = some .flashing ∧
    (reacting .ovenReady (.bay 0) none true .idle).react 0 false ≠ reacting .ovenReady (.bay 0) none true .idle ∧
    ((carrying .admission).react 0 false).oven.shuttle = none :=
  ⟨(h.2 (timing none) 0 timed true rfl).2.2.2.2.2.1 rfl (by decide),
    congrArg (fun u : State => (u.board 0).map (·.life)) (((h.2 (inBay .run .ovenReady) 0 _ false rfl).2.2.2.2.2.2 rfl rfl).2.1
      (.inr (.inr ⟨rfl, rfl⟩)) (by decide)),
    fun e => absurd ((((h.2 (reacting .ovenReady (.bay 0) none true .idle) 0 _ false rfl).2.2.2.2.2.2 rfl rfl).2.1
      (.inl (by decide)) (by decide)).symm.trans e) (by decide),
    (congrArg (fun u : State => u.oven.shuttle) (((h.2 (carrying .admission) 0 _ false rfl).2.2.2.2.2.2 rfl rfl).2.2
      (.inr (.inr ⟨rfl, rfl⟩)) (by decide))).trans (by decide)⟩
theorem test_witness_React_ready (h : Obligations.RaiseTable) :
    let s := (inBay .run .ovenReady).modBoardQuiet 0 fun b => { b with inspectDone := true }
    s.react 0 false = s :=
  ((h.2 ((inBay .run .ovenReady).modBoardQuiet 0 fun b => { b with inspectDone := true }) 0 _ false rfl).2.2.2.2.2.2 rfl rfl).1
    (by decide)
theorem test_witness_Routing (h : Obligations.Routing) :
    Answers (.routeRead 1 0) State.reset ∧ Answers (.routeWrite 1 15 ⟨16, 0, 0, 0⟩) (queued .run) ∧ Answers (.routeRead 1 16) (queued .run) ∧
    Answers (.routeRead 1 15) (queued .run) ∧ Answers (.routeWrite 1 15 ⟨15, 2, 0, 1⟩) (queued .run) :=
  ⟨⟨_, ((h 1 0 ⟨0, 0, 0, 0⟩ State.reset).1 (by decide)).2⟩,
    ⟨_, ((h 1 15 ⟨16, 0, 0, 0⟩ (queued .run)).2 (by decide)).1 (by decide)⟩,
    ⟨_, ((h 1 16 ⟨0, 0, 0, 0⟩ (queued .run)).2 (by decide)).2.1 (by decide)⟩,
    ⟨_, ((h 1 15 ⟨0, 0, 0, 0⟩ (queued .run)).2 (by decide)).2.2.1 (by decide)⟩,
    let ⟨_, w⟩ := ((h 1 15 ⟨15, 2, 0, 1⟩ (queued .run)).2 (by decide)).2.2.2 .divert (by decide) (by decide) (by decide) (by decide)
      (by decide)
    ⟨_, w.2.2.2.2⟩⟩
/-- R153 by hand: reason 3, held by the SPRAYING board of slot 0 and the AT_SPRAY board of slot 1, comes under DIVERT; step 1
gives the board of slot 1 a bay and leaves the one of slot 0 SPRAYING. -/
def diverted : State :=
  let b := { boardAt .spraying .sprayPos with pendingSet := 8#16 }
  ((withBoard .run b []).setBoard 1 (some { b with tag := [0x42#8], lane := 1, life := .atSpray })).setRoute 3
    ⟨3, .divert, false, false⟩
theorem test_route_write_marks : ((diverted.divertAll 3).bay 0 = .reserved 1) ∧
    (((diverted.divertAll 3).board 1).map (·.life)) = some .flashing := by decide
theorem test_route_write_spraying : (((diverted.divertAll 3).board 0).map fun b => (b.life, b.mark)) = some (.spraying, some .rework) := by
  decide
/-- A board with reasons 3 and 15 in service. -/
def serviced : State := withBoard .run { boardAt .queued .laneQueue with inService := 0x8008#16 } [0]
theorem test_witness_HoldAndRelease (h : Obligations.HoldAndRelease) :
    Answers (.hold 1 32) (queued .run) ∧ Answers (.hold 1 0) (queued .run) ∧ Answers (.holdRelease 1 0 15 0) (queued .run) ∧
    Answers (.holdRelease 1 0 15 2) serviced ∧ Answers (.holdRelease 1 0 255 0) serviced :=
  ⟨⟨_, (h.1 1 32 (queued .run)).1 .outOfRange (by decide)⟩,
    ⟨_, (h.1 1 0 (queued .run)).2 (boardAt .queued .laneQueue) (by decide) (by decide) (by decide)⟩,
    ⟨_, (h.2 1 0 15 0 (queued .run)).1 .notInService (by decide)⟩,
    ⟨_, (h.2 1 0 15 2 serviced).2 _ .scrap 15 (by decide) (by decide) (by decide) (by decide) rfl (by decide) (by decide) (by decide)
      (by decide)⟩,
    ⟨_, (h.2 1 0 255 0 serviced).2 _ .goOn 3 (by decide) (by decide) (by decide) (by decide) rfl (by decide) (by decide) (by decide)
      (by decide)⟩⟩
theorem test_witness_HoldRelease_divert (h : Obligations.HoldAndRelease) : Answers (.holdRelease 1 0 3 1) serviced :=
  ⟨_, (h.2 1 0 3 1 serviced).2 _ .divert 3 (by decide) (by decide) (by decide) (by decide) rfl (by decide) (by decide) (by decide)
    (by decide)⟩
def pended : State := withBoard .run { boardAt .queued .laneQueue with pendingSet := 0x8000#16 } [0]
theorem pended_board (k : Nat) (b : Board) (hb : pended.board k = some b) (m : Nat) (hm : m < 16)
    (hp : b.pendingSet.has m = true) : k = 0 ∧ m = 15 := by
  rw [show pended.board k = if k = 0 then some _ else none from rfl] at hb
  split at hb
  · rw [← Option.some.inj hb] at hp
    refine ⟨‹_›, ?_⟩
    revert m; decide
  · cases hb
theorem test_witness_HoldTake (h : Obligations.HoldTakeAndStatus) :
    Answers (.holdTake 1) State.reset ∧ Answers (.holdTake 1) (lineIn .run) ∧ Answers (.holdTake 1) pended :=
  ⟨⟨_, (h.1 1 State.reset).1 (by decide)⟩,
    ⟨_, (h.1 1 (lineIn .run)).2.1 (by decide) (by rintro k m ⟨_, _, _, b, hb, _⟩; cases hb)⟩,
    ⟨_, (h.1 1 pended).2.2 0 15 _ (by decide) (by decide) ⟨by decide, by decide, by decide, _, rfl, by decide⟩ rfl (by
      rintro k m ⟨_, hm, _, b, hb, hp⟩ hne
      obtain ⟨rfl, rfl⟩ := pended_board k b hb m hm hp
      exact absurd rfl hne)⟩⟩
theorem test_witness_HoldStatus (h : Obligations.HoldTakeAndStatus) :
    Answers (.holdStatus 1 0 0) State.reset ∧ Answers (.holdStatus 1 32 0) (queued .run) ∧ Answers (.holdStatus 1 255 32) (queued .run) ∧
    Answers (.holdStatus 1 31 0) (queued .run) ∧ Answers (.holdStatus 1 0 99) (queued .run) ∧ Answers (.holdStatus 1 255 31) (queued .run) :=
  ⟨⟨_, (h.2 1 0 0 State.reset).1 (by decide)⟩, ⟨_, ((h.2 1 32 0 (queued .run)).2 (by decide)).1 (by decide)⟩,
    ⟨_, ((h.2 1 255 32 (queued .run)).2 (by decide)).1 (by decide)⟩,
    ⟨_, ((h.2 1 31 0 (queued .run)).2 (by decide)).2.1 (by decide) (by decide)⟩,
    ⟨_, ((h.2 1 0 99 (queued .run)).2 (by decide)).2.2.1 (boardAt .queued .laneQueue) (by decide) (by decide)⟩,
    ⟨_, ((h.2 1 255 31 (queued .run)).2 (by decide)).2.2.2 (by decide) (by decide)⟩⟩

/-! ### Line control -/

theorem test_witness_StartUpEnd (h : Obligations.PowerOnAndClear) :
    Answers .startUpEnd (lineIn .run) ∧ Answers .startUpEnd State.reset :=
  ⟨⟨_, (h.2 (lineIn .run)).1 (by decide)⟩, ⟨_, (h.2 State.reset).2 (by decide)⟩⟩
/-- A board of lane 0 being sprayed by applicator 0, the shuttle with a marked board of slot 1 at the divert gate. -/
def busy : State :=
  let s := withBoard .run (boardAt .spraying .sprayPos) [0]
  { (withOp .stroke (some ⟨0, 47, false, 1, true⟩) s) with
    tracker := { s.tracker with boards := [(0, some (boardAt .spraying .sprayPos)),
      (1, some { boardAt .flashing .toDivert with tag := [0x42], mark := some .rework })] }
    oven := { s.oven with bays := s.oven.bays.set 7 (.occupied 1), shuttle := some ⟨.divert, 1, 7, 0, 20000⟩ } }
theorem busy_board (k : Nat) : busy.board k = if k = 0 then some (boardAt .spraying .sprayPos)
    else if k = 1 then some { boardAt .flashing .toDivert with tag := [0x42], mark := some .rework } else none := rfl
theorem busy_at (k : Nat) (b : Board) (hb : busy.board k = some b) (hl : b.life = .spraying) : busy.atSprayPos b.lane k b := by
  rw [busy_board] at hb
  split at hb
  · cases hb; subst k; exact ⟨by decide, rfl, rfl, rfl, by intro j _ hj; omega⟩
  · split at hb
    · cases hb; cases hl
    · cases hb
theorem test_witness_EnteringHalted (h : Obligations.HaltAndEstop) :
    ((busy.enterHalted .estop).unit 0).state = .fouled ∧ ((busy.enterHalted .estop).unit 1).need = none ∧
    (busy.enterHalted .estop).board 0 = some { boardAt .spraying .sprayPos with
      life := .atSpray, interrupted := true, disarmed := false, pendingSet := 0x40 } ∧
    ∃ b, (busy.enterHalted .estop).board 1 = some b ∧ b.loc = .bay 7 :=
  have w := h.1 busy .estop busy_at (by
    intro o b ho hb; rw [← Option.some.inj ho, busy_board] at hb; cases hb; decide)
  ⟨congrArg Applicator.state (w.2.2.2.2.2.2.1 0 ⟨_, rfl, rfl⟩ (by decide)),
    congrArg Applicator.need (w.2.2.2.2.2.2.2.1 1 (by rintro ⟨o, ho, ha⟩; rw [← Option.some.inj ho] at ha; exact absurd ha (by decide))
      (by decide) (by decide)),
    w.2.2.2.2.2.2.2.2.2.2.2.1 0 _ rfl (by decide) (by decide) (by decide),
    ⟨_, w.2.2.2.2.2.2.2.2.2.2.2.2.2.2.2.1 ⟨.divert, 1, 7, 0, 20000⟩ _ rfl (by decide) rfl, rfl⟩⟩
theorem test_witness_EnteringHalted_units (h : Obligations.HaltAndEstop) (m : Option Nat) (hm : m = none ∨ m = some 0) :
    (((withUnit .run .capping m).enterHalted .halt).unit 0).waiting = none ∧
    (((withUnit .run .uncapping m).enterHalted .halt).unit 0).waiting = none := by
  have free : ∀ st, ¬ ∃ o, ((withUnit .run st m).lane (appLane 0)).op = some o ∧ o.app = 0 := by
    rintro st ⟨o, ho, _⟩; cases ho
  have w := fun st => h.1 (withUnit .run st m) .halt (by intro k b hb; cases hb) (by intro o b ho; cases ho)
  refine ⟨?_, congrArg Applicator.waiting ((w .uncapping).2.2.2.2.2.2.2.2.1 0 (free _) rfl)⟩
  obtain rfl | rfl := hm
  · exact congrArg Applicator.waiting ((w .capping).2.2.2.2.2.2.2.2.2.1 0 (free _) rfl rfl)
  · exact congrArg Applicator.waiting ((w .capping).2.2.2.2.2.2.2.2.2.2.1 0 0 (free _) rfl rfl)
theorem test_witness_EnteringHalted_fouled (h : Obligations.HaltAndEstop) :
    let s := (withOp .stroke none (withUnit .run .fouled none))
    ((s.enterHalted .halt).unit 0).need = none :=
  have w := h.1 (withOp .stroke none (withUnit .run .fouled none)) .halt (by intro k b hb; cases hb)
    (by intro o b ho; cases ho)
  congrArg Applicator.need (w.2.2.2.2.2.1 0 ⟨_, rfl, rfl⟩ (by decide))
def markedSpray : State := withBoard .run { boardAt .spraying .sprayPos with mark := some .scrap } [0]
theorem test_witness_EnteringHalted_marked (h : Obligations.HaltAndEstop) :
    (markedSpray.enterHalted .halt).blockedAt 0 = false ∧ (markedSpray.enterHalted .halt).board 1 = none :=
  have w := h.1 markedSpray .halt (by
    intro k b hb hl
    rw [show markedSpray.board k = if k = 0 then some _ else none from rfl] at hb
    split at hb
    · cases hb; subst k; exact ⟨by decide, rfl, rfl, rfl, by intro j _ hj; omega⟩
    · cases hb) (by intro o b ho; cases ho)
  ⟨by rw [State.blockedAt, w.2.2.2.2.2.2.2.2.2.2.2.2.2.1 0 _ .scrap rfl (by decide) (by decide)]; decide,
    (w.2.2.2.2.2.2.2.2.2.2.2.2.2.2.1 1 (by intro b hb; cases hb) (by intro o ho; cases ho)).trans rfl⟩
/-- A board being sprayed under an unmasked DIVERT routing of reason 6. -/
def diverting : State := let s := withBoard .run (boardAt .spraying .sprayPos) [0]
  { s with hold := { s.hold with routing := [(6, ⟨6, .divert, false, false⟩)] } }
theorem test_witness_EnteringHalted_diverts (h : Obligations.HaltAndEstop) :
    ∃ b, (diverting.enterHalted .halt).board 0 = some b ∧ b.life = .flashing ∧ b.mark = some .rework :=
  have w := h.1 diverting .halt (by
    intro k b hb hl
    rw [show diverting.board k = if k = 0 then some _ else none from rfl] at hb
    split at hb
    · cases hb; subst k; exact ⟨by decide, rfl, rfl, rfl, by intro j _ hj; omega⟩
    · cases hb) (by intro o b ho; cases ho)
  ⟨_, w.2.2.2.2.2.2.2.2.2.2.2.2.1 0 _ rfl (by decide) (by decide) (by decide), rfl, rfl⟩
/-- A board in bay 0 under admission, its open deadline passed. -/
def heldBack : State := { timing (some ⟨.admission, 0, 0, 0, 20000⟩) with clock := 900 }
theorem test_witness_EnteringHalted_admission (h : Obligations.HaltAndEstop) :
    (heldBack.enterHalted .halt).board 0 = (heldBack.heldOver 0).board 0 :=
  (h.1 heldBack .halt (by
    intro k b hb hl
    rw [show heldBack.board k = if k = 0 then some timed else none from rfl] at hb
    split at hb
    · cases hb; cases hl
    · cases hb) (by intro o b ho hb; cases ho; cases hb; decide)).2.2.2.2.2.2.2.2.2.2.2.2.2.2.2.2.1 ⟨.admission, 0, 0, 0, 20000⟩ rfl rfl
theorem test_witness_HaltAndEstop (h : Obligations.HaltAndEstop) :
    Answers (.halt 1) State.reset ∧ Answers (.halt 1) (lineIn .halted) ∧ Answers (.halt 1) busy ∧
    Answers (.estopChange true) State.reset ∧ Answers (.estopChange true) (lineIn .halted) ∧ Answers (.estopChange true) busy :=
  ⟨⟨_, (h.2 1 State.reset).1 (by decide)⟩, ⟨_, (h.2 1 (lineIn .halted)).2.1 (by decide)⟩,
    ⟨_, (h.2 1 busy).2.2.1 (by decide) (by decide)⟩,
    ⟨_, ((h.2 1 State.reset).2.2.2.2 true (by decide)).1 (by decide)⟩,
    ⟨_, ((h.2 1 (lineIn .halted)).2.2.2.2 true (by decide)).2.1 (by decide) (by decide)⟩,
    ⟨_, ((h.2 1 busy).2.2.2.2 true (by decide)).2.2 (by decide) (by decide) (by decide)⟩⟩
theorem test_witness_ModeAndRecover (h : Obligations.ModeAndRecover) :
    Answers (.mode 1 1) State.reset ∧ Answers (.mode 1 4) (lineIn .run) ∧ Answers (.mode 1 3) (lineIn .config) ∧
    Answers (.mode 1 3) (queued .drain) ∧ Answers (.mode 1 2) (lineIn .config) ∧ Answers (.mode 1 1) (queued .drain) ∧
    Answers (.mode 1 3) (queued .run) ∧ Answers (.mode 1 3) (lineIn .run) :=
  ⟨⟨_, (h 1 1 State.reset).1 (by decide)⟩, ⟨_, (h 1 4 (lineIn .run)).2.1 (by decide) (by decide)⟩,
    ⟨_, (h 1 3 (lineIn .config)).2.2.1 (by decide) (by decide) (by decide)⟩,
    ⟨_, (h 1 3 (queued .drain)).2.2.2.1 (by decide)⟩, ⟨_, (h 1 2 (lineIn .config)).2.2.2.2.1 (by decide) (by decide)⟩,
    ⟨_, (h 1 1 (queued .drain)).2.2.2.2.2.1 (by decide) (by decide)⟩,
    ⟨_, ((h 1 3 (queued .run)).2.2.2.2.2.2.1 (by decide) (by decide)).1 ⟨0, _, rfl, by decide, by decide⟩⟩,
    ⟨_, ((h 1 3 (lineIn .run)).2.2.2.2.2.2.1 (by decide) (by decide)).2 (by intro k b hb; cases hb)⟩⟩
theorem test_witness_Recover (h : Obligations.ModeAndRecover) : Answers (.recover 1) (lineIn .run) ∧
    Answers (.recover 1) { lineIn .halted with line := { (lineIn .halted).line with estop := true } } ∧ Answers (.recover 1) (lineIn .halted) :=
  ⟨⟨_, (h 1 1 (lineIn .run)).2.2.2.2.2.2.2.1 (by decide)⟩, ⟨_, (h 1 1 _).2.2.2.2.2.2.2.2.1 (by decide) (by decide)⟩,
    ⟨_, (h 1 1 (lineIn .halted)).2.2.2.2.2.2.2.2.2 (by decide) (by decide)⟩⟩
theorem test_witness_LineSet (h : Obligations.LineSet) :
    Answers (.lineSet 1 (.other 2)) (lineIn .run) ∧ Answers (.lineSet 1 (.application 9 5 1 10)) (lineIn .config) ∧
    Answers (.lineSet 1 (.application 8 120 8 600)) (lineIn .config) ∧ Answers (.lineSet 1 (.oven 1 2 3 7200 300)) (lineIn .run) ∧
    Answers (.lineSet 1 (.oven 1 2 3 4 5)) (inOven .halted) :=
  ⟨⟨_, (h 1 (.other 2) (lineIn .run)).1 .outOfRange (by decide)⟩,
    ⟨_, (h 1 (.application 9 5 1 10) (lineIn .config)).1 .outOfRange (by decide)⟩,
    ⟨_, (h 1 (.application 8 120 8 600) (lineIn .config)).2.1 8 120 8 600 (by decide) (by decide) (by decide) (by decide) (by decide)
      (by decide) (by decide) (by decide) (by decide) (by decide)⟩,
    ⟨_, ((h 1 (.oven 1 2 3 7200 300) (lineIn .run)).2.2 1 2 3 7200 300 (by decide) (by decide) (by decide) (by decide) (by decide)
      (by decide) (by decide) (by decide) (by decide)).1 (by decide)⟩,
    ⟨_, ((h 1 (.oven 1 2 3 4 5) (inOven .halted)).2.2 1 2 3 4 5 (by decide) (by decide) (by decide) (by decide) (by decide)
      (by decide) (by decide) (by decide) (by decide)).2 (by decide)⟩⟩
/-- Applicator 0 capping wet, 1 capping dry, 2 primed, 3 with a spit in flight, 4 uncapping, 5 fouled. -/
def mixed : State :=
  let r := fun st m => ({ resetApplicator with state := st, material := m } : Applicator)
  { lineIn .halted with
    apps := { State.reset.apps with units := #v[r .capping (some 0), r .capping none, r .primed (some 0), r .spitting (some 0),
      r .uncapping none, r .fouled none] }
    path := { lanes := #v[resetLane, { resetLane with op := some ⟨1, .spit, 3, 3000, none, none⟩ }] } }
theorem mixed_free (a : Fin 6) (ha : a ≠ 3) : ¬ ∃ o, (mixed.lane (appLane a)).op = some o ∧ o.app = a := by
  rintro ⟨o, ho, he⟩; revert ho; fin_cases a <;> intro ho <;> cases ho <;> first | exact absurd he (by decide) | exact ha rfl
theorem test_witness_LineReset (h : Obligations.LineReset) : Answers (.lineReset 1) (lineIn .run) ∧
    ∃ u : State, (u.unit 0).state = .fouled ∧ (u.unit 1).state = .idleDry ∧ (u.unit 2).state = .fouled ∧
      (u.unit 3).state = .fouled ∧ (u.unit 4).state = .parked ∧ (u.unit 5).need = none :=
  ⟨⟨_, (h 1 (lineIn .run)).1 (by decide) (by decide)⟩,
    let ⟨u, w⟩ := (h 1 mixed).2 (by decide) ⟨by decide, by decide, by decide, by decide, by decide, by decide, by decide⟩
    have w := w.2.2.2.2.2.2.2.2.2
    ⟨u, congrArg Applicator.state (w.2.2.1 0 (mixed_free 0 (by decide)) (by decide) (by decide)),
      congrArg Applicator.state (w.2.2.2.1 1 (mixed_free 1 (by decide)) (by decide) (by decide)),
      congrArg Applicator.state (w.2.1 2 (mixed_free 2 (by decide)) (by decide)),
      congrArg Applicator.state (w.1 3 ⟨_, rfl, by decide⟩ (by decide)),
      congrArg Applicator.state (w.2.2.2.2.1 4 (mixed_free 4 (by decide)) (by decide)),
      congrArg Applicator.need (w.2.2.2.2.2.1 5 (.inl (by decide)))⟩⟩

/-! ### The message link -/

def hunting : State := State.reset.setRx .ovenNode ⟨[0xA5, 0x04], 7⟩
theorem test_witness_FrameIntake (h : Obligations.FrameIntake) :
    Answers (.frameTimeout .message) State.reset ∧ Answers (.frameTimeout .ovenNode) hunting :=
  ⟨⟨_, (h.1 [] .message State.reset).2.2.1 (by decide)⟩, ⟨_, (h.1 [] .ovenNode hunting).2.2.2 (by decide)⟩⟩
def outstanding (n waiting : Nat) : State :=
  { State.reset with link := { State.reset.link with
    intake := List.replicate n ⟨1, 7⟩, replies := List.replicate waiting ⟨0x81, 7, .intakeFull, .empty, false⟩ } }
theorem test_witness_Intake (h : Obligations.FrameIntake) :
    State.reset.intakeFrame ⟨1, 0, []⟩ = State.reset ∧ (outstanding 8 8).intakeFrame ⟨1, 7, []⟩ = outstanding 8 8 ∧
    (outstanding 8 7).intakeFrame ⟨1, 7, []⟩ ≠ outstanding 8 7 :=
  ⟨(h.2 ⟨1, 0, []⟩ State.reset).1 (by decide), ((h.2 ⟨1, 7, []⟩ (outstanding 8 8)).2.1 (by decide) (by decide)).trans (by decide),
    fun e => absurd (((h.2 ⟨1, 7, []⟩ (outstanding 8 7)).2.1 (by decide) (by decide)).symm.trans e) (by decide)⟩
/-- The answer to one frame taken as the eighth outstanding: unknown, of a wrong length, handed on. -/
theorem test_witness_Intake_taken (h : Obligations.FrameIntake) : ∃ t u, (outstanding 7 0).intakeFrame ⟨7, 7, []⟩ = t ∧
    (outstanding 7 0).intakeFrame ⟨3, 7, []⟩ = u ∧ ∃ i, readRequest 3 7 [2] = some i :=
  ⟨_, _, (show _ = _ from (h.2 ⟨7, 7, []⟩ (outstanding 7 0)).2.2 (by decide) (by decide)),
    (show _ = _ from (h.2 ⟨3, 7, []⟩ (outstanding 7 0)).2.2 (by decide) (by decide)),
    let ⟨_, w⟩ := (show ∃ i, _ from (h.2 ⟨3, 7, [2]⟩ (outstanding 7 0)).2.2 (by decide) (by decide))
    ⟨_, w.1⟩⟩
def sending (x : Transmitter) (rs : List Reply) (ns : List Notice) : State :=
  { State.reset with notices := ns, link := { State.reset.link with tx := x, replies := rs } }
def aReply (p : Bool) : Reply := ⟨0x81, 7, .ok, .empty, p⟩
theorem test_witness_Transmitting (h : Obligations.Transmitting) :
    Answers .replySend (sending .idle [aReply true] []) ∧ Answers .replySend State.reset ∧
    Answers .noticeSend (sending .idle [] [.line, .hold]) ∧ Answers .noticeSend State.reset ∧
    Answers .noticeSend (sending (.notice .oven) [] [.line]) ∧ Answers .replySent State.reset ∧
    Answers .replySent (sending (.reply (aReply true)) [] []) ∧ Answers .noticeFrameSent (sending (.notice .oven) [] []) :=
  ⟨⟨_, ((h (sending .idle [aReply true] [])).1 (aReply true) [] rfl rfl).1⟩, ⟨_, (h State.reset).2.1 (by decide)⟩,
    ⟨_, (h (sending .idle [] [.line, .hold])).2.2.1 .line [.hold] rfl rfl rfl⟩, ⟨_, (h State.reset).2.2.2.1 (by decide)⟩,
    ⟨_, ((h (sending (.notice .oven) [] [.line])).2.2.2.2.1 (by decide)).2⟩, ⟨_, ((h State.reset).2.2.2.2.2.1 (by decide)).1⟩,
    let ⟨_, w⟩ := ((h (sending (.reply (aReply true)) [] [])).2.2.2.2.2.2.1 (aReply true) rfl).2
    ⟨_, w.1⟩,
    ⟨_, ((h (sending (.notice .oven) [] [])).2.2.2.2.2.2.2 .oven rfl).2⟩⟩
theorem test_witness_FramesFound (h : Obligations.FramesFound) :
    (receive false ([0x00, 0xFF] ++ (Frame.mk 1 7 (List.replicate 1024 0)).bytes ++ [])).1.length = 1 ∧
    receive false ([0x00, 0xFF] ++ 0xA5#8 :: 0x01#8 :: 0x04#8 :: []) = receive false (0x01#8 :: 0x04#8 :: []) :=
  have w := h false [0x00, 0xFF] [] ⟨1, 7, List.replicate 1024 0⟩ (by decide) (by rw [List.length_replicate])
  ⟨by rw [w.1]; rfl, w.2.1 0x01 0x04 (by decide)⟩
theorem test_witness_FramesFound_wrong_crc (h : Obligations.FramesFound) :
    receive false ([0x00] ++ 0xA5#8 :: ((Frame.mk 1 7 []).covered ++ 0x17 :: 0xC7 :: [])) =
      receive false ((Frame.mk 1 7 []).covered ++ 0x17 :: 0xC7 :: []) :=
  (h false [0x00] [] ⟨1, 7, []⟩ (by decide) (by decide)).2.2 0x17 0xC7 (by decide +kernel)
theorem test_witness_RequestsReadBack (h : Obligations.RequestsReadBack) :
    readRequest 0x08 1 (leBytes 1 255 ++ classBytes classFields) = some (.classWrite 1 255 classFields) :=
  (h (.classWrite 1 255 classFields) _ (by decide) rfl).2.2

/-! ### Every step -/

def handedOn : State := { State.reset with link := { State.reset.link with handed := [.lineStatus 7] } }
theorem test_witness_StepRunsFront (h : Obligations.StepRunsFront) : (∃ t, step handedOn = .next t) ∧
    (∃ t, step { State.reset with clock := 250 } = .next t) ∧ ∃ t, step State.reset = .next t :=
  ⟨⟨_, ((h .startUpEnd [] handedOn).2 (by decide)).1 (.lineStatus 7) [] rfl⟩,
    ⟨_, ((h .startUpEnd [] { State.reset with clock := 250 }).2 (by decide)).2.1 (by decide) (by decide)⟩,
    ⟨_, ((h .startUpEnd [] State.reset).2 (by decide)).2.2 (by decide) (by decide)⟩⟩

/-- A queued board about to be retired, its history begun. -/
def leavingLine : State := { queued .run with pending := [.retire 1 0] }
theorem leavingLine_board (k : Nat) : leavingLine.board k = if k = 0 then some (boardAt .queued .laneQueue) else none := rfl
theorem leavingLine_cls (c : Nat) : leavingLine.cls c = if c = 1 then class1 else resetClass := rfl
theorem test_witness_TablesKept (h : Obligations.TablesKept) (t : State) (ht : step leavingLine = .next t) :
    t.Canonical ∧ t.TableSound ∧ t.HistoryOrdered ∧ t.RecipesSound := by
  have canonical : leavingLine.Canonical :=
    ⟨by decide, by decide, by decide, by decide, by decide, by decide, by decide⟩
  refine ⟨(h _ _ ht).1 canonical, (h _ _ ht).2.1 ⟨?_, ?_, ?_⟩, (h _ _ ht).2.2.1 ⟨by decide, ?_⟩, (h _ _ ht).2.2.2 canonical ⟨?_, ?_⟩⟩
  · intro k hk; rw [leavingLine_board, if_neg (by have : 32 ≤ k := hk; omega)]
  · intro j k b b' hj hk _
    rw [leavingLine_board] at hj hk
    split at hj <;> split at hk <;> simp_all
  · intro c
    have hb : leavingLine.boards = [(0, boardAt .queued .laneQueue)] := by decide
    rw [leavingLine_cls, hb]
    by_cases hc : c = 1
    · subst hc; decide
    · rw [if_neg hc]; simp [boardAt, resetClass, Ne.symm hc]
  · intro j e he; cases he
  · intro c hc
    rw [leavingLine_cls] at hc ⊢
    split at hc
    · subst c
      refine ⟨by decide, by decide, ?_, ?_, ?_⟩
      · intro m hm
        have : m = 0 := by simpa [ClassRecord.names, class1, eq_comm] using hm
        subst this; decide
      · rintro x (hx | hx) <;> cases hx; decide
      · intro x y _ hy; cases hy
    · cases hc
  · intro m hm
    rw [show leavingLine.mat m = if m = 0 then mat0 else resetMaterial from rfl] at hm ⊢
    split at hm
    · subst m; decide
    · cases hm
theorem test_witness_TablesKept_steps : ∃ t, step leavingLine = .next t := ⟨_, rfl⟩
theorem test_witness_LimitsKept (h : Obligations.LimitsKept) (t : State) (ht : step leavingLine = .next t) :
    t.ListsBounded ∧ t.notices.Nodup ∧ t.DebtsBounded ∧ t.DosesBounded ∧ t.FindingsBounded ∧ t.OpIdsInRange ∧
      t.hold.lastTaken < 32 :=
  have only : ∀ k b, leavingLine.board k = some b → b = boardAt .queued .laneQueue := by
    intro k b hb; rw [leavingLine_board] at hb; split at hb
    · exact (Option.some.inj hb).symm
    · cases hb
  ⟨(h _ _ ht).1 ⟨by decide, by decide, by decide, by decide, by decide, by decide, by decide, by decide,
      by intro o ho; cases ho⟩,
    (h _ _ ht).2.1 (by decide), (h _ _ ht).2.2.1 (by intro a; fin_cases a <;> decide),
    (h _ _ ht).2.2.2.1 (by intro k b hb; rw [only k b hb]; intro a ha; cases ha),
    (h _ _ ht).2.2.2.2.1 (by intro k b hb; rw [only k b hb]; decide),
    (h _ _ ht).2.2.2.2.2.1 (by intro l; fin_cases l <;> decide), (h _ _ ht).2.2.2.2.2.2 (by decide)⟩
theorem test_witness_ModeMachine (h : Obligations.ModeMachine) (t : State) (ht : exec .startUpEnd State.reset = .next t) :
    t.line.lastChange.after = t.line.mode := (h _ _ _ ht).1 (by decide)
theorem test_witness_ModeMachine_changes (h : Obligations.ModeMachine) : ∃ t, exec .startUpEnd State.reset = .next t ∧
    t.line.mode ≠ State.reset.line.mode ∧ (t.line.mode = .halted ∨ t.line.mode = .config) :=
  ⟨_, rfl, by decide, by have _ := (h _ _ _ (rfl : exec .startUpEnd State.reset = _)).2 (by decide); decide⟩
theorem test_witness_NothingStarts (h : Obligations.NothingStartsStopped) (t : State) (ht : exec (.halt 1) (queued .run) = .next t)
    (hm : t.line.mode = .halted) : (t.lane 0).op = none ∧ t.oven.shuttle = none :=
  have w := h _ _ _ ht (.inl hm)
  ⟨w.1 0 (by decide), w.2.1 (by decide)⟩
theorem test_witness_NothingStarts_halted : ∃ t, exec (.halt 1) (queued .run) = .next t ∧ t.line.mode = .halted :=
  ⟨_, rfl, by decide +kernel⟩
theorem test_witness_OneReply (h : Obligations.OneReply) (t : State) (ht : exec (.holdTake 9) pended = .next t) :
    t.link.replies.length = 1 := by
  obtain ⟨r, hr, _⟩ | ⟨_, _, hk, _⟩ := (h _ _ _ ht).1 0x38 (by decide)
  · rw [hr]; rfl
  · exact absurd hk (by decide)
theorem test_witness_OneReply_event (h : Obligations.OneReply) (t : State) (ht : exec (.laneArrive 0) pended = .next t) :
    t.link.replies = [] :=
  (h _ _ _ ht).2 (by decide) (by intro e he; cases he) (by intro e he; cases he) (by intro e he; cases he)
    (by intro e f he; cases he) (by decide) (by decide)
theorem test_witness_OneReply_takes : (∃ t, exec (.holdTake 9) pended = .next t) ∧ ∃ t, exec (.laneArrive 0) pended = .next t :=
  ⟨⟨_, rfl⟩, ⟨_, rfl⟩⟩

end Sys2Proof.Tests
end

section
/-! SUPPORT. What the shared operations over boards, heads and the shuttle can do, said once: `Evolves s0 s` holds where `s`
comes from `s0` by the updates they are made of, each under the condition it is made under. An invariant that every such
update keeps is kept by each of them, and by every command that is made of them alone. -/

namespace Sys2Proof.Machine

/-- What the shared operations leave of a board: its identity, its oven entry with its doses and their flags, and its
findings. -/
structure Board.Kept (b b' : Board) : Prop where
  tag : b'.tag = b.tag
  cls : b'.cls = b.cls
  lane : b'.lane = b.lane
  side : b'.side = b.side
  pass : b'.pass = b.pass
  announced : b'.announced = b.announced
  ovenEntry : b'.ovenEntry = b.ovenEntry
  doseGap : b'.doseGap = b.doseGap
  overTemp : b'.overTemp = b.overTemp
  accs : b'.accs = b.accs
  findings : b'.findings = b.findings
  overflow : b'.overflow = b.overflow

theorem Board.Kept.refl (b : Board) : b.Kept b := by constructor <;> rfl

theorem Board.Kept.trans {a b c : Board} (h : a.Kept b) (g : b.Kept c) : a.Kept c where
  tag := g.tag.trans h.tag
  cls := g.cls.trans h.cls
  lane := g.lane.trans h.lane
  side := g.side.trans h.side
  pass := g.pass.trans h.pass
  announced := g.announced.trans h.announced
  ovenEntry := g.ovenEntry.trans h.ovenEntry
  doseGap := g.doseGap.trans h.doseGap
  overTemp := g.overTemp.trans h.overTemp
  accs := g.accs.trans h.accs
  findings := g.findings.trans h.findings
  overflow := g.overflow.trans h.overflow

/-- The updates that the shared operations and the answering of requests are made of. -/
inductive Evolves (s0 : State) : State → Prop where
  | refl : Evolves s0 s0
  | post {s : State} (h : Evolves s0 s) (n : Notice) : Evolves s0 (s.post n)
  | setBoard {s : State} (h : Evolves s0 s) {k : Nat} {b b' : Board} (hb : s.board k = some b) (hk : b.Kept b') :
      Evolves s0 (s.setBoard k (some b'))
  | setUnit {s : State} (h : Evolves s0 s) (a : Fin 6) (r : Applicator) (hd : r.debt ≤ (s.unit a).debt) :
      Evolves s0 (s.setUnit a r)
  | enqueue {s : State} (h : Evolves s0 s) (e : PrimeEntry) (he : s.queued e.app = false) : Evolves s0 (s.enqueue e)
  | granted {s : State} (h : Evolves s0 s) (e : PrimeEntry) (hl : s.apps.startList.length < s.line.limits.windowLimit) :
      Evolves s0 { s with apps := { s.apps with
        queue := s.apps.queue.erase e, startList := s.apps.startList ++ [s.clock] } }
  | nextOrder {s : State} (h : Evolves s0 s) : Evolves s0 s.nextOrder
  | setLane {s : State} (h : Evolves s0 s) (l : Fin 2) (r : Lane) (hs : r.strokes = (s.lane l).strokes)
      (hn : r.nextOp = (s.lane l).nextOp ∨ r.nextOp = opAfter (s.lane l).nextOp) : Evolves s0 (s.setLane l r)
  | countHits {s : State} (h : Evolves s0 s) (cols : List (Nat × List Cell)) : Evolves s0 (s.countHits cols)
  | setBay {s : State} (h : Evolves s0 s) (n : Fin 8) (v : Bay) : Evolves s0 (s.setBay n v)
  | setGate {s : State} (h : Evolves s0 s) (l : Fin 2) (o : Bool) : Evolves s0 (s.setGate l o)
  | withWaitList {s : State} (h : Evolves s0 s) (x : List Nat) :
      Evolves s0 { s with oven := { s.oven with waitList := x } }
  | clearShuttle {s : State} (h : Evolves s0 s) : Evolves s0 s.clearShuttle
  | startShuttle {s : State} (h : Evolves s0 s) (k : ShuttleKind) (n : Fin 8) (j : Nat)
      (hk : k = .admission → s.oven.occupancy.length < Config.ovenLimit) : Evolves s0 (s.startShuttle k n j)
  | setMode {s : State} (h : Evolves s0 s) (m : LineMode) (c : ChangeCause) : Evolves s0 (s.setMode m c)
  | setZone {s : State} (h : Evolves s0 s) (z : Fin 4) (r : Zone) : Evolves s0 (s.setZone z r)
  | reach {s : State} (h : Evolves s0 s) (t : Nat) : Evolves s0 (s.reach t)
  | take {s : State} (h : Evolves s0 s) (i : Instr) : Evolves s0 (s.take i)
  | answer {s : State} (h : Evolves s0 s) (d : Header) (k : Nat) (c : ResultCode) (b : Body) :
      Evolves s0 (s.answer d k c b)

variable {s0 s : State}

theorem Evolves.refuse (h : Evolves s0 s) (d : Header) (k : Nat) (c : ResultCode) : Evolves s0 (s.refuse d k c) :=
  h.answer _ _ _ _

/-! ## Records changed by a function -/

theorem Evolves.modBoard (h : Evolves s0 s) (k : Nat) (f : Board → Board)
    (hf : ∀ b : Board, b.Kept (f b) := by intro b; constructor <;> rfl) : Evolves s0 (s.modBoard k f) := by
  unfold State.modBoard; split
  · exact h
  · next hb =>
      dsimp only; split
      · exact (h.setBoard hb (hf _)).post _
      · exact h.setBoard hb (hf _)

theorem Evolves.modBoardQuiet (h : Evolves s0 s) (k : Nat) (f : Board → Board)
    (hf : ∀ b : Board, b.Kept (f b) := by intro b; constructor <;> rfl) : Evolves s0 (s.modBoardQuiet k f) := by
  unfold State.modBoardQuiet; split
  · exact h
  · next hb => exact h.setBoard hb (hf _)

theorem Evolves.modUnit (h : Evolves s0 s) (a : Fin 6) (f : Applicator → Applicator)
    (hf : ∀ r, (f r).debt ≤ r.debt := by exact fun _ => Nat.le_refl _) : Evolves s0 (s.modUnit a f) := by
  unfold State.modUnit; dsimp only; split
  · exact (h.setUnit _ _ (hf _)).post _
  · exact h.setUnit _ _ (hf _)

/-- A change of a lane that keeps its strokes and its next op id. -/
theorem Evolves.modLane (h : Evolves s0 s) (l : Fin 2) (f : Lane → Lane)
    (hf : ∀ r : Lane, (f r).strokes = r.strokes ∧ (f r).nextOp = r.nextOp := by exact fun _ => ⟨rfl, rfl⟩) :
    Evolves s0 (s.modLane l f) := h.setLane l _ (hf _).1 (.inl (hf _).2)

theorem Evolves.setStatus (h : Evolves s0 s) (l : Fin 2) (st : LaneStatus) : Evolves s0 (s.setStatus l st) := by
  have g := h.modLane l fun r => { r with status := st }
  unfold State.setStatus; dsimp only; split
  · exact g
  · exact g.post _

theorem Evolves.sendOp (h : Evolves s0 s) (l : Fin 2) (k : OpKind) (a : Fin 6) (n : Nat) (x : Option StrokeRef)
    (c : HeadCommand) : Evolves s0 (s.sendOp l k a n x c) := h.setLane l _ rfl (.inr rfl)

theorem Evolves.advance (h : Evolves s0 s) (l : Fin 2) : Evolves s0 (s.advance l) := h.modLane l _

/-! ## Bays, raises and the shuttle -/

theorem Evolves.reserve (h : Evolves s0 s) (n : Fin 8) (k : Nat) : Evolves s0 (s.reserve n k) := by
  unfold State.reserve; dsimp only; split
  · exact h.setBay _ _
  · exact (h.setBay _ _).setGate _ _

theorem Evolves.requestBay (h : Evolves s0 s) (k : Nat) : Evolves s0 (s.requestBay k) := by
  unfold State.requestBay; split
  · exact h.reserve _ _
  · exact h.withWaitList _

theorem Evolves.freeBay (h : Evolves s0 s) (n : Fin 8) : Evolves s0 (s.freeBay n) := by
  unfold State.freeBay; split
  · exact h.setBay _ _
  · exact (h.withWaitList _).reserve _ _

theorem Evolves.freeBayOf (h : Evolves s0 s) (k : Nat) : Evolves s0 (s.freeBayOf k) := by
  unfold State.freeBayOf; split
  · exact h
  · exact h.freeBay _

theorem Evolves.raiseCore (h : Evolves s0 s) (q : Bool) (k n : Nat) : Evolves s0 (s.raiseCore q k n) := by
  unfold State.raiseCore; split
  · exact h
  · split
    · exact h.modBoardQuiet _ _
    · split
      · dsimp only; split
        · exact h.modBoardQuiet _ _
        · exact h.modBoard _ _
      · split
        · exact h
        · exact (h.modBoardQuiet _ _).post _

theorem Evolves.leaveReady (h : Evolves s0 s) (k : Nat) : Evolves s0 (s.leaveReady k) := by
  unfold State.leaveReady; split
  · exact h
  · split
    · exact h.modBoard _ _
    · exact h

theorem Evolves.testReady (h : Evolves s0 s) (k : Nat) : Evolves s0 (s.testReady k) := by
  unfold State.testReady; split
  · exact h
  · split
    · exact h.modBoard _ _
    · exact h

theorem Evolves.openExpiry (h : Evolves s0 s) (k : Nat) : Evolves s0 (s.openExpiry k) :=
  ((h.modBoardQuiet _ _).raiseCore _ _ _).leaveReady _

theorem Evolves.heldOver (h : Evolves s0 s) (k : Nat) : Evolves s0 (s.heldOver k) := by
  unfold State.heldOver; split
  · exact h
  · split
    · exact h.openExpiry _
    · exact h

theorem Evolves.withdraw (h : Evolves s0 s) (k : Nat) : Evolves s0 (s.withdraw k) := (h.clearShuttle.post _).heldOver _

theorem Evolves.withdrawAny (h : Evolves s0 s) : Evolves s0 s.withdrawAny := by
  unfold State.withdrawAny; split
  · exact h
  · split
    · exact h.withdraw _
    · exact h

theorem Evolves.abandonShuttle (h : Evolves s0 s) : Evolves s0 s.abandonShuttle := by
  unfold State.abandonShuttle; split
  · exact h
  · split
    · exact h.clearShuttle.heldOver _
    · exact h.clearShuttle.modBoard _ _

theorem State.admissionOpen_room (h : s.admissionOpen = true) : s.oven.occupancy.length < Config.ovenLimit := by
  simp only [State.admissionOpen, Bool.and_eq_true, decide_eq_true_eq] at h
  exact h.1.1.1

theorem Evolves.decideShuttle (h : Evolves s0 s) : Evolves s0 s.decideShuttle := by
  unfold State.decideShuttle; split
  · exact h
  · split
    · exact (h.startShuttle .divert _ _ nofun).modBoard _ _
    · split
      · next hopen =>
          split
          · exact h.startShuttle _ _ _ fun _ => State.admissionOpen_room hopen
          · exact h
      · exact h

/-! ## Heads and lanes -/

theorem Evolves.autoPurge (h : Evolves s0 s) (a : Fin 6) : Evolves s0 (s.autoPurge a) := by
  unfold State.autoPurge; split
  · exact h
  · next hq => exact h.enqueue _ (by simpa using hq)

theorem Evolves.sendWaiting (h : Evolves s0 s) (l : Fin 2) (a : Fin 6) : Evolves s0 (s.sendWaiting l a) := by
  unfold State.sendWaiting; split
  · exact h
  · dsimp only; split <;> exact (h.modUnit _ _).sendOp _ _ _ _ _ _

theorem Evolves.sendSpit (h : Evolves s0 s) (l : Fin 2) (a : Fin 6) : Evolves s0 (s.sendSpit l a) :=
  (h.modUnit _ _).sendOp _ _ _ _ _ _

theorem Evolves.grant (h : Evolves s0 s) (e : PrimeEntry)
    (hl : s.apps.startList.length < s.line.limits.windowLimit) : Evolves s0 (s.grant e) := by
  unfold State.grant; dsimp only; split
  · exact ((h.granted e hl).modUnit _ _).sendOp _ _ _ _ _ _
  · split <;> exact ((h.granted e hl).modUnit _ _).sendOp _ _ _ _ _ _

theorem Evolves.grants (h : Evolves s0 s) (n : Nat) : Evolves s0 (s.grants n) := by
  induction n generalizing s with
  | zero => exact h
  | succ n ih =>
    unfold State.grants; split
    · next hl =>
        split
        · exact ih (h.grant _ hl)
        · exact h
    · exact h

theorem Evolves.grantDecision (h : Evolves s0 s) : Evolves s0 s.grantDecision := by
  unfold State.grantDecision; split
  · exact h.grants _
  · exact h

theorem Applicator.awaiting_debt (k : WaitKind) (o : Origin) (t n : Nat) (r : Applicator) :
    (r.awaiting k o t n).debt = r.debt := by cases k <;> rfl

theorem Evolves.autoStep (h : Evolves s0 s) (a : Fin 6) : Evolves s0 (s.autoStep a) := by
  unfold State.autoStep; split
  · exact h
  · split
    · exact h
    · next hq =>
        have hq : s.queued a = false := by simpa using hq
        split
        case h_1 => exact (h.modUnit _ _ fun r => (r.awaiting_debt ..).le).nextOrder
        case h_2 => split; exacts [h, h.enqueue _ hq]
        case h_3 => split; exacts [h, h.enqueue _ hq]
        case h_4 => exact h.enqueue _ hq
        all_goals exact h

theorem Evolves.clearNeed (h : Evolves s0 s) (l : Fin 2) : Evolves s0 (s.clearNeed l) := h.modUnit _ _

theorem Evolves.stopLane (h : Evolves s0 s) (l : Fin 2) : Evolves s0 (s.stopLane l) := (h.clearNeed l).setStatus _ _

theorem Evolves.stopWaiting (h : Evolves s0 s) (l : Fin 2) : Evolves s0 (s.stopWaiting l) := by
  unfold State.stopWaiting; split
  · exact h.clearNeed l
  · exact h

theorem Evolves.laneOver (h : Evolves s0 s) (l : Fin 2) : Evolves s0 (s.laneOver l) := by
  unfold State.laneOver; dsimp only; split <;> exact ((h.stopWaiting l).setStatus _ _).modLane _ _

theorem Evolves.toFlashing (h : Evolves s0 s) (k : Nat) (f : Board → Board)
    (hf : ∀ b : Board, b.Kept { f b with life := .flashing } := by intro b; constructor <;> rfl) :
    Evolves s0 (s.toFlashing k f) := (h.modBoard _ _ hf).requestBay _

theorem Board.Kept.sprayTimes (u : State) (b : Board) : b.Kept (u.sprayTimes b) := by
  unfold State.sprayTimes; split <;> constructor <;> rfl

theorem Evolves.terminal (h : Evolves s0 s) (l : Fin 2) (k : Nat) : Evolves s0 (s.terminal l k) := by
  refine (h.toFlashing _ _ fun b => ?_).laneOver _
  have g := Board.Kept.sprayTimes s { b with sprayEnd := some s.clock }
  exact ⟨g.tag, g.cls, g.lane, g.side, g.pass, g.announced, g.ovenEntry, g.doseGap, g.overTemp, g.accs, g.findings,
    g.overflow⟩

theorem Evolves.abandonBoard (h : Evolves s0 s) (k : Nat) : Evolves s0 (s.abandonBoard k) := h.toFlashing _ _

theorem Evolves.abandon (h : Evolves s0 s) (l : Fin 2) (k : Nat) : Evolves s0 (s.abandon l k) :=
  (h.abandonBoard _).laneOver _

theorem Evolves.judge (h : Evolves s0 s) (l : Fin 2) (k : Nat) (f : State → State) (hf : Evolves s0 (f s)) :
    Evolves s0 (s.judge l k f) := by
  unfold State.judge; split
  · exact h
  · split
    · exact h.abandon _ _
    · split
      · exact h.stopLane _
      · exact hf

theorem Evolves.startBoard (h : Evolves s0 s) (l : Fin 2) (k : Nat) : Evolves s0 (s.startBoard l k) :=
  ((h.modBoard _ _).setStatus _ _).modLane _ _

theorem Evolves.startTest (h : Evolves s0 s) (l : Fin 2) : Evolves s0 (s.startTest l) := by
  unfold State.startTest; split
  · exact h
  · split
    · split
      case h_1 => exact h.startBoard _ _
      case h_2 => exact h.post _
      all_goals exact h
    · exact h

theorem Evolves.departDisarmed (h : Evolves s0 s) (k : Nat) : Evolves s0 (s.departDisarmed k) := by
  unfold State.departDisarmed; split
  · exact h
  · split
    · split
      · exact h.abandonBoard _
      · split
        · exact h
        · exact (h.modBoard _ _).startTest _
    · exact h

theorem Evolves.afterAdvance (h : Evolves s0 s) (l : Fin 2) (k : Nat) (f : State → State) (hf : Evolves s0 (f s)) :
    Evolves s0 (s.afterAdvance l k f) := by
  unfold State.afterAdvance; split
  · exact h.terminal _ _
  · exact hf

theorem Evolves.lastUse (h : Evolves s0 s) (st : Stroke) : Evolves s0 (s.lastUse st) := by
  unfold State.lastUse; split
  · exact h.autoPurge _
  · exact h

theorem Evolves.fragmented (h : Evolves s0 s) (l : Fin 2) (k : Nat) (st : Stroke) : Evolves s0 (s.fragmented l k st) := by
  have g := h.raiseCore false k 4
  have g' := (g.lastUse st).advance l
  exact g.judge _ _ _ (g'.afterAdvance _ _ _ g')

theorem Evolves.skipStroke (h : Evolves s0 s) (l : Fin 2) (k : Nat) (st : Stroke) (cols : List (Nat × List Cell)) :
    Evolves s0 (s.skipStroke l k st cols) := by
  have g := (((h.countHits cols).modBoardQuiet k fun b => { b with strokesDone := b.strokesDone + 1 }).lastUse st).advance l
  exact g.afterAdvance _ _ _ (g.judge _ _ _ g)

theorem Evolves.sendStroke (h : Evolves s0 s) (l : Fin 2) (k : Nat) (b : Board) (st : Stroke)
    (cols : List (Nat × List Cell)) : Evolves s0 (s.sendStroke l k b st cols) :=
  (((h.countHits _).modBoardQuiet _ _).modUnit _ _).sendOp _ _ _ _ _ _

theorem Evolves.addGated (h : Evolves s0 s) (k : Nat) (b : Board) (n : Nat) : Evolves s0 (s.addGated k b n) := by
  unfold State.addGated; dsimp only; split
  · exact (h.modBoardQuiet _ _).raiseCore _ _ _
  · exact h.modBoardQuiet _ _

theorem Evolves.resolveStroke (h : Evolves s0 s) (l : Fin 2) (k : Nat) (b : Board) (st : Stroke) :
    Evolves s0 (s.resolveStroke l k b st) := by
  unfold State.resolveStroke; dsimp only; split
  · exact h.fragmented _ _ _
  · refine (h.addGated _ _ _).judge _ _ _ ?_
    split
    · exact (h.addGated _ _ _).skipStroke _ _ _ _
    · exact (h.addGated _ _ _).sendStroke _ _ _ _ _

theorem Evolves.awaitApp (h : Evolves s0 s) (l : Fin 2) (st : Stroke) : Evolves s0 (s.awaitApp l st) := by
  unfold State.awaitApp; dsimp only; split
  · exact ((h.setStatus _ _).modUnit _ _).autoStep _
  · exact h.setStatus _ _

theorem Evolves.takeStroke (h : Evolves s0 s) (l : Fin 2) : Evolves s0 (s.takeStroke l) := by
  unfold State.takeStroke; split
  · exact h
  · dsimp only; split
    · exact h.resolveStroke _ _ _ _
    · exact h.awaitApp _ _

theorem Evolves.wake (h : Evolves s0 s) (l : Fin 2) : Evolves s0 (s.wake l) := by
  unfold State.wake; split
  · dsimp only; split
    · exact (h.clearNeed _).setStatus _ _
    · exact h.autoStep _
  · exact h

theorem Evolves.serve (h : Evolves s0 s) (n : Nat) (l : Fin 2) : Evolves s0 (s.serve n l) := by
  induction n generalizing s with
  | zero => exact h
  | succ n ih =>
    have hw := h.wake l
    unfold State.serve; dsimp only; split
    · exact hw
    · split
      · exact hw.sendWaiting _ _
      · have hg := hw.grantDecision
        split
        · exact hg
        · split
          · exact hg.sendWaiting _ _
          · split
            · exact ih (hg.takeStroke _)
            · split
              · exact hg.sendSpit _ _
              · exact hg

theorem Evolves.serveLane (h : Evolves s0 s) (l : Fin 2) : Evolves s0 (s.serveLane l) := h.serve _ _

end Sys2Proof.Machine
end

section
/-! SUPPORT. The invariants that every step keeps, as one relation: `Keeps s t` says that each invariant that holds in `s`
holds in `t`. It is shown once for every update of the state; a command keeps the invariants since its updates do. -/

namespace Sys2Proof.Machine

/-! ## Counting boards -/

/-- Counting over a list of distinct numbers, where two tests differ at one of them at most. -/
theorem countP_update {p q : Nat → Bool} {l : List Nat} {k : Nat} (hl : l.Nodup) (hk : k ∈ l)
    (h : ∀ j, j ≠ k → q j = p j) : l.countP q + (p k).toNat = l.countP p + (q k).toNat := by
  induction l with
  | nil => cases hk
  | cons a l ih =>
    obtain ⟨ha, hl⟩ := List.nodup_cons.1 hl
    by_cases hak : a = k
    · subst hak
      have hrest : l.countP q = l.countP p := List.countP_congr fun j hj => by
        rw [h j (by rintro rfl; exact ha hj)]
      simp only [List.countP_cons, hrest]
      cases p a <;> cases q a <;> simp
    · have := ih hl ((List.mem_cons.1 hk).resolve_left (Ne.symm hak))
      simp only [List.countP_cons, h a hak]
      omega

/-- A count of boards is a count of slots. -/
theorem State.countP_boards (s : State) (q : Nat × Board → Bool) :
    s.boards.countP q = (List.range Config.slots).countP fun k => (s.board k).any fun b => q (k, b) := by
  unfold State.boards
  rw [List.countP_filterMap]
  refine List.countP_congr fun k _ => ?_
  cases s.board k <;> simp

/-- The number of boards of a class in the slots. -/
theorem State.countP_cls (s : State) (c : Nat) : (s.boards.countP fun p => decide (p.2.cls = c)) =
    (List.range Config.slots).countP fun k => (s.board k).any fun b => decide (b.cls = c) :=
  s.countP_boards _

/-! ## The relation -/

/-- Every invariant of the tables and limits that holds in `s` holds in `t`. A field is proved by itself where the update
leaves what the invariant reads as it is. -/
structure Keeps (s t : State) : Prop where
  canonical : s.Canonical → t.Canonical := by
    exact fun h => ⟨h.classes, h.materials, h.boards, h.entries, h.criteria, h.routing, h.strokes⟩
  tables : s.TableSound → t.TableSound := by exact fun h => ⟨h.slots, h.tags, h.useCounts⟩
  history : s.HistoryOrdered → t.HistoryOrdered := by exact fun h => h
  recipes : s.Canonical → s.RecipesSound → t.RecipesSound := by exact fun _ h => ⟨h.classes, h.materials⟩
  lists : s.ListsBounded → t.ListsBounded := by
    exact fun h => ⟨h.queues, h.history, h.intake, h.windowLimit, h.starts, h.requests, h.entryStart, h.occupancy,
      h.admission⟩
  notices : s.notices.Nodup → t.notices.Nodup := by exact fun h => h
  debts : s.DebtsBounded → t.DebtsBounded := by exact fun h => h
  doses : s.DosesBounded → t.DosesBounded := by exact fun h => h
  findings : s.FindingsBounded → t.FindingsBounded := by exact fun h => h
  opIds : s.OpIdsInRange → t.OpIdsInRange := by exact fun h => h
  lastTaken : s.hold.lastTaken < 32 → t.hold.lastTaken < 32 := by exact fun h => h

theorem Keeps.refl (s : State) : Keeps s s := {}

theorem Keeps.trans {a b c : State} (h : Keeps a b) (g : Keeps b c) : Keeps a c where
  canonical := g.canonical ∘ h.canonical
  tables := g.tables ∘ h.tables
  history := g.history ∘ h.history
  recipes hc := g.recipes (h.canonical hc) ∘ h.recipes hc
  lists := g.lists ∘ h.lists
  notices := g.notices ∘ h.notices
  debts := g.debts ∘ h.debts
  doses := g.doses ∘ h.doses
  findings := g.findings ∘ h.findings
  opIds := g.opIds ∘ h.opIds
  lastTaken := g.lastTaken ∘ h.lastTaken

variable {s0 s : State}

/-! ## Boards -/

/-- A change of a board record that keeps its identity and the bounds of its doses and findings. -/
structure Board.Sound (b b' : Board) : Prop where
  tag : b'.tag = b.tag
  cls : b'.cls = b.cls
  doses : b.dosesBounded → b'.dosesBounded
  findings : b.findings.length ≤ Config.findingLimit ∧ b.overflow ≤ 255 →
    b'.findings.length ≤ Config.findingLimit ∧ b'.overflow ≤ 255

theorem Board.Kept.sound {b b' : Board} (h : b.Kept b') : b.Sound b' where
  tag := h.tag
  cls := h.cls
  doses := by unfold Board.dosesBounded; rw [h.accs]; exact id
  findings := by rw [h.findings, h.overflow]; exact id

/-- A board of the later table comes from one of the earlier table. -/
theorem board_of_rel {R : Board → Board → Prop} {s t : State} (h : ∀ k, Option.Rel R (s.board k) (t.board k)) {k : Nat}
    {b' : Board} (hk : t.board k = some b') : ∃ b, s.board k = some b ∧ R b b' := by
  have g := h k
  rw [hk] at g
  generalize s.board k = x at g
  cases g with
  | some g => exact ⟨_, rfl, g⟩

/-- The invariants of the board table where every record is rewritten soundly and the classes stay. -/
theorem Keeps.of_boards {s t : State} (hc : s.Canonical → t.Canonical) (hr : t.recipe = s.recipe)
    (hb : ∀ k, Option.Rel Board.Sound (s.board k) (t.board k)) (hh : s.HistoryOrdered → t.HistoryOrdered)
    (hl : s.ListsBounded → t.ListsBounded) (hn : t.notices = s.notices) (hu : t.apps = s.apps)
    (hp : s.OpIdsInRange → t.OpIdsInRange) (ho : t.hold = s.hold) : Keeps s t where
  canonical := hc
  history := hh
  lists := hl
  opIds := hp
  recipes _ h := ⟨fun c => by simpa only [State.cls, State.mat, hr] using h.classes c,
    fun m => by simpa only [State.mat, hr] using h.materials m⟩
  notices := by rw [hn]; exact id
  debts h a := by have := h a; rwa [State.unit, ← hu] at this
  lastTaken := by rw [ho]; exact id
  tables h := by
    refine ⟨fun k hk => ?_, fun j k b b' hj hk ht => ?_, fun c => ?_⟩
    · have g := hb k
      rw [h.slots k hk] at g
      generalize t.board k = y at g
      cases g; rfl
    · obtain ⟨a, ha, ga⟩ := board_of_rel hb hj
      obtain ⟨a', ha', ga'⟩ := board_of_rel hb hk
      exact h.tags j k a a' ha ha' (by rw [← ga.tag, ← ga'.tag, ht])
    · have : t.cls c = s.cls c := by unfold State.cls; rw [hr]
      rw [this, h.useCounts c, s.countP_cls, t.countP_cls]
      refine List.countP_congr fun k _ => ?_
      have g := hb k
      generalize s.board k = x at g
      generalize t.board k = y at g
      cases g with
      | none => simp
      | some g => simp [g.cls]
  doses h k b' hk := by
    obtain ⟨b, hs, g⟩ := board_of_rel hb hk
    exact g.doses (h k b hs)
  findings h k b' hk := by
    obtain ⟨b, hs, g⟩ := board_of_rel hb hk
    exact g.findings (h k b hs)

/-! ## The updates -/

theorem Board.Sound.refl (b : Board) : b.Sound b := ⟨rfl, rfl, id, id⟩

theorem Option.rel_refl_of {R : Board → Board → Prop} (h : ∀ b, R b b) (x : Option Board) : Option.Rel R x x := by
  cases x with
  | none => exact .none
  | some b => exact .some (h b)

/-- One record of the table replaced by a related one. -/
theorem State.setBoard_rel {R : Board → Board → Prop} (hr : ∀ b, R b b) {k : Nat} {b b' : Board}
    (hb : s.board k = some b) (h : R b b') (j : Nat) : Option.Rel R (s.board j) ((s.setBoard k (some b')).board j) := by
  rw [State.setBoard_board]; split
  · next e => subst e; rw [hb]; exact .some h
  · exact Option.rel_refl_of hr _

theorem State.Canonical.setBoard (h : s.Canonical) (k : Nat) (b : Option Board) : (s.setBoard k b).Canonical :=
  { h with boards := Table.wf_write _ _ _ _ h.boards }

theorem Keeps.setBoard (h : Keeps s0 s) {k : Nat} {b b' : Board} (hb : s.board k = some b) (g : b.Sound b') :
    Keeps s0 (s.setBoard k (some b')) :=
  h.trans (.of_boards (·.setBoard _ _) rfl (State.setBoard_rel .refl hb g) id
    (fun h => ⟨h.queues, h.history, h.intake, h.windowLimit, h.starts, h.requests, h.entryStart, h.occupancy, h.admission⟩)
    rfl rfl id rfl)

theorem Keeps.modBoardQuiet (h : Keeps s0 s) (k : Nat) (f : Board → Board) (hf : ∀ b : Board, b.Sound (f b)) :
    Keeps s0 (s.modBoardQuiet k f) := by
  unfold State.modBoardQuiet; split
  · exact h
  · next hb => exact h.setBoard hb (hf _)

theorem Keeps.post (h : Keeps s0 s) (n : Notice) : Keeps s0 (s.post n) := by
  refine h.trans ?_
  have hn := State.nodup_post s n
  unfold State.post at hn ⊢; split
  · exact .refl s
  · next hc =>
      rw [if_neg hc] at hn
      exact { notices := hn }

theorem Keeps.modBoard (h : Keeps s0 s) (k : Nat) (f : Board → Board) (hf : ∀ b : Board, b.Sound (f b)) :
    Keeps s0 (s.modBoard k f) := by
  unfold State.modBoard; split
  · exact h
  · next hb =>
      dsimp only; split
      · exact (h.setBoard hb (hf _)).post _
      · exact h.setBoard hb (hf _)

theorem Keeps.setUnit (h : Keeps s0 s) (a : Fin 6) (r : Applicator)
    (hd : (s.unit a).debt ≤ Config.debtLimit → r.debt ≤ Config.debtLimit) : Keeps s0 (s.setUnit a r) := by
  refine h.trans { debts := fun h c => ?_ }
  rw [State.setUnit_unit]; split
  · exact hd (h a)
  · exact h c

theorem Keeps.modUnit (h : Keeps s0 s) (a : Fin 6) (f : Applicator → Applicator)
    (hf : ∀ r, r.debt ≤ Config.debtLimit → (f r).debt ≤ Config.debtLimit) : Keeps s0 (s.modUnit a f) := by
  unfold State.modUnit; dsimp only; split
  · exact (h.setUnit _ _ (hf _)).post _
  · exact h.setUnit _ _ (hf _)

theorem State.queued_eq_false (a : Fin 6) : s.queued a = false ↔ a ∉ s.apps.queue.map (·.app) := by
  simp only [State.queued, List.any_eq_false, decide_eq_true_eq, List.mem_map, not_exists, not_and]

theorem Keeps.enqueue (h : Keeps s0 s) (e : PrimeEntry) (he : s.queued e.app = false) : Keeps s0 (s.enqueue e) := by
  have he := (s.queued_eq_false e.app).1 he
  refine h.trans { lists := fun h => { h with requests := ?_ } }
  simp only [State.enqueue, List.map_append, List.map_cons, List.map_nil]
  refine List.nodup_append.2 ⟨h.requests, List.nodup_singleton _, fun a ha b hb => ?_⟩
  rw [List.mem_singleton.1 hb]; rintro rfl; exact he ha

theorem Keeps.granted (h : Keeps s0 s) (e : PrimeEntry) (hl : s.apps.startList.length < s.line.limits.windowLimit) :
    Keeps s0 { s with apps := { s.apps with
      queue := s.apps.queue.erase e, startList := s.apps.startList ++ [s.clock] } } := by
  refine h.trans { lists := fun h => { h with
    starts := ?_, requests := h.requests.sublist (List.erase_sublist.map _) } }
  have := h.windowLimit
  simp only [List.length_append, List.length_singleton]; omega

theorem opAfter_range {n : Nat} (h : 1 ≤ n ∧ n ≤ 255) : 1 ≤ opAfter n ∧ opAfter n ≤ 255 := by
  unfold opAfter; split <;> omega

theorem Keeps.setLane (h : Keeps s0 s) (l : Fin 2) (r : Lane)
    (hs : Table.wf (fun _ => resetStroke) (s.lane l).strokes = true → Table.wf (fun _ => resetStroke) r.strokes = true)
    (hn : r.nextOp = (s.lane l).nextOp ∨ r.nextOp = opAfter (s.lane l).nextOp) : Keeps s0 (s.setLane l r) := by
  refine h.trans { canonical := fun h => { h with strokes := fun k => ?_ }, opIds := fun h k => ?_ } <;>
    rw [State.setLane_lane] <;> split
  · exact hs (h.strokes l)
  · exact h.strokes k
  · rcases hn with hn | hn <;> rw [hn]
    · exact h l
    · exact opAfter_range (h l)
  · exact h k

/-- A table whose records are rewritten in place keeps its order of numbers. -/
theorem Table.rises_map {α β : Type} (f : Nat × α → Nat × β) (hf : ∀ p, (f p).1 = p.1) (lo : Option Nat) (t : Table α) :
    Table.rises lo (t.map f) = Table.rises lo t := by
  induction t generalizing lo with
  | nil => rfl
  | cons p t ih =>
    obtain ⟨j, v⟩ := p
    have hj : f (j, v) = (j, (f (j, v)).2) := Prod.ext (hf _) rfl
    rw [List.map_cons, hj]
    simp only [Table.rises, ih]

/-- A canonical table with records rewritten in place, none into its reset record. -/
theorem Table.wf_map {α : Type} [DecidableEq α] (d : Nat → α) (f : Nat × α → Nat × α) (hf : ∀ p, (f p).1 = p.1)
    (hv : ∀ p, p.2 ≠ d p.1 → (f p).2 ≠ d p.1) (t : Table α) (h : Table.wf d t = true) : Table.wf d (t.map f) = true := by
  simp only [Table.wf, Bool.and_eq_true, List.all_eq_true, decide_eq_true_eq, Table.rises_map f hf] at h ⊢
  refine ⟨h.1, fun q hq => ?_⟩
  obtain ⟨p, hp, rfl⟩ := List.mem_map.1 hq
  rw [hf]
  exact hv p (h.2 p hp)

theorem KeepOutEntry.hit_ne_reset (e : KeepOutEntry) : e.hit ≠ resetEntry := by
  intro h
  have := congrArg KeepOutEntry.sticky h
  simp [KeepOutEntry.hit, resetEntry] at this

theorem Keeps.countHits (h : Keeps s0 s) (cols : List (Nat × List Cell)) : Keeps s0 (s.countHits cols) := by
  refine h.trans { canonical := fun h =>
    { h with entries := Table.wf_map _ _ (fun p => ?_) (fun p hp => ?_) _ h.entries } } <;> split
  · rfl
  · rfl
  · exact p.2.hit_ne_reset
  · exact hp

theorem Keeps.clearShuttle (h : Keeps s0 s) : Keeps s0 s.clearShuttle :=
  h.trans { lists := fun h => { h with admission := nofun } }

theorem Keeps.startShuttle (h : Keeps s0 s) (k : ShuttleKind) (n : Fin 8) (j : Nat)
    (hk : k = .admission → s.oven.occupancy.length < Config.ovenLimit) : Keeps s0 (s.startShuttle k n j) := by
  refine h.trans { lists := fun h => { h with admission := ?_ } }
  rintro _ ⟨⟩ hadm
  exact hk hadm

/-- What the shared operations do keeps every invariant. -/
theorem Evolves.keeps {s t : State} (h : Evolves s t) : Keeps s t := by
  induction h with
  | refl => exact .refl _
  | post _ n ih => exact ih.post n
  | setBoard _ hb hk ih => exact ih.setBoard hb hk.sound
  | setUnit _ a r hd ih => exact ih.setUnit a r hd.trans
  | enqueue _ e he ih => exact ih.enqueue e he
  | granted _ e hl ih => exact ih.granted e hl
  | nextOrder _ ih => exact ih.trans {}
  | setLane _ l r hs hn ih => exact ih.setLane l r (by rw [hs]; exact id) hn
  | countHits _ cols ih => exact ih.countHits cols
  | setBay _ n v ih => exact ih.trans {}
  | setGate _ l o ih => exact ih.trans {}
  | withWaitList _ x ih => exact ih.trans {}
  | clearShuttle _ ih => exact ih.clearShuttle
  | startShuttle _ k n j hk ih => exact ih.startShuttle k n j hk
  | setMode _ m c ih => exact ih.trans {}
  | setZone _ z r ih => exact ih.trans {}
  | reach _ t ih => exact ih.trans {}
  | take _ i ih => exact ih.trans {}
  | answer _ d k c b ih => exact ih.trans {}

theorem Keeps.evolves (h : Keeps s0 s) {t : State} (g : Evolves s t) : Keeps s0 t := h.trans g.keeps

end Sys2Proof.Machine
end

section
/-! SUPPORT. The end of a head operation, the reports of a change and the close of a step, as `Evolves` has them. -/

namespace Sys2Proof.Machine

variable {s0 s : State}

/-! ## The end of a head operation -/


theorem Applicator.failed_debt (k : OpKind) (c : FoulCause) (r : Applicator) : (r.failed k c).debt = 0 := by
  unfold Applicator.failed; split <;> rfl

theorem State.uncapped_debt (r : Applicator) : (s.uncapped r).debt ≤ r.debt := by
  unfold State.uncapped; split
  · exact Nat.le_refl _
  · split
    · exact Nat.le_refl _
    · exact Nat.zero_le _

theorem State.doneUnit_debt (k : OpKind) (r : Applicator) : (s.doneUnit k r).debt ≤ r.debt := by
  cases k with
  | prime => exact Nat.zero_le _
  | purge => exact Nat.zero_le _
  | spit => exact Nat.sub_le _ _
  | cap => simp only [State.doneUnit]; split <;> exact Nat.le_refl _
  | uncap => exact State.uncapped_debt r
  | stroke => exact Nat.zero_le _

theorem State.endUnit_debt (k : OpKind) (e : OpEnd) (r : Applicator) : (s.endUnit k e r).debt ≤ r.debt := by
  unfold State.endUnit; split
  · exact Nat.le_refl _
  · split
    · exact State.doneUnit_debt k r
    · split
      · exact Nat.le_refl _
      · simp [Applicator.failed_debt]
    · split
      · exact Nat.le_refl _
      · simp [Applicator.failed_debt]

theorem Evolves.recordFault (h : Evolves s0 s) (l : Fin 2) (k : Option FaultKind) (i : Nat) :
    Evolves s0 (s.recordFault l k i) := (h.modLane l _).post _

theorem Evolves.strokeDone (h : Evolves s0 s) (l : Fin 2) (r : StrokeRef) : Evolves s0 (s.strokeDone l r) := by
  have g := (h.modBoardQuiet r.slot fun b =>
    { b with strokesDone := b.strokesDone + 1, used := b.used.join r.material }).advance l
  exact g.afterAdvance _ _ _ (g.judge _ _ _ g)

theorem Evolves.strokeFailed (h : Evolves s0 s) (l : Fin 2) (r : StrokeRef) (k : Option FaultKind) :
    Evolves s0 (s.strokeFailed l r k) := by
  have g := (h.recordFault l k r.index).raiseCore false r.slot 5
  exact g.judge _ _ _ g

theorem Evolves.detachedEnd (h : Evolves s0 s) (l : Fin 2) (r : StrokeRef) (e : OpEnd) :
    Evolves s0 (s.detachedEnd l r e) := by
  unfold State.detachedEnd
  refine Evolves.departDisarmed ?_ _
  split
  · exact h.modBoardQuiet _ _
  · exact h.recordFault _ _ _

theorem Evolves.strokeEnd (h : Evolves s0 s) (l : Fin 2) (r : StrokeRef) (e : OpEnd) :
    Evolves s0 (s.strokeEnd l r e) := by
  unfold State.strokeEnd; split
  · exact h.detachedEnd _ _ _
  · split
    · exact h.strokeDone _ _
    · exact h.strokeFailed _ _ _

theorem Evolves.opEnd (h : Evolves s0 s) (l : Fin 2) (o : HeadOp) (e : OpEnd) : Evolves s0 (s.opEnd l o e) := by
  have g := (h.modLane l fun r => { r with op := none }).modUnit o.app
    ((s.modLane l fun r => { r with op := none }).endUnit o.kind e) (State.endUnit_debt _ _)
  unfold State.opEnd; dsimp only; split
  · split
    · exact g.startTest _
    · exact g
  · refine Evolves.strokeEnd ?_ _ _ _
    split
    · exact g.autoPurge _
    · exact g

/-! ## Reports and the close of a step -/

theorem Evolves.reactAtSpray (h : Evolves s0 s) (k : Nat) (b : Board) (w : Bool) :
    Evolves s0 (s.reactAtSpray k b w) := by
  unfold State.reactAtSpray; split
  · exact h.toFlashing _ _
  · split
    · exact h.startTest _
    · exact h

theorem Evolves.reactSpraying (h : Evolves s0 s) (k : Nat) (b : Board) : Evolves s0 (s.reactSpraying k b) := by
  unfold State.reactSpraying; split
  · exact h
  · split
    · exact h.departDisarmed _
    · split
      · exact h.abandon _ _
      · split
        · split
          · exact h.stopLane _
          · exact h
        · split
          · exact h.setStatus _ _
          · exact h

theorem Evolves.reactBuffered (h : Evolves s0 s) (k : Nat) (w : Bool) : Evolves s0 (s.reactBuffered k w) := by
  have g := h.leaveReady k
  unfold State.reactBuffered; dsimp only; split <;> split
  · exact (g.withdraw _).testReady _
  · exact g.withdraw _
  · exact g.testReady _
  · exact g

theorem Evolves.react (h : Evolves s0 s) (k : Nat) (w : Bool) : Evolves s0 (s.react k w) := by
  unfold State.react; split
  · exact h
  · split
    · exact h
    · exact h.reactAtSpray _ _ _
    · exact h.reactSpraying _ _
    · exact h.reactBuffered _ _
    · exact h.reactBuffered _ _
    · exact h

theorem Evolves.raise (h : Evolves s0 s) (n k : Nat) : Evolves s0 (s.raise n k) := (h.raiseCore _ _ _).react _ _

theorem Evolves.drainEnd (h : Evolves s0 s) (a : State) : Evolves s0 (s.drainEnd a) := by
  unfold State.drainEnd; split
  · exact (h.setMode _ _).post _
  · exact h

theorem Evolves.settle (h : Evolves s0 s) (p : Bool) (a : State) : Evolves s0 (s.settle p a) := by
  have g := ((h.serveLane 0).serveLane 1).drainEnd a
  unfold State.settle; dsimp only; split
  · exact g.decideShuttle
  · exact g

end Sys2Proof.Machine
end

section
/-! SUPPORT. The commands that are made of the shared operations alone, block by block: each ends in a state that evolves from
the one it found. -/

namespace Sys2Proof.Machine

/-- An outcome that is a next state, of which `P` holds. -/
inductive Yields (P : State → Prop) : Host.Outcome State Fault Refusal → Prop where
  | next {t : State} (h : P t) : Yields P (.next t)

theorem Yields.of_next {P : State → Prop} {o : Host.Outcome State Fault Refusal} (h : Yields P o) {t : State}
    (ho : o = .next t) : P t := by
  subst ho
  cases h with
  | next h => exact h

theorem Yields.imp {P Q : State → Prop} (hpq : ∀ t, P t → Q t) {o : Host.Outcome State Fault Refusal}
    (h : Yields P o) : Yields Q o := by
  cases h with
  | next h => exact .next (hpq _ h)

variable {s0 s : State}

/-- A request's step, shown for the state in which its block has taken it. -/
theorem Evolves.request (i : Instr) (f : Header → State → State) (hf : ∀ d u, Evolves s u → Evolves s (f d u)) :
    Yields (Evolves s) (s.request i f) := .next (hf _ _ (Evolves.refl.take i))

theorem Evolves.unlessInit (h : Evolves s0 s) (d : Header) (k : Nat) (f : State → State) (hf : Evolves s0 (f s)) :
    Evolves s0 (s.unlessInit d k f) := by
  unfold State.unlessInit; split
  · exact h.refuse _ _ _
  · exact hf

theorem Evolves.discardInit (h : Evolves s0 s) (f : State → State) (hf : Evolves s0 (f s)) :
    Evolves s0 (s.discardInit f) := by
  unfold State.discardInit; split
  · exact h
  · exact hf

/-! ## Line control -/

theorem execStartUpEnd_evolves : Yields (Evolves s) (execStartUpEnd s) := by
  refine .next ?_
  show Evolves s s.startUpEnd
  unfold State.startUpEnd; split
  · dsimp only; split <;> exact ((Evolves.refl.reach _).setMode _ _).post _
  · exact .refl

theorem execLineStatus_evolves (t : Byte) : Yields (Evolves s) (execLineStatus t s) :=
  Evolves.request _ _ fun _ _ h => h.answer _ _ _ _

theorem Evolves.enterRun (h : Evolves s0 s) : Evolves s0 s.enterRun := ((h.setMode _ _).startTest _).startTest _

theorem Evolves.enterDrain (h : Evolves s0 s) : Evolves s0 s.enterDrain := by
  unfold State.enterDrain; dsimp only; split
  · exact (h.setMode _ _).setMode _ _
  · exact h.setMode _ _

theorem Evolves.modeChange (h : Evolves s0 s) (m : LineMode) {u : State} (hu : s.modeChange m = some u) :
    Evolves s0 u := by
  unfold State.modeChange at hu
  split at hu <;> cases hu
  · exact h
  · exact h.enterRun
  · exact h.setMode _ _
  · exact h
  · exact h.enterDrain
  · exact h.setMode _ _
  · exact h

theorem execMode_evolves (t : Byte) (target : Nat) : Yields (Evolves s) (execMode t target s) := by
  refine Evolves.request _ _ fun d u h => h.unlessInit _ _ _ ?_
  split
  · exact h.refuse _ _ _
  · split
    · exact h.refuse _ _ _
    · next hm => exact ((h.modeChange _ hm).answer _ _ _ _).settle _ _

theorem execRecover_evolves (t : Byte) : Yields (Evolves s) (execRecover t s) := by
  refine Evolves.request _ _ fun d u h => h.unlessInit _ _ _ ?_
  split
  · exact h.refuse _ _ _
  · split
    · exact h.refuse _ _ _
    · exact ((h.setMode _ _).answer _ _ _ _).settle _ _

/-! ## Recipe store, keep-out table, criteria and routing: the reads -/

theorem execClassRead_evolves (t : Byte) (c : Nat) : Yields (Evolves s) (execClassRead t c s) := by
  refine Evolves.request _ _ fun d u h => h.unlessInit _ _ _ ?_
  split <;> exact h.answer _ _ _ _

theorem execMaterialRead_evolves (t : Byte) (m : Nat) : Yields (Evolves s) (execMaterialRead t m s) := by
  refine Evolves.request _ _ fun d u h => h.unlessInit _ _ _ ?_
  split <;> exact h.answer _ _ _ _

theorem execRuleProbe_evolves (t : Byte) (c side x y : Nat) : Yields (Evolves s) (execRuleProbe t c side x y s) := by
  refine Evolves.request _ _ fun d u h => h.unlessInit _ _ _ ?_
  split
  · exact h.refuse _ _ _
  · split <;> exact h.answer _ _ _ _

theorem execCriterionRead_evolves (t : Byte) (i : Nat) : Yields (Evolves s) (execCriterionRead t i s) := by
  refine Evolves.request _ _ fun d u h => h.unlessInit _ _ _ ?_
  split <;> exact h.answer _ _ _ _

theorem execRouteRead_evolves (t : Byte) (n : Nat) : Yields (Evolves s) (execRouteRead t n s) := by
  refine Evolves.request _ _ fun d u h => h.unlessInit _ _ _ ?_
  split <;> exact h.answer _ _ _ _

/-! ## Path engine -/

theorem execStrokeRead_evolves (t : Byte) (lane first count : Nat) :
    Yields (Evolves s) (execStrokeRead t lane first count s) := by
  refine Evolves.request _ _ fun d u h => h.unlessInit _ _ _ ?_
  split
  · exact h.refuse _ _ _
  · split <;> exact h.answer _ _ _ _

theorem execArmLane_evolves (t : Byte) (lane c first count chain auto : Nat) :
    Yields (Evolves s) (execArmLane t lane c first count chain auto s) := by
  refine Evolves.request _ _ fun d u h => ?_
  dsimp only
  split
  · exact h.refuse _ _ _
  · split
    · split
      · exact h.refuse _ _ _
      · split
        · exact h.refuse _ _ _
        · split
          · exact h.refuse _ _ _
          · split
            · exact h.answer _ _ _ _
            · exact (((h.modLane _ _).answer _ _ _ _).startTest _).settle _ _
    · exact h.refuse _ _ _

theorem Evolves.clearArming (h : Evolves s0 s) (l : Fin 2) : Evolves s0 (s.clearArming l) := h.modLane l _

theorem Evolves.disarmBoard (h : Evolves s0 s) (l : Fin 2) : Evolves s0 (s.disarmBoard l) := by
  unfold State.disarmBoard; split
  · exact h
  · split
    · exact ((h.modLane _ _).modBoardQuiet _ _).raise _ _
    · exact h

theorem Evolves.disarm (h : Evolves s0 s) (l : Fin 2) : Evolves s0 (s.disarm l) := by
  unfold State.disarm; split
  · exact h
  · exact h.clearArming l
  all_goals exact ((h.clearNeed l).clearArming l).disarmBoard l

theorem execDisarm_evolves (t : Byte) (lane : Nat) : Yields (Evolves s) (execDisarm t lane s) := by
  refine Evolves.request _ _ fun d u h => h.unlessInit _ _ _ ?_
  split
  · exact h.refuse _ _ _
  · exact ((h.disarm _).answer _ _ _ _).settle _ _

theorem execLaneStatus_evolves (t : Byte) (lane clear : Nat) : Yields (Evolves s) (execLaneStatus t lane clear s) := by
  refine Evolves.request _ _ fun d u h => h.unlessInit _ _ _ ?_
  split
  · exact h.refuse _ _ _
  · split
    · exact h.answer _ _ _ _
    · split
      · exact (h.modLane _ _).answer _ _ _ _
      · exact h.refuse _ _ _

theorem Evolves.lateReply (h : Evolves s0 s) (l : Fin 2) (op : Nat) (x : Bool) : Evolves s0 (s.lateReply l op x) :=
  (h.modLane l _).post _

theorem Evolves.headReply (h : Evolves s0 s) (l : Fin 2) (op : Nat) (e : OpEnd) : Evolves s0 (s.headReply l op e) := by
  unfold State.headReply; split
  · exact h.lateReply _ _ _
  · split
    · exact (h.opEnd _ _ _).settle _ _
    · exact h.lateReply _ _ _

theorem execHeadDone_evolves (l : Fin 2) (op : Byte) : Yields (Evolves s) (execHeadDone l op s) :=
  .next (Evolves.refl.discardInit _ (Evolves.refl.headReply _ _ _))

theorem execHeadFault_evolves (l : Fin 2) (op : Byte) (k : Nat) : Yields (Evolves s) (execHeadFault l op k s) :=
  .next (Evolves.refl.discardInit _ (Evolves.refl.headReply _ _ _))

theorem execHeadDeadline_evolves (l : Fin 2) : Yields (Evolves s) (execHeadDeadline l s) := by
  refine .next ?_
  show Evolves s (s.headDeadline l)
  unfold State.headDeadline; split
  · exact .refl
  · split
    · exact .refl
    · exact ((Evolves.refl.reach _).opEnd _ _ _).settle _ _

theorem execHeadCommandSent_evolves (l : Fin 2) (op : Byte) : Yields (Evolves s) (execHeadCommandSent l op s) :=
  .next (Evolves.refl.modLane l _)

/-! ## Applicator manager -/

theorem State.queued_of_busy {a : Fin 6} (h : ¬ s.busy a = true) : s.queued a = false := by
  simp only [State.busy, Bool.or_eq_true, not_or, Bool.not_eq_true] at h
  exact h.1

theorem Evolves.primeRequest (h : Evolves s0 s) (d : Header) (a : Fin 6) (m : Nat) (hq : s.queued a = false) :
    Evolves s0 (s.primeRequest d a m) := by
  unfold State.primeRequest; split
  case h_1 => exact ((h.enqueue _ hq).answer _ _ _ _).settle _ _
  case h_2 => split <;> exact h.answer _ _ _ _
  all_goals exact h.refuse _ _ _

theorem execPrime_evolves (t : Byte) (app m : Nat) : Yields (Evolves s) (execPrime t app m s) := by
  refine Evolves.request _ _ fun d u h => ?_
  split
  · exact h.refuse _ _ _
  · split
    · exact h.refuse _ _ _
    · split
      · exact h.refuse _ _ _
      · split
        · exact h.refuse _ _ _
        · split
          · exact h.refuse _ _ _
          · next hb => exact h.primeRequest _ _ _ (State.queued_of_busy hb)

theorem Evolves.appRequest (h : Evolves s0 s) (d : Header) (k app : Nat) (f : Fin 6 → State)
    (hf : ∀ a, s.queued a = false → Evolves s0 (f a)) : Evolves s0 (s.appRequest d k app f) := by
  unfold State.appRequest; split
  · exact h.refuse _ _ _
  · split
    · exact h.refuse _ _ _
    · split
      · exact h.refuse _ _ _
      · next hb => exact hf _ (State.queued_of_busy hb)

theorem execPurge_evolves (t : Byte) (app : Nat) : Yields (Evolves s) (execPurge t app s) := by
  refine Evolves.request _ _ fun d u h => h.appRequest _ _ _ _ fun a hq => ?_
  unfold State.purgeRequest; split
  case h_1 => exact h.answer _ _ _ _
  case h_2 => exact ((h.enqueue _ hq).answer _ _ _ _).settle _ _
  case h_3 => exact ((h.enqueue _ hq).answer _ _ _ _).settle _ _
  all_goals exact h.refuse _ _ _

theorem Evolves.acceptWait (h : Evolves s0 s) (d : Header) (k : Nat) (w : WaitKind) (a : Fin 6) :
    Evolves s0 (s.acceptWait d k w a) :=
  (((h.setUnit _ _ (Applicator.awaiting_debt ..).le).nextOrder).answer _ _ _ _).settle _ _

theorem execPark_evolves (t : Byte) (app : Nat) : Yields (Evolves s) (execPark t app s) := by
  refine Evolves.request _ _ fun d u h => h.appRequest _ _ _ _ fun a _ => ?_
  unfold State.parkRequest; split
  case h_1 => exact h.acceptWait _ _ _ _
  case h_2 => exact h.acceptWait _ _ _ _
  all_goals exact h.answer _ _ _ _

theorem execUnpark_evolves (t : Byte) (app : Nat) : Yields (Evolves s) (execUnpark t app s) := by
  refine Evolves.request _ _ fun d u h => h.appRequest _ _ _ _ fun a _ => ?_
  unfold State.unparkRequest; split
  case h_1 => exact h.acceptWait _ _ _ _
  all_goals exact h.answer _ _ _ _

theorem execApplicatorStatus_evolves (t : Byte) (app : Nat) : Yields (Evolves s) (execApplicatorStatus t app s) := by
  refine Evolves.request _ _ fun d u h => h.unlessInit _ _ _ ?_
  split
  · exact h.answer _ _ _ _
  · split <;> exact h.answer _ _ _ _

/-! ## Inspection and holds -/

theorem Evolves.reportMask (h : Evolves s0 s) (k i : Nat) (v : SiteState) (b : Board) :
    Evolves s0 (s.reportMask k i v b) := by
  have endWait : ∀ b : Board, b.Kept b.endMaskWait := fun b => by
    unfold Board.endMaskWait; split <;> constructor <;> rfl
  have g := h.modBoardQuiet k (Board.setSite i v)
  unfold State.reportMask; dsimp only; split <;> split
  · exact ((g.raise _ _).modBoardQuiet _ _ endWait).startTest _
  · exact (g.modBoardQuiet _ _ endWait).startTest _
  · exact (g.raise _ _).modBoardQuiet _ _ endWait
  · exact g.modBoardQuiet _ _ endWait

theorem execMaskReport_evolves (t : Byte) (slot k v : Nat) : Yields (Evolves s) (execMaskReport t slot k v s) := by
  refine Evolves.request _ _ fun d u h => h.unlessInit _ _ _ ?_
  split
  · exact h.refuse _ _ _
  · split
    · exact h.refuse _ _ _
    · split
      · exact h.refuse _ _ _
      · split
        · exact h.refuse _ _ _
        · split
          · exact h.refuse _ _ _
          · exact ((h.reportMask _ _ _ _).answer _ _ _ _).settle _ _

theorem execMaskWaitExpiry_evolves (slot : Nat) : Yields (Evolves s) (execMaskWaitExpiry slot s) := by
  refine .next ?_
  show Evolves s (s.maskWaitExpiry slot)
  unfold State.maskWaitExpiry; split
  · exact .refl
  · exact (((Evolves.refl.reach _).modBoardQuiet _ _).raise _ _).settle _ _

theorem execInspectDone_evolves (t : Byte) (slot : Nat) : Yields (Evolves s) (execInspectDone t slot s) := by
  refine Evolves.request _ _ fun d u h => h.unlessInit _ _ _ ?_
  split
  · exact h.refuse _ _ _
  · split
    · exact h.refuse _ _ _
    · split
      · exact h.refuse _ _ _
      · have g := h.modBoardQuiet slot fun b => { b with inspectDone := true }
        dsimp only; split
        · exact (g.answer _ _ _ _).settle _ _
        · exact ((g.testReady _).answer _ _ _ _).settle _ _

theorem execHold_evolves (t : Byte) (slot : Nat) : Yields (Evolves s) (execHold t slot s) := by
  refine Evolves.request _ _ fun d u h => h.unlessInit _ _ _ ?_
  split
  · exact h.refuse _ _ _
  · split
    · exact h.refuse _ _ _
    · exact ((h.raise _ _).answer _ _ _ _).settle _ _

theorem execHoldStatus_evolves (t : Byte) (slot first : Nat) : Yields (Evolves s) (execHoldStatus t slot first s) := by
  refine Evolves.request _ _ fun d u h => h.unlessInit _ _ _ ?_
  split
  · split <;> exact h.answer _ _ _ _
  · split
    · split <;> exact h.answer _ _ _ _
    · exact h.refuse _ _ _

/-! ## Board tracker: the reads and the lane sensors -/

theorem execBoardRead_evolves (t : Byte) (slot view : Nat) : Yields (Evolves s) (execBoardRead t slot view s) := by
  refine Evolves.request _ _ fun d u h => h.unlessInit _ _ _ ?_
  split
  · exact h.refuse _ _ _
  · split
    · exact h.refuse _ _ _
    · split <;> exact h.answer _ _ _ _

theorem execBoardList_evolves (t : Byte) (lane life : Nat) : Yields (Evolves s) (execBoardList t lane life s) := by
  refine Evolves.request _ _ fun d u h => h.unlessInit _ _ _ ?_
  split <;> exact h.answer _ _ _ _

theorem execHistoryRead_evolves (t : Byte) (start count : Nat) :
    Yields (Evolves s) (execHistoryRead t start count s) := by
  refine Evolves.request _ _ fun d u h => h.unlessInit _ _ _ ?_
  split <;> exact h.answer _ _ _ _

theorem Board.Kept.arrived (u : State) (b : Board) : b.Kept (u.arrived b) := by
  unfold State.arrived; split <;> constructor <;> rfl

theorem execLaneArrive_evolves (l : Fin 2) : Yields (Evolves s) (execLaneArrive l s) := by
  refine .next (Evolves.refl.discardInit _ ?_)
  unfold State.laneArrive; split
  · exact Evolves.refl.post _
  · split
    · exact Evolves.refl.post _
    · next k _ _ =>
        have g := (Evolves.refl (s0 := s)).modBoard k s.arrived (Board.Kept.arrived s)
        dsimp only; split
        · exact (g.requestBay _).settle _ _
        · exact (g.startTest _).settle _ _

/-! ## Oven controller -/

theorem execFlashReadyReached_evolves (slot : Nat) : Yields (Evolves s) (execFlashReadyReached slot s) := by
  refine .next ?_
  show Evolves s (s.flashReached slot)
  unfold State.flashReached; split
  · exact .refl
  · exact (((Evolves.refl.reach _).modBoardQuiet _ _).testReady _).settle _ _

theorem execOpenDeadlineExpiry_evolves (slot : Nat) : Yields (Evolves s) (execOpenDeadlineExpiry slot s) := by
  refine .next ?_
  show Evolves s (s.openReached slot)
  unfold State.openReached; split
  · exact .refl
  · split
    · exact Evolves.refl.reach _
    · exact ((Evolves.refl.reach _).openExpiry _).settle _ _

theorem execAdmitDeadline_evolves : Yields (Evolves s) (execAdmitDeadline s) := by
  refine .next ?_
  show Evolves s s.admitDeadline
  unfold State.admitDeadline; split
  · exact .refl
  · split
    · exact ((Evolves.refl.reach _).withdraw _).settle _ _
    · exact .refl

theorem execDivertDeadline_evolves : Yields (Evolves s) (execDivertDeadline s) := by
  refine .next ?_
  show Evolves s s.divertDeadline
  unfold State.divertDeadline; split
  · exact .refl
  · split
    · exact .refl
    · exact ((((Evolves.refl.reach _).clearShuttle).modBoard _ _).post _).settle _ _

theorem execZoneStale_evolves (z : Fin 4) : Yields (Evolves s) (execZoneStale z s) := by
  refine .next ?_
  show Evolves s (s.zoneStale z)
  unfold State.zoneStale; split
  · exact .refl
  · exact ((((Evolves.refl.reach _).setZone _ _).post _).withdrawAny).settle _ _

theorem execZoneChange_evolves (slot : Nat) : Yields (Evolves s) (execZoneChange slot s) := by
  refine .next ?_
  show Evolves s (s.zoneChange slot)
  unfold State.zoneChange; split
  · exact .refl
  · exact (Evolves.refl.reach _).modBoardQuiet _ _

theorem execOverdueExpiry_evolves (slot : Nat) : Yields (Evolves s) (execOverdueExpiry slot s) := by
  refine .next ?_
  show Evolves s (s.overdue slot)
  unfold State.overdue; split
  · exact .refl
  · exact (((Evolves.refl.reach _).modBoardQuiet _ _).raise _ _).settle _ _

theorem execOvenStatus_evolves (t : Byte) : Yields (Evolves s) (execOvenStatus t s) :=
  Evolves.request _ _ fun _ _ h => h.unlessInit _ _ _ (h.answer _ _ _ _)

end Sys2Proof.Machine
end

section
/-! SUPPORT. Updates that only one command makes: what each does to the invariants of the tables and limits. -/

namespace Sys2Proof.Machine

variable {s0 s : State}

/-! ## Tables rewritten in place -/

/-- Reading a table whose records are rewritten by `g`, which leaves the reset record as it is. -/
theorem Table.read_map {α : Type} (d : Nat → α) (g : α → α) (i : Nat) (hg : g (d i) = d i) (t : Table α) :
    Table.read d (t.map fun p => (p.1, g p.2)) i = g (Table.read d t i) := by
  induction t with
  | nil => exact hg.symm
  | cons p t ih =>
    simp only [List.map_cons, Table.read]
    split
    · rfl
    · exact ih

/-- A rising table lists no number at or below its bound. -/
theorem Table.read_below {α : Type} (d : Nat → α) {j : Nat} (t : Table α) (h : Table.rises (some j) t = true) {i : Nat}
    (hi : i ≤ j) : Table.read d t i = d i := by
  induction t generalizing j with
  | nil => rfl
  | cons p t ih =>
    obtain ⟨k, v⟩ := p
    simp only [Table.rises, Option.all_some, Bool.and_eq_true, decide_eq_true_eq] at h
    have hne : i ≠ k := by omega
    simp only [Table.read, if_neg hne]
    exact ih h.2 (by omega)

/-- Leaving out records equal to the reset record changes no reading of a rising table. -/
theorem Table.read_filter {α : Type} [DecidableEq α] (d : Nat → α) (lo : Option Nat) (t : Table α)
    (h : Table.rises lo t = true) (i : Nat) :
    Table.read d (t.filter fun p => decide (p.2 ≠ d p.1)) i = Table.read d t i := by
  induction t generalizing lo with
  | nil => rfl
  | cons p t ih =>
    obtain ⟨k, v⟩ := p
    simp only [Table.rises, Bool.and_eq_true] at h
    by_cases hv : v = d k
    · rw [List.filter_cons_of_neg (by simpa using hv), ih _ h.2]
      simp only [Table.read]
      split
      · next e => subst e; rw [hv]; exact Table.read_below d t h.2 (Nat.le_refl _)
      · rfl
    · rw [List.filter_cons_of_pos (by simpa using hv)]
      simp only [Table.read, ih _ h.2]

theorem Table.rises_filter {α : Type} (q : Nat × α → Bool) (lo : Option Nat) (t : Table α)
    (h : Table.rises lo t = true) : Table.rises lo (t.filter q) = true := by
  induction t generalizing lo with
  | nil => rfl
  | cons p t ih =>
    obtain ⟨k, v⟩ := p
    simp only [Table.rises, Bool.and_eq_true] at h
    by_cases hq : q (k, v) = true
    · rw [List.filter_cons_of_pos hq]
      simp only [Table.rises, Bool.and_eq_true]
      exact ⟨h.1, ih _ h.2⟩
    · rw [List.filter_cons_of_neg hq]
      refine ih _ (Table.rises_weaken t ?_ h.2)
      rintro b rfl
      exact ⟨k, rfl, by simpa using Nat.le_of_lt (by simpa using h.1)⟩

/-! ## The bays -/

/-- Serving a bay request changes bays and gates alone. -/
theorem State.reserve_eq (n : Fin 8) (k : Nat) (s : State) : s.reserve n k = { s with oven := { s.oven with
    bays := s.oven.bays.set n (.reserved k)
    gates := (s.board k).elim s.oven.gates fun b => s.oven.gates.set b.lane true } } := by
  have hb : (s.setBay n (.reserved k)).board k = s.board k := rfl
  simp only [State.reserve]
  cases s.board k <;> rfl

/-- A freed bay goes to the oldest slot of the bay wait list, whose lane's exit gate opens; the rest of the state stays. -/
theorem State.freeBay_record (n : Fin 8) (s : State) : s.freeBay n = { s with oven := { s.oven with
    bays := s.oven.bays.set n (s.oven.waitList.head?.elim .empty .reserved)
    gates := (s.oven.waitList.head?.bind s.board).elim s.oven.gates fun b => s.oven.gates.set b.lane true
    waitList := s.oven.waitList.tail } } := by
  unfold State.freeBay
  generalize hw : s.oven.waitList = w
  cases w with
  | nil => rw [show ([] : List Nat).tail = s.oven.waitList by rw [hw]; rfl]; rfl
  | cons k rest => exact State.reserve_eq ..

theorem State.freeBayOf_record (slot : Nat) (s : State) : s.freeBayOf slot = { s with oven := (s.freeBayOf slot).oven } := by
  unfold State.freeBayOf
  split
  · rfl
  next n _ => rw [State.freeBay_record]

/-! ## Requests and events -/

theorem Keeps.request (i : Instr) (f : Header → State → State) (hf : ∀ d u, Keeps s u → Keeps s (f d u)) :
    Yields (Keeps s) (s.request i f) := .next (hf _ _ (Evolves.refl.take i).keeps)

theorem Keeps.answer (h : Keeps s0 s) (d : Header) (k : Nat) (c : ResultCode) (b : Body) :
    Keeps s0 (s.answer d k c b) := h.evolves (Evolves.refl.answer d k c b)

theorem Keeps.refuse (h : Keeps s0 s) (d : Header) (k : Nat) (c : ResultCode) : Keeps s0 (s.refuse d k c) :=
  h.answer _ _ _ _

theorem Keeps.settle (h : Keeps s0 s) (p : Bool) (a : State) : Keeps s0 (s.settle p a) :=
  h.evolves (Evolves.refl.settle p a)

theorem Keeps.raise (h : Keeps s0 s) (n k : Nat) : Keeps s0 (s.raise n k) := h.evolves (Evolves.refl.raise n k)

theorem Keeps.unlessInit (h : Keeps s0 s) (d : Header) (k : Nat) (f : State → State) (hf : Keeps s0 (f s)) :
    Keeps s0 (s.unlessInit d k f) := by
  unfold State.unlessInit; split
  · exact h.refuse _ _ _
  · exact hf

theorem Keeps.discardInit (h : Keeps s0 s) (f : State → State) (hf : Keeps s0 (f s)) : Keeps s0 (s.discardInit f) := by
  unfold State.discardInit; split
  · exact h
  · exact hf

/-! ## History (01 R20) -/

/-- The sequence number of an entry that stands one place further from the counter. -/
theorem seq_succ (n : BitVec 32) (d : Nat) : n + 1#32 - BitVec.ofNat 32 (d + 1) = n - BitVec.ofNat 32 d := by
  rw [BitVec.ofNat_add]; ring

theorem State.appendHistory_ordered (g : List Byte) (c p : Nat) (d : Disposition) (x : NumSet 16) (t : Nat)
    (h : s.HistoryOrdered) : (s.appendHistory g c p d x t).HistoryOrdered := by
  obtain ⟨hlen, hseq⟩ := h
  obtain ⟨kept, hkept⟩ : ∃ kept, kept = (if Config.historyLimit ≤ s.tracker.history.length then s.tracker.history.tail
    else s.tracker.history) := ⟨_, rfl⟩
  have hlen' : kept.length < Config.historyLimit := by
    rw [hkept]; split
    · rw [List.length_tail]; have : Config.historyLimit = 64 := rfl; omega
    · omega
  have hseq' : ∀ j e, kept[j]? = some e → e.seq = s.tracker.nextSeq - BitVec.ofNat 32 (kept.length - j) := by
    intro j e
    rw [hkept]; split
    · rw [List.getElem?_tail, List.length_tail]
      intro he
      rw [hseq _ _ he]; congr 2; omega
    · exact hseq j e
  constructor
  · simp only [State.appendHistory, ← hkept, List.length_append, List.length_singleton]; omega
  · intro j e he
    simp only [State.appendHistory, ← hkept, List.length_append, List.length_singleton] at he ⊢
    rcases Nat.lt_or_ge j kept.length with hj | hj
    · rw [List.getElem?_append_left hj] at he
      rw [hseq' j e he, Nat.succ_sub hj.le, seq_succ]
    · rw [List.getElem?_append_right hj] at he
      obtain ⟨hj0, rfl⟩ : j - kept.length = 0 ∧ _ = e := by
        rcases hz : j - kept.length with _ | m
        · rw [hz] at he; exact ⟨rfl, Option.some.inj he⟩
        · rw [hz] at he; cases he
      have : kept.length + 1 - j = 0 + 1 := by omega
      rw [this, seq_succ]; simp

theorem State.appendHistory_length (g : List Byte) (c p : Nat) (d : Disposition) (x : NumSet 16) (t : Nat)
    (h : s.tracker.history.length ≤ 64) : (s.appendHistory g c p d x t).tracker.history.length ≤ 64 := by
  simp only [State.appendHistory, List.length_append, List.length_singleton]
  split
  · rw [List.length_tail]; omega
  · next hn => have : Config.historyLimit = 64 := rfl; omega

theorem Keeps.appendHistory (h : Keeps s0 s) (g : List Byte) (c p : Nat) (d : Disposition) (x : NumSet 16) (t : Nat) :
    Keeps s0 (s.appendHistory g c p d x t) :=
  h.trans { history := State.appendHistory_ordered g c p d x t
            lists := fun h => { h with history := State.appendHistory_length g c p d x t h.history } }

/-! ## Lane queues (01 R8, R12) -/

theorem Keeps.setQueue (h : Keeps s0 s) (l : Fin 2) (q : List Nat)
    (hq : (s.queueOf l).length ≤ 4 → q.length ≤ 4) : Keeps s0 (s.setQueue l q) := by
  refine h.trans { lists := fun h => { h with queues := fun k => ?_ } }
  rw [State.setQueue_queueOf]; split
  · exact hq (h.queues l)
  · exact h.queues k

/-! ## Use counts (02 R26) -/

/-- The recipes are sound by what they hold beside the use counts. -/
theorem State.RecipesSound.of_useCounts {t : State} (h : s.RecipesSound)
    (hc : ∀ c, ∃ n, t.cls c = { s.cls c with useCount := n }) (hm : ∀ m, t.mat m = s.mat m) : t.RecipesSound where
  classes c := by
    obtain ⟨n, e⟩ := hc c
    rw [e]
    simp only [hm]
    exact h.classes c
  materials m := by rw [hm]; exact h.materials m

theorem State.Canonical.setCls (h : s.Canonical) (c : Nat) (r : ClassRecord) : (s.setCls c r).Canonical :=
  { h with classes := Table.wf_write _ _ _ _ h.classes }

/-- A class record whose use count alone is replaced. -/
theorem State.setUse_cls (c n k : Nat) :
    ∃ m, (s.setCls c { s.cls c with useCount := n }).cls k = { s.cls k with useCount := m } := by
  rw [State.setCls_cls]; split
  · next e => subst e; exact ⟨n, rfl⟩
  · exact ⟨(s.cls k).useCount, rfl⟩

/-- The count of boards of a class when the record of one slot is replaced. -/
theorem State.countP_setBoard (s : State) {k : Nat} (hk : k < Config.slots) (b : Option Board) (c : Nat) :
    ((s.setBoard k b).boards.countP fun p => decide (p.2.cls = c)) + ((s.board k).any fun b => decide (b.cls = c)).toNat =
    (s.boards.countP fun p => decide (p.2.cls = c)) + (b.any fun b => decide (b.cls = c)).toNat := by
  rw [State.countP_cls, State.countP_cls]
  have h := countP_update (p := fun j => (s.board j).any fun b => decide (b.cls = c))
    (q := fun j => ((s.setBoard k b).board j).any fun b => decide (b.cls = c)) List.nodup_range (List.mem_range.2 hk)
    fun j hj => by rw [State.setBoard_board, if_neg hj]
  rw [h, State.setBoard_board, if_pos rfl]

/-- A board leaves the table and its class's use count falls by 1 (01 R16). -/
theorem Keeps.removeBoard (h : Keeps s0 s) {k : Nat} {b : Board} (hb : s.board k = some b) :
    Keeps s0 ((s.lowerUse b.cls).setBoard k none) := by
  have old : ∀ j b', ((s.lowerUse b.cls).setBoard k none).board j = some b' → s.board j = some b' := by
    intro j b' hj
    rw [State.setBoard_board] at hj; split at hj
    · cases hj
    · exact hj
  refine h.trans {
    canonical := fun h => (h.setCls _ _).setBoard _ _
    recipes := fun _ h => h.of_useCounts (State.setUse_cls _ _) fun _ => rfl
    doses := fun h j b' hj => h j b' (old j b' hj)
    findings := fun h j b' hj => h j b' (old j b' hj)
    tables := fun h => ⟨fun j hj => ?_, fun i j x y hi hj => h.tags i j x y (old i x hi) (old j y hj), fun c => ?_⟩ }
  · rw [State.setBoard_board]; split
    · rfl
    · exact h.slots j hj
  · have hk : k < Config.slots := by
      by_contra hk
      rw [h.slots k (Nat.le_of_not_lt hk)] at hb; cases hb
    have hcount := (s.lowerUse b.cls).countP_setBoard hk none c
    rw [show (s.lowerUse b.cls).board k = some b from hb, show (s.lowerUse b.cls).boards = s.boards from rfl,
      ← h.useCounts c] at hcount
    have huse : (((s.lowerUse b.cls).setBoard k none).cls c).useCount =
        if c = b.cls then (s.cls c).useCount - 1 else (s.cls c).useCount := by
      rw [show ((s.lowerUse b.cls).setBoard k none).cls c = (s.lowerUse b.cls).cls c from rfl, State.lowerUse,
        State.setCls_cls]
      split
      · next e => rw [e]
      · rfl
    rw [huse]
    by_cases hc : c = b.cls
    · subst hc
      simp only [Option.any_some, Option.any_none, decide_true, Bool.toNat_true, Bool.toNat_false] at hcount
      rw [if_pos rfl]; omega
    · simp only [Option.any_some, Option.any_none, decide_eq_false (Ne.symm hc), Bool.toNat_false] at hcount
      rw [if_neg hc]; omega

/-- A board is created in an empty slot and its class's use count rises by 1 (01 R10). -/
theorem Keeps.addBoard (h : Keeps s0 s) {k : Nat} {b : Board} (l : Fin 2) (q : List Nat) (hk : k < Config.slots)
    (hempty : s.board k = none) (htag : ∀ j b', j < Config.slots → s.board j = some b' → b'.tag ≠ b.tag)
    (hdose : b.dosesBounded) (hfind : b.findings.length ≤ Config.findingLimit ∧ b.overflow ≤ 255)
    (hq : (s.queueOf l).length ≤ 4 → q.length ≤ 4) :
    Keeps s0 (((s.setBoard k (some b)).setQueue l q).raiseUse b.cls) := by
  have g : Keeps s ((s.setBoard k (some b)).raiseUse b.cls) := by
    have board : ∀ j, ((s.setBoard k (some b)).raiseUse b.cls).board j = if j = k then some b else s.board j :=
      fun j => s.setBoard_board k j (some b)
    have old : ∀ j b', ((s.setBoard k (some b)).raiseUse b.cls).board j = some b' → j = k ∧ b' = b ∨
        j ≠ k ∧ s.board j = some b' := by
      intro j b' hj
      rw [board] at hj; split at hj
      · next e => exact .inl ⟨e, (Option.some.inj hj).symm⟩
      · next e => exact .inr ⟨e, hj⟩
    refine {
      canonical := fun h => (h.setBoard _ _).setCls _ _
      recipes := fun _ h => h.of_useCounts (State.setUse_cls (s := s.setBoard k (some b)) _ _) fun _ => rfl
      tables := fun h => ⟨fun j hj => ?_, fun i j x y hi hj ht => ?_, fun c => ?_⟩
      doses := fun h j b' hj => ?_
      findings := fun h j b' hj => ?_ }
    · rw [board, if_neg (by omega), h.slots j hj]
    · have slot : ∀ j b', s.board j = some b' → j < Config.slots := fun j b' hj => by
        by_contra hn
        rw [h.slots j (Nat.le_of_not_lt hn)] at hj; cases hj
      rcases old i x hi with ⟨rfl, rfl⟩ | ⟨_, hi'⟩ <;> rcases old j y hj with ⟨rfl, rfl⟩ | ⟨_, hj'⟩
      · rfl
      · exact absurd ht.symm (htag j y (slot j y hj') hj')
      · exact absurd ht (htag i x (slot i x hi') hi')
      · exact h.tags i j x y hi' hj' ht
    · have hcount := s.countP_setBoard hk (some b) c
      rw [hempty, ← h.useCounts c] at hcount
      have huse : (((s.setBoard k (some b)).raiseUse b.cls).cls c).useCount =
          if c = b.cls then (s.cls c).useCount + 1 else (s.cls c).useCount := by
        rw [State.raiseUse, State.setCls_cls]
        split
        · next e => rw [e]; rfl
        · rfl
      rw [huse, show ((s.setBoard k (some b)).raiseUse b.cls).boards = (s.setBoard k (some b)).boards from rfl]
      by_cases hc : c = b.cls
      · subst hc
        simp only [Option.any_some, Option.any_none, decide_true, Bool.toNat_true, Bool.toNat_false] at hcount
        rw [if_pos rfl]; omega
      · simp only [Option.any_some, Option.any_none, decide_eq_false (Ne.symm hc), Bool.toNat_false] at hcount
        rw [if_neg hc]; omega
    · rcases old j b' hj with ⟨_, rfl⟩ | ⟨_, hj⟩
      · exact hdose
      · exact h j b' hj
    · rcases old j b' hj with ⟨_, rfl⟩ | ⟨_, hj⟩
      · exact hfind
      · exact h j b' hj
  exact (h.trans g).setQueue l q hq

/-! ## Retirement (01 R16) -/

theorem Keeps.retire (h : Keeps s0 s) (quiet : Bool) (k : Nat) (d : Disposition) : Keeps s0 (s.retire quiet k d) := by
  unfold State.retire; split
  · exact h
  · next b hb =>
      have hist := h.appendHistory b.tag b.cls b.pass d (b.pendingSet ||| b.inService) s.clock
      have queue := hist.setQueue b.lane ((State.queueOf (s.appendHistory b.tag b.cls b.pass d
        (b.pendingSet ||| b.inService) s.clock) b.lane).filter fun j => j != k) (Nat.le_trans (List.length_filter_le ..))
      have bay := queue.evolves (Evolves.refl.freeBayOf k)
      have gone := bay.removeBoard (k := k) (b := b) (by unfold State.board; rw [State.freeBayOf_record]; exact hb)
      dsimp only; split
      · exact gone
      · exact gone.post _

/-! ## LINE_RESET (10 R171) -/

/-- Every use count at 0, read through the class table. -/
theorem State.lineReset_cls (h : s.Canonical) (c : Nat) : s.lineReset.cls c = { s.cls c with useCount := 0 } := by
  have hr := h.classes
  simp only [Table.wf, Bool.and_eq_true] at hr
  have hmap := Table.rises_map (fun p : Nat × ClassRecord => (p.1, { p.2 with useCount := 0 })) (fun _ => rfl) none
    s.recipe.classes
  exact (Table.read_filter (fun _ => resetClass) none _ (hmap.trans hr.1) c).trans
    (Table.read_map (fun _ => resetClass) (fun r => { r with useCount := 0 }) c rfl _)

/-- A table all of whose records have use count 0 reads so everywhere. -/
theorem Table.read_useCount (t : Table ClassRecord) (h : ∀ p ∈ t, p.2.useCount = 0) (c : Nat) :
    (Table.read (fun _ => resetClass) t c).useCount = 0 := by
  induction t with
  | nil => rfl
  | cons p t ih =>
    simp only [Table.read]
    split
    · exact h p (List.mem_cons_self ..)
    · exact ih fun q hq => h q (List.mem_cons_of_mem _ hq)

theorem State.unwait_debt (r : Applicator) : (s.unwait r).debt = r.debt := by
  unfold State.unwait
  split
  · split <;> rfl
  all_goals rfl

theorem State.resetUnit_debt (a : Fin 6) : (s.resetUnit a).debt ≤ (s.unit a).debt := by
  unfold State.resetUnit; split
  · split
    · exact Nat.le_refl _
    · exact Nat.zero_le _
  · split
    · exact Nat.zero_le _
    · exact (State.unwait_debt _).le

theorem State.lineReset_lane (l : Fin 2) : s.lineReset.lane l = (s.lane l).reset := by
  simp [State.lane, State.lineReset, Vector.get_eq_getElem]

theorem Keeps.lineReset (h : Keeps s0 s) : Keeps s0 s.lineReset := by
  have noBoard : ∀ k, s.lineReset.board k = none := fun _ => rfl
  refine h.trans {
    canonical := fun h => { h with classes := ?_, boards := rfl, strokes := fun l => ?_ }
    tables := fun _ => ⟨fun k _ => noBoard k, fun j k b b' hj => (nomatch (noBoard j).symm.trans hj), fun c => ?_⟩
    recipes := fun hc h => h.of_useCounts (fun c => ⟨0, State.lineReset_cls hc c⟩) fun _ => rfl
    lists := fun h => { h with
      queues := fun l => ?_, starts := Nat.zero_le _, requests := List.nodup_nil, entryStart := Nat.zero_le _,
      occupancy := Nat.zero_le _, admission := nofun }
    notices := fun _ => List.nodup_nil
    debts := fun h a => ?_
    doses := fun _ k b hk => (nomatch (noBoard k).symm.trans hk)
    findings := fun _ k b hk => (nomatch (noBoard k).symm.trans hk)
    opIds := fun h l => ?_
    lastTaken := fun _ => (by decide : (31 : Nat) < 32) }
  · have hr := h.classes
    simp only [Table.wf, Bool.and_eq_true] at hr ⊢
    refine ⟨Table.rises_filter _ _ _ ?_, List.all_filter.trans ?_⟩
    · exact (Table.rises_map (fun p : Nat × ClassRecord => (p.1, { p.2 with useCount := 0 })) (fun _ => rfl) _ _).trans
        hr.1
    · simp
  · rw [State.lineReset_lane]; exact h.strokes l
  · rw [show s.lineReset.boards = [] from rfl]
    refine Table.read_useCount _ (fun p hp => ?_) c
    obtain ⟨q, _, rfl⟩ := List.mem_map.1 (List.mem_of_mem_filter hp)
    rfl
  · rw [show s.lineReset.queueOf l = [] by simp [State.queueOf, State.lineReset, Vector.get_eq_getElem]]
    exact Nat.zero_le _
  · rw [show s.lineReset.unit a = s.resetUnit a by simp [State.unit, State.lineReset, Vector.get_eq_getElem]]
    exact (State.resetUnit_debt a).trans (h a)
  · rw [State.lineReset_lane]; exact h l

end Sys2Proof.Machine
end

section
/-! SUPPORT. The recipe writes: what a record read in range is, and that a write keeps the recipes sound (02 R27, R30, R32). -/

namespace Sys2Proof.Machine

variable {s0 s : State}

/-! ## Records read in range -/

/-- A material slot within the ranges of R25. -/
structure MatSlot.InRange (x : MatSlot) : Prop where
  material : x.material < 8
  doses : 1 ≤ x.required ∧ x.required ≤ x.maximum ∧ x.maximum ≤ 16777

theorem readSlot_inRange {f : SlotFields} {x : MatSlot} (h : readSlot f = some x) : x.InRange := by
  unfold readSlot at h
  split at h
  · next hc =>
      cases h
      simp only [Bool.and_eq_true, decide_eq_true_eq] at hc
      exact ⟨hc.1.1, hc.1.2.1, hc.2.1, hc.2.2⟩
  · cases h

theorem readSlots_inRange {f : ClassFields} {x y : Option MatSlot} (h : readSlots f = some (x, y)) :
    (∀ m, x = some m ∨ y = some m → m.InRange) ∧ ∀ a b, x = some a → y = some b → a.material ≠ b.material := by
  unfold readSlots at h
  split at h
  · obtain ⟨a, ha, hxy⟩ := Option.map_eq_some_iff.1 h
    cases hxy
    refine ⟨?_, nofun⟩
    rintro m (hm | hm) <;> cases hm
    exact readSlot_inRange ha
  · split at h
    · next a b ha hb =>
        split at h
        · cases h
        · next hne =>
            cases h
            refine ⟨?_, ?_⟩
            · rintro m (hm | hm) <;> cases hm
              · exact readSlot_inRange ha
              · exact readSlot_inRange hb
            · rintro _ _ ⟨⟩ ⟨⟩; exact hne
    · cases h
  · cases h

theorem readClass_spec {f : ClassFields} {r : ClassRecord} (h : readClass f = some r) :
    r.useCount = 0 ∧ readSlots f = some (r.slot1, r.slot2) := by
  unfold readClass at h
  split at h
  · next hslots _ _ =>
      split at h
      · cases h; exact ⟨rfl, hslots⟩
      · cases h
  · cases h

theorem ascends_pairwise : (l : List (Nat × Nat)) → ascends l = true → l.Pairwise fun p q => p.1 < q.1
  | [], _ => .nil
  | [_], _ => List.pairwise_singleton _ _
  | p :: q :: r, h => by
    simp only [ascends, Bool.and_eq_true, decide_eq_true_eq] at h
    have ih := ascends_pairwise (q :: r) h.2
    refine List.pairwise_cons.2 ⟨fun x hx => ?_, ih⟩
    rcases List.mem_cons.1 hx with rfl | hx
    · exact h.1
    · exact h.1.trans ((List.pairwise_cons.1 ih).1 x hx)

theorem readMaterial_spec {f : MaterialFields} {r : MaterialRecord} (h : readMaterial f = some r) :
    r.valid = true ∧ r.flashMinS < r.openMaxS ∧ r.points.length = 8 ∧ r.points.Pairwise fun p q => p.1 < q.1 := by
  unfold readMaterial at h
  split at h
  · next hc =>
      cases h
      simp only [Bool.and_eq_true, decide_eq_true_eq] at hc
      obtain ⟨⟨⟨⟨_, hfo⟩, hlen⟩, _⟩, hasc⟩ := hc
      exact ⟨rfl, hfo, hlen, ascends_pairwise _ hasc⟩
  · cases h

/-! ## Materials that a class names -/

theorem ClassRecord.names_iff (r : ClassRecord) (m : Nat) :
    r.names m = true ↔ ∃ x, (r.slot1 = some x ∨ r.slot2 = some x) ∧ x.material = m := by
  unfold ClassRecord.names
  cases r.slot1 <;> cases r.slot2 <;> simp

theorem ClassRecord.mem_materials (r : ClassRecord) (m : Nat) : m ∈ r.materials ↔ r.names m = true := by
  rw [ClassRecord.names_iff]
  unfold ClassRecord.materials
  cases r.slot1 <;> cases r.slot2 <;> simp [eq_comm]

theorem ClassRecord.pairing_two {r : ClassRecord} {mat : Nat → MaterialRecord} (h : r.pairing mat = true) {x y : MatSlot}
    (hx : r.slot1 = some x) (hy : r.slot2 = some y) :
    max (mat x.material).flashMinS (mat y.material).flashMinS <
      min (mat x.material).openMaxS (mat y.material).openMaxS := by
  simpa [ClassRecord.pairing, hx, hy, pairFits] using h

theorem mem_classIds {c : Nat} : c ∈ classIds ↔ 1 ≤ c ∧ c ≤ 48 := by
  simp only [classIds, List.mem_map, List.mem_range]
  constructor
  · rintro ⟨k, hk, rfl⟩; omega
  · rintro ⟨h1, h2⟩; exact ⟨c - 1, by omega, by omega⟩

/-! ## CLASS_WRITE -/

/-- What a CLASS_WRITE of class `c` stores: an unused record, within the constraints of R27 where it is valid. -/
structure State.ClassFits (s : State) (c : Nat) (r : ClassRecord) : Prop where
  unused : r.useCount = 0
  sound : r.valid = true → 1 ≤ c ∧ c ≤ 48 ∧ (∀ m, r.names m = true → m < 8 ∧ (s.mat m).valid = true) ∧
    (∀ x, r.slot1 = some x ∨ r.slot2 = some x → 1 ≤ x.required ∧ x.required ≤ x.maximum ∧ x.maximum ≤ 16777) ∧
    ∀ x y, r.slot1 = some x → r.slot2 = some y → x.material ≠ y.material ∧
      max (s.mat x.material).flashMinS (s.mat y.material).flashMinS <
        min (s.mat x.material).openMaxS (s.mat y.material).openMaxS

theorem State.classTests_spec {f : ClassFields} {r : ClassRecord} (h : s.classTests f = .ok r) {c : Nat}
    (hc : classOk c = true) : s.ClassFits c r := by
  unfold State.classTests at h
  split at h
  · cases h
  · next hr =>
      split at h
      · cases h
      · next hvalid =>
          split at h
          · cases h
          · next hpair =>
              cases h
              obtain ⟨huse, hslots⟩ := readClass_spec hr
              obtain ⟨hrange, hdiff⟩ := readSlots_inRange hslots
              simp only [Bool.not_eq_true', Bool.not_eq_false, List.all_eq_true] at hvalid hpair
              simp only [Bool.and_eq_true, decide_eq_true_eq] at hc
              refine ⟨huse, fun _ => ⟨hc.1, hc.2, fun m hm => ⟨?_, hvalid m ((r.mem_materials m).2 hm)⟩,
                fun x hx => (hrange x hx).doses, fun x y hx hy => ⟨hdiff x y hx hy, ClassRecord.pairing_two hpair hx hy⟩⟩⟩
              obtain ⟨x, hx, rfl⟩ := (r.names_iff m).1 hm
              exact (hrange x hx).material

theorem State.classResult_spec {c : Nat} {f : ClassFields} {r : ClassRecord} (h : s.classResult c f = .ok r) :
    (s.cls c).useCount = 0 ∧ s.ClassFits c r := by
  unfold State.classResult at h
  split at h
  · cases h
  · next hc =>
      simp only [Bool.not_eq_true', Bool.not_eq_false] at hc
      split at h
      · cases h
      · next hu =>
          have hzero : (s.cls c).useCount = 0 := by
            simp only [State.inUse, Bool.or_eq_true, decide_eq_true_eq, not_or] at hu
            omega
          refine ⟨hzero, ?_⟩
          split at h
          · cases h
          · cases h; exact ⟨rfl, nofun⟩
          · exact State.classTests_spec h hc

theorem Keeps.setCls (h : Keeps s0 s) (c : Nat) (r : ClassRecord) (hold : (s.cls c).useCount = 0)
    (hfit : s.ClassFits c r) : Keeps s0 (s.setCls c r) := by
  refine h.trans {
    canonical := fun h => h.setCls c r
    tables := fun h => ⟨h.slots, h.tags, fun k => ?_⟩
    recipes := fun _ h => ⟨fun k => ?_, h.materials⟩ }
  · rw [State.setCls_cls]; split
    · next e => subst e; rw [hfit.unused, ← hold]; exact h.useCounts k
    · exact h.useCounts k
  · rw [State.setCls_cls]; split
    · next e => subst e; exact hfit.sound
    · exact h.classes k

/-! ## MATERIAL_WRITE -/

theorem State.materialResult_spec {m : Nat} {f : MaterialFields} {r : MaterialRecord}
    (h : s.materialResult m f = .ok r) :
    (r.valid = true → m < 8 ∧ r.flashMinS < r.openMaxS ∧ r.points.length = 8 ∧ r.points.Pairwise fun p q => p.1 < q.1) ∧
    ∀ c, 1 ≤ c → c ≤ 48 → (s.cls c).valid = true → (s.cls c).names m = true →
      r.valid = true ∧ (s.cls c).pairing (fun k => if k = m then r else s.mat k) = true := by
  unfold State.materialResult at h
  split at h
  · cases h
  · next hm =>
      split at h
      · cases h
      · split at h
        · cases h
        · split at h
          · cases h
          · next hnone =>
              cases h
              refine ⟨nofun, fun c h1 h2 hv hn => absurd ?_ hnone⟩
              exact List.countP_pos_iff.2 ⟨c, mem_classIds.2 ⟨h1, h2⟩, by simp [hv, hn]⟩
        · split at h
          · cases h
          · next hr =>
              split at h
              · next hpair =>
                  cases h
                  obtain ⟨hvalid, hrest⟩ := readMaterial_spec hr
                  refine ⟨fun _ => ⟨by simpa using hm, hrest⟩, fun c h1 h2 hv hn => ⟨hvalid, ?_⟩⟩
                  have := List.all_eq_true.1 hpair c (mem_classIds.2 ⟨h1, h2⟩)
                  simpa [hv, hn] using this
              · cases h

theorem State.RecipesSound.setMat (h : s.RecipesSound) {m : Nat} {r : MaterialRecord}
    (hmat : r.valid = true → m < 8 ∧ r.flashMinS < r.openMaxS ∧ r.points.length = 8 ∧
      r.points.Pairwise fun p q => p.1 < q.1)
    (hcls : ∀ c, 1 ≤ c → c ≤ 48 → (s.cls c).valid = true → (s.cls c).names m = true →
      r.valid = true ∧ (s.cls c).pairing (fun k => if k = m then r else s.mat k) = true) : (s.setMat m r).RecipesSound where
  classes c hv := by
    change (s.cls c).valid = true at hv
    obtain ⟨h1, h2, hnames, hrange, hpair⟩ := h.classes c hv
    refine ⟨h1, h2, fun k hk => ⟨(hnames k hk).1, ?_⟩, hrange, fun x y hx hy => ⟨(hpair x y hx hy).1, ?_⟩⟩
    · rw [State.setMat_mat]; split
      · next e => subst e; exact (hcls c h1 h2 hv hk).1
      · exact (hnames k hk).2
    · simp only [State.setMat_mat]
      by_cases hn : (s.cls c).names m = true
      · exact ClassRecord.pairing_two (hcls c h1 h2 hv hn).2 hx hy
      · have hxm : x.material ≠ m := fun e => hn (((s.cls c).names_iff m).2 ⟨x, .inl hx, e⟩)
        have hym : y.material ≠ m := fun e => hn (((s.cls c).names_iff m).2 ⟨y, .inr hy, e⟩)
        rw [if_neg hxm, if_neg hym]
        exact (hpair x y hx hy).2
  materials k := by
    rw [State.setMat_mat]; split
    · next e => subst e; exact hmat
    · exact h.materials k

theorem Keeps.setMat (h : Keeps s0 s) {m : Nat} {f : MaterialFields} {r : MaterialRecord}
    (hr : s.materialResult m f = .ok r) : Keeps s0 (s.setMat m r) := by
  obtain ⟨hmat, hcls⟩ := State.materialResult_spec hr
  exact h.trans {
    canonical := fun h => { h with materials := Table.wf_write _ _ _ _ h.materials }
    tables := fun h => ⟨h.slots, h.tags, h.useCounts⟩
    recipes := fun _ h => h.setMat hmat hcls }

end Sys2Proof.Machine
end

section
/-! The invariants of the tables and of the limits over every step: TablesKept (O55) and LimitsKept (O56). The commands that
make updates of their own, block by block, and the step. -/

namespace Sys2Proof.Machine

variable {s0 s : State}

/-! ## Line control -/

/-- The state at power-on meets every invariant, whatever it found. -/
theorem execPowerOn_keeps (e : Bool) : Yields (Keeps s) (execPowerOn e s) := by
  have lane : ∀ l, ({ State.powerOn e with pending := s.pending } : State).lane l = resetLane := fun l => by
    simp [State.lane, State.powerOn, Vector.get_eq_getElem]
  have unit : ∀ a, ({ State.powerOn e with pending := s.pending } : State).unit a = resetApplicator := fun a => by
    simp [State.unit, State.powerOn, Vector.get_eq_getElem]
  have queue : ∀ l, ({ State.powerOn e with pending := s.pending } : State).queueOf l = [] := fun l => by
    simp [State.queueOf, State.powerOn, Vector.get_eq_getElem]
  have board : ∀ k, ({ State.powerOn e with pending := s.pending } : State).board k = none := fun _ => rfl
  exact .next {
    canonical := fun _ => ⟨rfl, rfl, rfl, rfl, rfl, rfl, fun l => by rw [lane]; rfl⟩
    tables := fun _ => ⟨fun k _ => board k, fun j k b b' hj => (nomatch (board j).symm.trans hj), fun _ => rfl⟩
    history := fun _ => ⟨Nat.zero_le _, fun j e he => (nomatch he)⟩
    recipes := fun _ _ => ⟨fun c hc => (nomatch (show false = true from hc)), fun m hm => (nomatch (show false = true from hm))⟩
    lists := fun _ => ⟨fun l => by rw [queue]; exact Nat.zero_le _, Nat.zero_le _, Nat.zero_le _,
      (by decide : 4 ≤ 8), Nat.zero_le _, List.nodup_nil, Nat.zero_le _, Nat.zero_le _, fun o ho => (nomatch ho)⟩
    notices := fun _ => List.nodup_nil
    debts := fun _ a => by rw [unit]; exact Nat.zero_le _
    doses := fun _ k b hk => (nomatch (board k).symm.trans hk)
    findings := fun _ k b hk => (nomatch (board k).symm.trans hk)
    opIds := fun _ l => by rw [lane]; decide
    lastTaken := fun _ => (by decide : 31 < 32) }

theorem State.haltUnit_debt (a : Fin 6) (r : Applicator) : (s.haltUnit a r).debt ≤ r.debt := by
  unfold State.haltUnit; split
  · split
    · exact Nat.le_refl _
    · exact Nat.zero_le _
  · exact (State.unwait_debt r).le

theorem Evolves.eachUnit (h : Evolves s0 s) (f : Fin 6 → Applicator → Applicator) (hf : ∀ a r, (f a r).debt ≤ r.debt) :
    Evolves s0 (s.eachUnit f) :=
  List.foldlRecOn _ _ h fun _ hu a _ => hu.modUnit a (f a) (hf a)

theorem Keeps.emptyQueue (h : Keeps s0 s) : Keeps s0 { s with apps := { s.apps with queue := [] } } :=
  h.trans { lists := fun h => { h with requests := List.nodup_nil } }

theorem Keeps.haltApps (h : Keeps s0 s) : Keeps s0 s.haltApps :=
  (h.evolves (Evolves.refl.eachUnit (fun a r => s.haltUnit a r) fun a r => State.haltUnit_debt a r)).emptyQueue

theorem Evolves.idleLane (h : Evolves s0 s) (l : Fin 2) : Evolves s0 (s.idleLane l) :=
  ((h.modLane l _).setStatus l _).modLane l _

theorem Evolves.haltBoard (h : Evolves s0 s) (l : Fin 2) : Evolves s0 (s.haltBoard l) := by
  unfold State.haltBoard; split
  · exact h
  · split
    · split
      · exact h.abandonBoard _
      · exact (h.modBoard _ _).raise _ _
    · exact h

theorem Evolves.haltLane (h : Evolves s0 s) (l : Fin 2) : Evolves s0 (s.haltLane l) := (h.idleLane l).haltBoard l

theorem Keeps.enterHalted (h : Keeps s0 s) (c : ChangeCause) : Keeps s0 (s.enterHalted c) :=
  (h.evolves (Evolves.refl.setMode _ c)).haltApps.evolves
    ((((Evolves.refl.haltLane 0).haltLane 1).abandonShuttle).settle _ _)

theorem execEstopChange_keeps (a : Bool) : Yields (Keeps s) (execEstopChange a s) := by
  refine .next ?_
  show Keeps s (s.estopChange a)
  have g : Keeps s { s with line := { s.line with estop := a } } := {}
  unfold State.estopChange; split
  · exact .refl s
  · dsimp only; split
    · exact g
    · split
      · exact (g.enterHalted _).post _
      · exact g.post _
    · split
      · exact (g.enterHalted _).post _
      · exact g.post _
    · split
      · exact (g.enterHalted _).post _
      · exact g.post _
    · exact g.post _

theorem readLimits_windowLimit {a b c d : Nat} {m : Limits} (h : readLimits a b c d = some m) : m.windowLimit ≤ 8 := by
  unfold readLimits at h
  split at h
  · next hc =>
      cases h
      simp only [Bool.and_eq_true, decide_eq_true_eq] at hc
      exact hc.1.1.1.2
  · cases h

theorem Keeps.setLimits (h : Keeps s0 s) (m : Limits) (hm : m.windowLimit ≤ 8) : Keeps s0 (s.setLimits m) :=
  h.trans { lists := fun h => { h with
    windowLimit := hm
    starts := (List.length_filter_le ..).trans h.starts
    entryStart := (List.length_map _).le.trans h.entryStart } }

theorem Keeps.setOven (h : Keeps s0 s) (v : OvenSettings) : Keeps s0 (s.setOven v) := by
  unfold State.setOven; split
  · exact h.trans {}
  · have g : Keeps s0 { s with oven := { s.oven with staged := some v } } := h.trans {}
    dsimp only; split
    · exact g.post _
    · exact g

theorem execLineSet_keeps (t : Byte) (f : SettingsFields) : Yields (Keeps s) (execLineSet t f s) := by
  refine Keeps.request _ _ fun d u h => h.unlessInit _ _ _ ?_
  split
  · split
    · exact h.refuse _ _ _
    · split
      · exact h.refuse _ _ _
      · next hm => exact ((h.setLimits _ (readLimits_windowLimit hm)).answer _ _ _ _).settle _ _
  · split
    · exact h.refuse _ _ _
    · exact (h.setOven _).answer _ _ _ _
  · exact h.refuse _ _ _

theorem execHalt_keeps (t : Byte) : Yields (Keeps s) (execHalt t s) := by
  refine Keeps.request _ _ fun d u h => h.unlessInit _ _ _ ?_
  split
  · exact h.answer _ _ _ _
  · exact (h.enterHalted _).answer _ _ _ _

theorem execLineReset_keeps (t : Byte) : Yields (Keeps s) (execLineReset t s) := by
  refine Keeps.request _ _ fun d u h => h.unlessInit _ _ _ ?_
  split
  · exact h.lineReset.answer _ _ _ _
  · exact h.refuse _ _ _

/-! ## Recipe store -/

theorem execClassWrite_keeps (t : Byte) (c : Nat) (f : ClassFields) : Yields (Keeps s) (execClassWrite t c f s) := by
  refine Keeps.request _ _ fun d u h => h.unlessInit _ _ _ ?_
  split
  · exact h.refuse _ _ _
  · next hr =>
      obtain ⟨hold, hfit⟩ := State.classResult_spec hr
      exact (h.setCls _ _ hold hfit).answer _ _ _ _

theorem execMaterialWrite_keeps (t : Byte) (m : Nat) (f : MaterialFields) :
    Yields (Keeps s) (execMaterialWrite t m f s) := by
  refine Keeps.request _ _ fun d u h => h.unlessInit _ _ _ ?_
  split
  · exact h.refuse _ _ _
  · next hr => exact (h.setMat hr).answer _ _ _ _

/-! ## Keep-out table -/

theorem Keeps.startEdit (h : Keeps s0 s) (d : Header) (k : Nat) (e : EditKind) (rs : List (Nat × Nat)) (free : Bool)
    (x : NumSet 48) (steps : List EditStep) : Keeps s0 (s.startEdit d k e rs free x steps) := by
  unfold State.startEdit; split
  · exact h.refuse _ _ _
  · split
    · exact h.refuse _ _ _
    · split
      · exact h.answer _ _ _ _
      · exact h.trans {}

theorem execRuleWrite_keeps (t : Byte) (i : Nat) (f : EntryFields) : Yields (Keeps s) (execRuleWrite t i f s) := by
  refine Keeps.request _ _ fun d u h => h.unlessInit _ _ _ ?_
  split
  · exact h.refuse _ _ _
  · split
    · exact h.startEdit _ _ _ _ _ _ _
    · exact h.refuse _ _ _

theorem execRuleFill_keeps (t : Byte) (a b : Nat) (f : EntryFields) : Yields (Keeps s) (execRuleFill t a b f s) := by
  refine Keeps.request _ _ fun d u h => h.unlessInit _ _ _ ?_
  split
  · exact h.refuse _ _ _
  · split
    · exact h.startEdit _ _ _ _ _ _ _
    · exact h.refuse _ _ _

theorem execRuleMove_keeps (t : Byte) (a b n : Nat) : Yields (Keeps s) (execRuleMove t a b n s) := by
  refine Keeps.request _ _ fun d u h => h.unlessInit _ _ _ ?_
  split
  · exact h.startEdit _ _ _ _ _ _ _
  · exact h.refuse _ _ _

theorem Keeps.setEntry (h : Keeps s0 s) (i : Nat) (e : KeepOutEntry) : Keeps s0 (s.setEntry i e) :=
  h.trans { canonical := fun h => { h with entries := Table.wf_write _ _ _ _ h.entries } }

theorem execRuleRead_keeps (t : Byte) (i c : Nat) : Yields (Keeps s) (execRuleRead t i c s) := by
  refine Keeps.request _ _ fun d u h => h.unlessInit _ _ _ ?_
  split
  · split
    · exact h.refuse _ _ _
    · exact (h.setEntry _ _).answer _ _ _ _
  · exact h.refuse _ _ _

theorem Keeps.editStep (h : Keeps s0 s) (st : EditStep) : Keeps s0 (s.editStep st) := by
  cases st with
  | write i e => exact h.setEntry i e
  | copy i j => exact h.setEntry j _
  | clear i => exact h.setEntry i _

theorem Keeps.withEdit (h : Keeps s0 s) (e : Option Edit) : Keeps s0 { s with keepOut := { s.keepOut with edit := e } } :=
  h.trans {}

theorem execEditStep_keeps : Yields (Keeps s) (execEditStep s) := by
  refine .next ?_
  show Keeps s s.nextEditStep
  unfold State.nextEditStep; split
  · exact .refl s
  · split
    · exact .refl s
    · next e _ _ st _ _ =>
        have g := (Evolves.refl.reach (s0 := s) (e.accepted + e.taken + 1)).keeps.editStep st
        dsimp only; split
        · exact (g.withEdit none).evolves
            ((((Evolves.refl.answer _ _ _ _).startTest 0).startTest 1).settle _ _)
        · exact g.withEdit _

/-! ## Criteria, findings and holds -/

theorem Keeps.setCriterion (h : Keeps s0 s) (i : Nat) (c : Criterion) : Keeps s0 (s.setCriterion i c) :=
  h.trans { canonical := fun h => { h with criteria := Table.wf_write _ _ _ _ h.criteria } }

theorem State.mapBoards_board (f : Board → Board) (k : Nat) : (s.mapBoards f).board k = (s.board k).map f :=
  Table.read_map (fun _ => none) (Option.map f) k rfl s.tracker.boards

theorem Keeps.mapBoards (h : Keeps s0 s) (f : Board → Board) (hf : ∀ b : Board, b.Sound (f b)) :
    Keeps s0 (s.mapBoards f) := by
  refine h.trans (.of_boards (fun h => { h with boards := ?_ }) rfl (fun k => ?_) id
    (fun h => ⟨h.queues, h.history, h.intake, h.windowLimit, h.starts, h.requests, h.entryStart, h.occupancy, h.admission⟩)
    rfl rfl id rfl)
  · refine Table.wf_map _ (fun p : Nat × Option Board => (p.1, p.2.map f)) (fun _ => rfl) (fun p hp => ?_) _ h.boards
    simpa using hp
  · rw [State.mapBoards_board]
    cases s.board k with
    | none => exact .none
    | some b => exact .some (hf b)

/-- A change of a board that keeps its tag, its class and its doses, with its finding counts still in range. -/
theorem Board.Sound.of_findings {b b' : Board} (ht : b'.tag = b.tag) (hc : b'.cls = b.cls) (ha : b'.accs = b.accs)
    (hf : b.findings.length ≤ Config.findingLimit ∧ b.overflow ≤ 255 →
      b'.findings.length ≤ Config.findingLimit ∧ b'.overflow ≤ 255) : b.Sound b' where
  tag := ht
  cls := hc
  doses := by unfold Board.dosesBounded; rw [ha]; exact id
  findings := hf

theorem Board.Sound.trans {a b c : Board} (h : a.Sound b) (g : b.Sound c) : a.Sound c :=
  ⟨g.tag.trans h.tag, g.cls.trans h.cls, g.doses ∘ h.doses, g.findings ∘ h.findings⟩

theorem Board.Sound.setTally (i n : Nat) (b : Board) : b.Sound (b.setTally i n) := .of_findings rfl rfl rfl id

theorem execCriterionWrite_keeps (t : Byte) (i : Nat) (f : CriterionFields) :
    Yields (Keeps s) (execCriterionWrite t i f s) := by
  refine Keeps.request _ _ fun d u h => h.unlessInit _ _ _ ?_
  split
  · exact h.refuse _ _ _
  · split
    · exact ((h.setCriterion _ _).mapBoards _ (Board.Sound.setTally _ _)).answer _ _ _ _
    · exact h.refuse _ _ _

theorem Board.Sound.record (f : Finding) (b : Board) : b.Sound (b.record f) := by
  unfold Board.record; split
  · next hl =>
      refine .of_findings rfl rfl rfl fun h => ⟨?_, h.2⟩
      simp only [List.length_append, List.length_singleton]; omega
  · exact .of_findings rfl rfl rfl fun h => ⟨h.1, Nat.min_le_left ..⟩

theorem Board.Sound.raiseTallies (hits : List Nat) (b : Board) : b.Sound (b.raiseTallies hits) := by
  unfold Board.raiseTallies
  induction hits generalizing b with
  | nil => exact .refl b
  | cons i hits ih => exact (Board.Sound.setTally _ _ b).trans (ih _)

theorem Keeps.raises (h : Keeps s0 s) (reason : Nat → Nat) (k : Nat) (is : List Nat) :
    Keeps s0 (is.foldl (fun u i => u.raise (reason i) k) s) :=
  List.foldlRecOn _ _ h fun _ hu _ _ => hu.raise _ _

theorem execFinding_keeps (t : Byte) (slot kind side x y : Nat) :
    Yields (Keeps s) (execFinding t slot kind side x y s) := by
  refine Keeps.request _ _ fun d u h => h.unlessInit _ _ _ ?_
  split
  · exact h.refuse _ _ _
  · split
    · exact h.refuse _ _ _
    · split
      · exact h.refuse _ _ _
      · split
        · exact h.refuse _ _ _
        · refine Keeps.settle (Keeps.answer ?_ _ _ _ _) _ _
          exact (h.modBoardQuiet _ _ fun b => (Board.Sound.record _ b).trans (.raiseTallies _ _)).raises _ _ _

theorem Keeps.setRoute (h : Keeps s0 s) (n : Nat) (r : RouteEntry) : Keeps s0 (s.setRoute n r) :=
  h.trans { canonical := fun h => { h with routing := Table.wf_write _ _ _ _ h.routing } }

theorem Board.Kept.divertFor (n : Nat) (b : Board) : b.Kept (b.divertFor n) := by
  unfold Board.divertFor; split <;> constructor <;> rfl

theorem Evolves.markAll (h : Evolves s0 s) (n : Nat) : Evolves s0 (s.markAll n) :=
  List.foldlRecOn _ _ h fun _ hu k _ => hu.modBoard k _ (Board.Kept.divertFor n)

theorem Evolves.divertAll (h : Evolves s0 s) (n : Nat) : Evolves s0 (s.divertAll n) := by
  unfold State.divertAll; split
  · refine List.foldlRecOn _ _ (h.markAll n) fun u hu k _ => ?_
    split
    · exact hu.toFlashing _ _
    · exact hu
  · exact h

theorem Evolves.reportAll (a : State) (h : Evolves s0 s) : Evolves s0 (reportAll a s) := by
  refine List.foldlRecOn _ _ h fun u hu k _ => ?_
  split
  · exact hu.react _ _
  · exact hu

theorem Keeps.routeWrite (h : Keeps s0 s) (n : Nat) (r : RouteEntry) : Keeps s0 (s.routeWrite n r) := by
  have g := (h.setRoute n r).evolves (Evolves.reportAll s (Evolves.refl.divertAll n))
  unfold State.routeWrite; dsimp only; split
  · exact g.post _
  · exact g

theorem execRouteWrite_keeps (t : Byte) (n : Nat) (f : RouteFields) : Yields (Keeps s) (execRouteWrite t n f s) := by
  refine Keeps.request _ _ fun d u h => h.unlessInit _ _ _ ?_
  split
  · exact h.refuse _ _ _
  · split
    · exact ((h.routeWrite _ _).answer _ _ _ _).settle _ _
    · exact h.refuse _ _ _

theorem firstBy_mem {α : Type} (key : α → Nat) {l : List α} {c : α} (h : firstBy key l = some c) : c ∈ l := by
  induction l with
  | nil => cases h
  | cons a l ih =>
    simp only [firstBy] at h
    split at h
    · cases h; exact List.mem_cons_self ..
    · next hd =>
        split at h <;> cases h
        · exact List.mem_cons_of_mem _ (ih hd)
        · exact List.mem_cons_self ..

theorem State.mem_boards {p : Nat × Board} : p ∈ s.boards ↔ p.1 < Config.slots ∧ s.board p.1 = some p.2 := by
  obtain ⟨k, b⟩ := p
  simp only [State.boards, List.mem_filterMap, List.mem_range, Option.map_eq_some_iff, Prod.mk.injEq]
  constructor
  · rintro ⟨j, hj, b', hb, rfl, rfl⟩; exact ⟨hj, hb⟩
  · rintro ⟨hk, hb⟩; exact ⟨k, hk, b, hb, rfl, rfl⟩

theorem State.takeChoice_slot {c : Candidate} (h : s.takeChoice = some c) : c.slot < 32 := by
  have hc := firstBy_mem _ h
  simp only [State.candidates, List.mem_flatMap, List.mem_map] at hc
  obtain ⟨p, hp, n, _, rfl⟩ := hc
  exact (State.mem_boards.1 hp).1

theorem execHoldTake_keeps (t : Byte) : Yields (Keeps s) (execHoldTake t s) := by
  refine Keeps.request _ _ fun d u h => h.unlessInit _ _ _ ?_
  split
  · exact h.answer _ _ _ _
  · next c hc =>
      have g := h.evolves (Evolves.refl.modBoardQuiet c.slot fun b =>
        { b with pendingSet := b.pendingSet.leave c.reason, inService := b.inService.join c.reason })
      refine Keeps.answer (g.trans { lastTaken := fun _ => ?_ }) _ _ _ _
      exact State.takeChoice_slot hc

theorem Board.Sound.clearFindings (b : Board) : b.Sound b.clearFindings :=
  .of_findings rfl rfl rfl fun _ => ⟨Nat.zero_le _, Nat.zero_le _⟩

theorem Keeps.applyVerdict (h : Keeps s0 s) (k n : Nat) (v : ReleaseVerdict) (b : Board) :
    Keeps s0 (s.applyVerdict k n v b) := by
  have mark : ∀ m (b : Board), b.Sound (b.withMark m) := fun m b => .of_findings rfl rfl rfl id
  cases v with
  | goOn =>
    have g := h.modBoardQuiet k _ Board.Sound.clearFindings
    simp only [State.applyVerdict]; split <;> split
    · exact g.evolves (Evolves.refl.raiseCore _ _ _)
    · exact h.evolves (Evolves.refl.raiseCore _ _ _)
    · exact g
    · exact h
  | divert => exact h.modBoard _ _ (mark _)
  | scrap => exact h.modBoard _ _ (mark _)

theorem Keeps.release (h : Keeps s0 s) (k n : Nat) (v : ReleaseVerdict) (b : Board) : Keeps s0 (s.release k n v b) :=
  ((h.evolves (Evolves.refl.modBoardQuiet _ _)).applyVerdict _ _ _ _).evolves (Evolves.refl.react _ _)

theorem execHoldRelease_keeps (t : Byte) (slot reason verdict : Nat) :
    Yields (Keeps s) (execHoldRelease t slot reason verdict s) := by
  refine Keeps.request _ _ fun d u h => h.unlessInit _ _ _ ?_
  split
  · exact h.refuse _ _ _
  · split
    · exact h.refuse _ _ _
    · split
      · exact h.refuse _ _ _
      · split
        · exact h.refuse _ _ _
        · exact ((h.release _ _ _ _).answer _ _ _ _).settle _ _

/-! ## Path engine and applicators -/

theorem writeStrokes_wf (i : Nat) (rs : List Stroke) (t : Table Stroke) (h : Table.wf (fun _ => resetStroke) t = true) :
    Table.wf (fun _ => resetStroke) (writeStrokes i rs t) = true := by
  induction rs generalizing i t with
  | nil => exact h
  | cons r rs ih => exact ih _ _ (Table.wf_write _ _ _ _ h)

theorem execStrokeLoad_keeps (t : Byte) (lane first : Nat) (rs : List StrokeFields) :
    Yields (Keeps s) (execStrokeLoad t lane first rs s) := by
  refine Keeps.request _ _ fun d u h => h.unlessInit _ _ _ ?_
  split
  · split
    · split
      · exact h.refuse _ _ _
      · exact (h.setLane _ { u.lane _ with strokes := _ } (writeStrokes_wf _ _ _) (.inl rfl)).answer _ _ _ _
    · exact h.refuse _ _ _
  · exact h.refuse _ _ _

theorem State.dried_debt (d : Nat) (r : Applicator) : (s.dried d r).debt ≤ Config.debtLimit := by
  unfold State.dried; split
  · exact Nat.zero_le _
  · dsimp only; omega

theorem execKeepWetExpiry_keeps (a : Fin 6) : Yields (Keeps s) (execKeepWetExpiry a s) := by
  refine .next ?_
  show Keeps s (s.keepWetExpiry a)
  unfold State.keepWetExpiry; split
  · exact .refl s
  · exact ((Evolves.refl.reach _).keeps.modUnit _ _ fun r _ => State.dried_debt _ r).settle _ _

theorem Keeps.dropStart (h : Keeps s0 s) {t : Nat} {rest : List Nat} (hs : s.apps.startList = t :: rest) :
    Keeps s0 { s with apps := { s.apps with startList := rest } } := by
  refine h.trans { lists := fun h => { h with starts := ?_ } }
  have := h.starts
  rw [hs, List.length_cons] at this
  exact Nat.le_of_succ_le this

theorem execPrimeWindowAgeOut_keeps : Yields (Keeps s) (execPrimeWindowAgeOut s) := by
  refine .next ?_
  show Keeps s s.ageOut
  unfold State.ageOut; split
  · exact .refl s
  · next hs => exact ((Evolves.refl.reach _).keeps.dropStart hs).settle _ _

/-! ## Board tracker -/

theorem State.emptySlot_eq_some {k : Nat} :
    s.emptySlot = some k ↔ k < Config.slots ∧ s.board k = none ∧ ∀ j, j < k → s.board j ≠ none := by
  simp only [State.emptySlot, List.find?_range_eq_some, Option.isNone_iff_eq_none, List.mem_range, Bool.not_eq_true',
    Option.isNone_eq_false_iff, Option.isSome_iff_ne_none]
  tauto

/-- What an ANNOUNCE that passes its tests has found: the lowest empty slot, room in the lane queue, and a tag and a class
that R8 takes. -/
structure State.Admits (s : State) (l : Fin 2) (g : List Byte) (c k : Nat) : Prop where
  valid : (s.cls c).valid = true
  fresh : ∀ p ∈ s.boards, p.2.tag ≠ g
  unscrapped : ∀ e, s.newestOf g = some e → e.disposition ≠ .scrap
  slot : s.emptySlot = some k
  room : (s.queueOf l).length < Config.laneQueueLimit

theorem State.announceTests_admits {l : Fin 2} {g : List Byte} {c k : Nat} (h : s.announceTests l g c = .ok k) :
    s.Admits l g c k := by
  unfold State.announceTests at h
  split at h
  · cases h
  · next hvalid =>
      split at h
      · cases h
      · next htag =>
          split at h
          · cases h
          · next hscrap =>
              split at h
              · cases h
              · next hslot =>
                  split at h
                  · next hroom =>
                      cases h
                      refine ⟨by simpa using hvalid, by simpa using htag, fun e he hd => hscrap ?_, hslot, hroom⟩
                      rw [he]; simpa using hd
                  · cases h

theorem Keeps.create (h : Keeps s0 s) {k : Nat} {l : Fin 2} {g : List Byte} {c : Nat} (d : Side)
    (hk : s.announceTests l g c = .ok k) : Keeps s0 (s.create k l g c d) := by
  obtain ⟨_, htag, _, hslot, hq⟩ := State.announceTests_admits hk
  obtain ⟨hlt, hempty, _⟩ := State.emptySlot_eq_some.1 hslot
  have add := h.addBoard (k := k) (b := newBoard g c l d (min 2 (computedPass (s.newestOf g))) s.clock (s.cls c).siteList)
    l (s.queueOf l ++ [k]) hlt hempty (fun j b' hj hb => htag (j, b') (State.mem_boards.2 ⟨hj, hb⟩)) nofun
    ⟨Nat.zero_le _, Nat.zero_le _⟩ fun _ => by
      simp only [List.length_append, List.length_singleton]; exact hq
  unfold State.create; dsimp only; split
  · exact add.evolves (Evolves.refl.raiseCore _ _ _)
  · exact add

theorem execAnnounce_keeps (t : Byte) (lane : Nat) (g : List Byte) (c side : Nat) :
    Yields (Keeps s) (execAnnounce t lane g c side s) := by
  refine Keeps.request _ _ fun d u h => ?_
  dsimp only; split
  · split
    · split
      · split
        · exact h.refuse _ _ _
        · next hk => exact (h.create _ hk).answer _ _ _ _
      · exact h.refuse _ _ _
    · exact h.refuse _ _ _
  · exact h.refuse _ _ _

theorem execRetire_keeps (t : Byte) (slot : Nat) : Yields (Keeps s) (execRetire t slot s) := by
  refine Keeps.request _ _ fun d u h => h.unlessInit _ _ _ ?_
  split
  · exact h.refuse _ _ _
  · split
    · exact h.refuse _ _ _
    · split
      · exact ((h.retire _ _ _).answer _ _ _ _).settle _ _
      · exact h.refuse _ _ _

theorem execLaneClear_keeps (l : Fin 2) : Yields (Keeps s) (execLaneClear l s) := by
  refine .next (Keeps.discardInit (.refl s) _ ?_)
  unfold State.laneClear; split
  · exact (Keeps.refl s).post _
  · split
    · exact (Keeps.refl s).post _
    · next k _ _ _ n _ =>
        have g := (Evolves.refl (s0 := s)).modBoard k fun b => { b with loc := .bay n }
        exact (g.keeps.setQueue l _ (Nat.le_trans (List.length_filter_le ..))).evolves
          ((((Evolves.refl.setBay _ _).setGate _ _).testReady _).settle _ _)

/-! ## Oven controller -/

theorem Board.Sound.entered (b : Board) : b.Sound (s.entered b) where
  tag := rfl
  cls := rfl
  doses _ a ha := by
    obtain ⟨m, _, rfl⟩ := List.mem_map.1 ha
    exact ⟨Nat.zero_le _, (by decide : 0 < 256), nofun⟩
  findings := id

theorem entryAppended_length (t : Nat) (es : List EntryStart) (h : es.length ≤ 8) :
    (entryAppended t es).length ≤ 8 := by
  have : Config.entryListLimit = 8 := rfl
  unfold entryAppended; split
  · rw [List.length_append, List.length_tail, List.length_singleton]; omega
  · rw [List.length_append, List.length_singleton]; omega

/-- The board of an admission joins the occupancy list, which has room for it, and the shuttle is free. -/
theorem Keeps.entry (h : Keeps s0 s) {o : ShuttleOp} (ho : s.oven.shuttle = some o) (hk : o.kind = .admission)
    {v : Oven} (hocc : v.occupancy = s.oven.occupancy ++ [o.slot]) {t : Nat}
    (hstart : v.entryStart = entryAppended t s.oven.entryStart) (hshut : v.shuttle = none) :
    Keeps s0 { s with oven := v } := by
  refine h.trans { lists := fun h => { h with entryStart := ?_, occupancy := ?_, admission := fun p hp => ?_ } }
  · rw [hstart]; exact entryAppended_length t _ h.entryStart
  · rw [hocc, List.length_append, List.length_singleton]
    exact h.admission o ho hk
  · rw [hshut] at hp; cases hp

theorem State.modBoard_oven (k : Nat) (f : Board → Board) : (s.modBoard k f).oven = s.oven := by
  unfold State.modBoard; split
  · rfl
  · dsimp only; split
    · rw [(State.post_fields _ _).2.2.2.2.2.2.2.2.2.2.1]; rfl
    · rfl

theorem Keeps.enterOven (h : Keeps s0 s) {o : ShuttleOp} (ho : s.oven.shuttle = some o) (hk : o.kind = .admission) :
    Keeps s0 (s.enterOven o) := by
  have g := h.modBoard o.slot s.entered Board.Sound.entered
  unfold State.enterOven
  have hoven := s.modBoard_oven o.slot s.entered
  generalize s.modBoard o.slot s.entered = u at g hoven
  dsimp only
  refine Keeps.settle ?_ _ _
  rw [State.freeBay_record]
  exact g.entry (hoven ▸ ho) hk rfl rfl rfl

theorem execOvenEnter_keeps : Yields (Keeps s) (execOvenEnter s) := by
  refine .next (Keeps.discardInit (.refl s) _ ?_)
  unfold State.ovenEnter; split
  · exact (Keeps.refl s).post _
  · next ho =>
      split
      · next hk => exact (Keeps.refl s).enterOven ho hk
      · exact (Keeps.refl s).post _

theorem execDivertPass_keeps : Yields (Keeps s) (execDivertPass s) := by
  refine .next (Keeps.discardInit (.refl s) _ ?_)
  unfold State.divertPass; split
  · exact (Keeps.refl s).post _
  · split
    · exact (Keeps.refl s).post _
    · exact (((Keeps.refl s).clearShuttle).retire _ _ _).settle _ _

theorem ceaseFirst_length (es : List EntryStart) : (ceaseFirst es).length = es.length := by
  induction es with
  | nil => rfl
  | cons e es ih =>
    simp only [ceaseFirst]; split
    · simp [ih]
    · rfl

theorem Keeps.withEntryStart (h : Keeps s0 s) {es : List EntryStart} (hl : es.length ≤ s.oven.entryStart.length) :
    Keeps s0 { s with oven := { s.oven with entryStart := es } } :=
  h.trans { lists := fun h => { h with entryStart := hl.trans h.entryStart } }

theorem execEntryWindowExpiry_keeps : Yields (Keeps s) (execEntryWindowExpiry s) := by
  refine .next ?_
  show Keeps s s.entryCeased
  unfold State.entryCeased; split
  · exact .refl s
  · exact ((Evolves.refl.reach _).keeps.withEntryStart (ceaseFirst_length _).le).settle _ _

theorem execEntryDrop_keeps : Yields (Keeps s) (execEntryDrop s) := by
  refine .next ?_
  show Keeps s s.entryDropped
  unfold State.entryDropped; split
  · exact .refl s
  · next he =>
      refine ((Evolves.refl.reach _).keeps.withEntryStart ?_).settle _ _
      rw [(State.reach_fields _ _).2.2.2.2.2.2.2.2.2.2.1, he]
      exact Nat.le_succ _

/-- An accumulator within its range (08 R142). -/
structure Accumulator.InRange (a : Accumulator) : Prop where
  dose : a.dose ≤ Config.doseLimit
  rest : a.rest < 256
  full : a.saturated = true → a.dose = Config.doseLimit ∧ a.rest = 0

theorem Accumulator.credit_inRange (r dt : Nat) (a : Accumulator) : (a.credit r dt).InRange := by
  unfold Accumulator.credit; dsimp only; split
  · exact ⟨Nat.le_refl _, (by decide : 0 < 256), fun _ => ⟨rfl, rfl⟩⟩
  · next hn =>
      simp only [Bool.or_eq_true, decide_eq_true_eq, not_or, Nat.not_lt] at hn
      exact ⟨hn.2, Nat.mod_lt _ (by decide), fun hsat => absurd hsat hn.1⟩

theorem Board.Sound.credited (t : Nat) (b : Board) : b.Sound (s.credited t b) where
  tag := rfl
  cls := rfl
  doses _ a ha := by
    obtain ⟨x, _, rfl⟩ := List.mem_map.1 ha
    obtain ⟨hdose, hrest, hfull⟩ := x.credit_inRange ((s.mat x.material).rate t)
      (creditTime s.clock (b.lastCredit.getD s.clock)).1
    exact ⟨hdose, hrest, hfull⟩
  findings := id

theorem Keeps.creditBoard (h : Keeps s0 s) (t k : Nat) : Keeps s0 (s.creditBoard t k) := by
  unfold State.creditBoard; split
  · exact h
  · have g := h.modBoardQuiet k (s.credited t) (Board.Sound.credited t)
    dsimp only; split
    · exact g.raise _ _
    · exact g

theorem Keeps.validSample (h : Keeps s0 s) (z : Fin 4) (t : Nat) : Keeps s0 (s.validSample z t) := by
  have credit : ∀ u : State, Keeps s0 u → Keeps s0 (u.creditZone (z.val + 1) t) := fun u hu =>
    List.foldlRecOn _ _ hu fun _ hv _ _ => hv.creditBoard _ _
  have g := h.evolves (Evolves.refl.setZone z ⟨t, some s.clock, false, some (s.clock + Config.staleTime)⟩)
  unfold State.validSample; dsimp only
  refine Keeps.settle (credit _ ?_) _ _
  split
  · exact g.post _
  · exact g

theorem Keeps.zoneSample (h : Keeps s0 s) (z : Nat) (x : BitVec 16) (f : Bool) : Keeps s0 (s.zoneSample z x f) := by
  unfold State.zoneSample; split
  · exact h.post _
  · split
    · exact h
    · exact h.validSample _ _

theorem execZoneSample_keeps (z : Nat) (x : BitVec 16) (f : Bool) : Yields (Keeps s) (execZoneSample z x f s) :=
  .next ((Keeps.refl s).discardInit _ ((Keeps.refl s).zoneSample z x f))

theorem Keeps.applyStaged (h : Keeps s0 s) : Keeps s0 s.applyStaged := by
  unfold State.applyStaged; split
  · exact h
  · exact Keeps.post (h.trans {}) _

theorem Keeps.exitBoard (h : Keeps s0 s) (k : Nat) (v : Verdict) : Keeps s0 (s.exitBoard k v) := by
  unfold State.exitBoard; split
  · exact h
  · exact Keeps.retire (h.trans {}) _ _ _

theorem Evolves.judgeExit (h : Evolves s0 s) (k : Nat) (v : Verdict) : Evolves s0 (s.judgeExit k v) := by
  have g := h.modBoardQuiet k fun b => { b with overdueArmed := false, verdict := some v }
  unfold State.judgeExit; dsimp only; split
  · exact g
  · exact g.raise _ _

theorem Keeps.leaveOccupancy (h : Keeps s0 s) {k : Nat} {rest : List Nat} (ho : s.oven.occupancy = k :: rest) :
    Keeps s0 { s with oven := { s.oven with occupancy := rest } } := by
  have hlt : rest.length < s.oven.occupancy.length := by rw [ho]; exact Nat.lt_succ_self _
  exact h.trans { lists := fun h => { h with
    occupancy := hlt.le.trans h.occupancy
    admission := fun o hs hk => hlt.trans (h.admission o hs hk) } }

theorem execOvenExit_keeps : Yields (Keeps s) (execOvenExit s) := by
  refine .next (Keeps.discardInit (.refl s) _ ?_)
  unfold State.ovenExit; split
  · exact (Keeps.refl s).post _
  · next k rest ho =>
      have g := (((Keeps.refl s).leaveOccupancy ho).evolves (Evolves.refl.judgeExit k
        ((s.board k).elim .cured fun b => b.exitVerdict (s.cls b.cls)))).exitBoard k
          ((s.board k).elim .cured fun b => b.exitVerdict (s.cls b.cls))
      dsimp only; split
      · exact g.applyStaged.settle _ _
      · exact g.settle _ _

/-! ## Link port -/

theorem Keeps.takePlace (h : Keeps s0 s) (k : Nat) (t : Byte) (hl : s.link.intake.length < 8) :
    Keeps s0 (s.takePlace k t) := by
  refine h.trans { lists := fun h => { h with intake := ?_ } }
  simp only [State.takePlace, List.length_append, List.length_singleton]; omega

theorem Keeps.admitFrame (h : Keeps s0 s) (f : Frame) : Keeps s0 (s.admitFrame f) := by
  unfold State.admitFrame; split
  · exact h.refuse _ _ _
  · split
    · exact h.refuse _ _ _
    · split
      · exact h.refuse _ _ _
      · exact h.trans {}

theorem Keeps.intakeFrame (h : Keeps s0 s) (f : Frame) : Keeps s0 (s.intakeFrame f) := by
  unfold State.intakeFrame; split
  · exact h
  · split
    · split
      · exact h
      · exact h.refuse _ _ _
    · next hl => exact (h.takePlace _ _ (Nat.lt_of_not_le hl)).admitFrame f

theorem Keeps.fieldFrame (h : Keeps s0 s) (k : Link) (f : Frame) : Keeps s0 (s.fieldFrame k f) := by
  unfold State.fieldFrame; split
  · exact h.discardInit _ (h.evolves (Evolves.refl.headReply _ _ _))
  · exact h.discardInit _ (h.evolves (Evolves.refl.headReply _ _ _))
  · exact h.discardInit _ (h.zoneSample _ _ _)
  · exact h

theorem Keeps.frameIn (h : Keeps s0 s) (k : Link) (f : Frame) : Keeps s0 (s.frameIn k f) := by
  cases k with
  | message => exact h.intakeFrame f
  | head l => exact h.fieldFrame _ f
  | ovenNode => exact h.fieldFrame _ f

theorem Keeps.setRx (h : Keeps s0 s) (k : Link) (r : Receiver) : Keeps s0 (s.setRx k r) := h.trans {}

theorem Keeps.framesIn (h : Keeps s0 s) (k : Link) (fs : List Frame) :
    Keeps s0 (fs.foldl (fun u f => u.frameIn k f) s) :=
  List.foldlRecOn _ _ h fun _ hu f _ => hu.frameIn k f

theorem execFieldLinkFrameDiscard_keeps (k : Link) (bs : List Byte) :
    Yields (Keeps s) (execFieldLinkFrameDiscard k bs s) := .next (((Keeps.refl s).setRx k _).framesIn k _)

theorem execRequestFrame_keeps (bs : List Byte) : Yields (Keeps s) (execRequestFrame bs s) :=
  execFieldLinkFrameDiscard_keeps .message bs

theorem execFrameTimeout_keeps (k : Link) : Yields (Keeps s) (execFrameTimeout k s) := by
  refine .next ?_
  show Keeps s (s.frameSilent k)
  unfold State.frameSilent; split
  · exact .refl s
  · exact ((Evolves.refl.reach _).keeps.setRx k _).framesIn k _

/-- A change of the reply queue, the transmitter and the intake that takes no place. -/
theorem Keeps.withLink (h : Keeps s0 s) (k : LinkPort) (hk : k.intake.length ≤ s.link.intake.length) :
    Keeps s0 { s with link := k } :=
  h.trans { lists := fun h => { h with intake := hk.trans h.intake } }

theorem execReplySend_keeps : Yields (Keeps s) (execReplySend s) := by
  refine .next ?_
  show Keeps s s.replySend
  unfold State.replySend; split
  · exact (Keeps.refl s).withLink _ (Nat.le_refl _)
  · exact .refl s

theorem execReplySent_keeps : Yields (Keeps s) (execReplySent s) := by
  refine .next ?_
  show Keeps s s.replySent
  unfold State.replySent; split
  · exact .refl s
  · exact .refl s
  · refine (Keeps.refl s).withLink _ ?_
    dsimp only; split
    · exact List.length_erase_le ..
    · exact Nat.le_refl _

theorem execNoticeSend_keeps : Yields (Keeps s) (execNoticeSend s) := by
  refine .next ?_
  show Keeps s s.noticeSend
  unfold State.noticeSend; split
  · next hn =>
      exact { notices := fun h => (List.nodup_cons.1 (hn ▸ h)).2 }
  · exact .refl s

theorem execNoticeFrameSent_keeps : Yields (Keeps s) (execNoticeFrameSent s) := by
  refine .next ?_
  show Keeps s s.noticeSent
  unfold State.noticeSent; split
  · exact .refl s
  · exact .refl s
  · exact (Keeps.refl s).withLink _ (Nat.le_refl _)

/-! ## Every command and every step -/

theorem Yields.keeps {o : Host.Outcome State Fault Refusal} (h : Yields (Evolves s) o) : Yields (Keeps s) o :=
  h.imp fun _ g => g.keeps

/-- Every command keeps the invariants. -/
theorem exec_keeps (i : Instr) (s : State) : Yields (Keeps s) (exec i s) := by
  cases i with
  | powerOn e => exact execPowerOn_keeps e
  | startUpEnd => exact execStartUpEnd_evolves.keeps
  | estopChange a => exact execEstopChange_keeps a
  | requestFrame bs => exact execRequestFrame_keeps bs
  | frameTimeout k => exact execFrameTimeout_keeps k
  | replySend => exact execReplySend_keeps
  | replySent => exact execReplySent_keeps
  | noticeSend => exact execNoticeSend_keeps
  | lineStatus t => exact (execLineStatus_evolves t).keeps
  | lineSet t f => exact execLineSet_keeps t f
  | mode t m => exact (execMode_evolves t m).keeps
  | halt t => exact execHalt_keeps t
  | recover t => exact (execRecover_evolves t).keeps
  | lineReset t => exact execLineReset_keeps t
  | classWrite t c f => exact execClassWrite_keeps t c f
  | classRead t c => exact (execClassRead_evolves t c).keeps
  | materialWrite t m f => exact execMaterialWrite_keeps t m f
  | materialRead t m => exact (execMaterialRead_evolves t m).keeps
  | ruleWrite t i e => exact execRuleWrite_keeps t i e
  | ruleRead t i c => exact execRuleRead_keeps t i c
  | ruleFill t a b e => exact execRuleFill_keeps t a b e
  | ruleMove t a b n => exact execRuleMove_keeps t a b n
  | ruleProbe t c d x y => exact (execRuleProbe_evolves t c d x y).keeps
  | editStep => exact execEditStep_keeps
  | criterionWrite t i f => exact execCriterionWrite_keeps t i f
  | criterionRead t i => exact (execCriterionRead_evolves t i).keeps
  | routeWrite t n f => exact execRouteWrite_keeps t n f
  | routeRead t n => exact (execRouteRead_evolves t n).keeps
  | strokeLoad t l i rs => exact execStrokeLoad_keeps t l i rs
  | strokeRead t l i n => exact (execStrokeRead_evolves t l i n).keeps
  | armLane t l c i n m a => exact (execArmLane_evolves t l c i n m a).keeps
  | disarm t l => exact (execDisarm_evolves t l).keeps
  | laneStatus t l c => exact (execLaneStatus_evolves t l c).keeps
  | prime t a m => exact (execPrime_evolves t a m).keeps
  | purge t a => exact (execPurge_evolves t a).keeps
  | park t a => exact (execPark_evolves t a).keeps
  | unpark t a => exact (execUnpark_evolves t a).keeps
  | applicatorStatus t a => exact (execApplicatorStatus_evolves t a).keeps
  | announce t l g c d => exact execAnnounce_keeps t l g c d
  | boardRead t b v => exact (execBoardRead_evolves t b v).keeps
  | boardList t l f => exact (execBoardList_evolves t l f).keeps
  | retire t b => exact execRetire_keeps t b
  | historyRead t n c => exact (execHistoryRead_evolves t n c).keeps
  | maskReport t b k v => exact (execMaskReport_evolves t b k v).keeps
  | finding t b k d x y => exact execFinding_keeps t b k d x y
  | inspectDone t b => exact (execInspectDone_evolves t b).keeps
  | hold t b => exact (execHold_evolves t b).keeps
  | holdTake t => exact execHoldTake_keeps t
  | holdRelease t b r v => exact execHoldRelease_keeps t b r v
  | holdStatus t b f => exact (execHoldStatus_evolves t b f).keeps
  | ovenStatus t => exact (execOvenStatus_evolves t).keeps
  | laneArrive l => exact (execLaneArrive_evolves l).keeps
  | laneClear l => exact execLaneClear_keeps l
  | maskWaitExpiry b => exact (execMaskWaitExpiry_evolves b).keeps
  | headDone l op => exact (execHeadDone_evolves l op).keeps
  | headFault l op k => exact (execHeadFault_evolves l op k).keeps
  | headDeadline l => exact (execHeadDeadline_evolves l).keeps
  | keepWetExpiry a => exact execKeepWetExpiry_keeps a
  | primeWindowAgeOut => exact execPrimeWindowAgeOut_keeps
  | flashReadyReached b => exact (execFlashReadyReached_evolves b).keeps
  | openDeadlineExpiry b => exact (execOpenDeadlineExpiry_evolves b).keeps
  | admitDeadline => exact execAdmitDeadline_evolves.keeps
  | divertDeadline => exact execDivertDeadline_evolves.keeps
  | ovenEnter => exact execOvenEnter_keeps
  | divertPass => exact execDivertPass_keeps
  | entryWindowExpiry => exact execEntryWindowExpiry_keeps
  | entryDrop => exact execEntryDrop_keeps
  | zoneSample z x f => exact execZoneSample_keeps z x f
  | zoneStale z => exact (execZoneStale_evolves z).keeps
  | zoneChange b => exact (execZoneChange_evolves b).keeps
  | overdueExpiry b => exact (execOverdueExpiry_evolves b).keeps
  | ovenExit => exact execOvenExit_keeps
  | noticeFrameSent => exact execNoticeFrameSent_keeps
  | headCommandSent l op => exact (execHeadCommandSent_evolves l op).keeps
  | fieldLinkFrameDiscard k bs => exact execFieldLinkFrameDiscard_keeps k bs

theorem State.idle_keeps (s : State) : Keeps s s.idle := by
  unfold State.idle; split
  · exact {}
  · split <;> exact {}

/-- Every step keeps the invariants. -/
theorem step_keeps {s t : State} (h : step s = .next t) : Keeps s t := by
  unfold step at h
  split at h
  · cases h; exact s.idle_keeps
  · next rest _ =>
      have g : Keeps s { s with pending := rest } := {}
      exact g.trans ((exec_keeps _ _).of_next h)

/-- Settles O55: every command keeps the tables, as its updates do. -/
theorem tablesKept : Obligations.TablesKept := fun _ _ h =>
  have g := step_keeps h
  ⟨g.canonical, g.tables, g.history, g.recipes⟩

/-- Settles O56: every command keeps the limits, as its updates do. -/
theorem limitsKept : Obligations.LimitsKept := fun _ _ h =>
  have g := step_keeps h
  ⟨g.lists, g.notices, g.debts, g.doses, g.findings, g.opIds, g.lastTaken⟩

end Sys2Proof.Machine
end

section
/-! The reads of the board tracker: BoardReads (O4). -/

namespace Sys2Proof.Machine

variable (s : State)

/-! ## The tests of a request -/

/-- How a request answers that is refused in INITIALIZING: the outcome of the rest, or WRONG_MODE. -/
theorem State.request_unlessInit (i : Instr) (kind : Nat) (f : Header → State → State) :
    s.request i (fun h u => u.unlessInit h kind (f h)) =
      .next (if s.line.mode = .initializing then s.replied i kind .wrongMode .empty else f (s.header i) (s.take i)) := rfl

/-- What a filter of BOARD_LIST reads: a code below the bound names a value, FFh is ANY, and nothing else is in range. -/
theorem laneFilter_cases (n : Nat) :
    (n = 0xFF ∧ filterOf laneOf n = some none) ∨ (∃ h : n < 2, filterOf laneOf n = some (some ⟨n, h⟩)) ∨
      (¬(n < 2 ∨ n = 0xFF) ∧ filterOf laneOf n = none) := by
  by_cases hany : n = 0xFF
  · exact .inl ⟨hany, if_pos hany⟩
  · by_cases hlow : n < 2
    · exact .inr (.inl ⟨hlow, by simp [filterOf, hany, laneOf, hlow]⟩)
    · exact .inr (.inr ⟨by omega, by simp [filterOf, hany, laneOf, hlow]⟩)

theorem lifeOf_of_lt {n : Nat} (h : n < 6) : ∃ x, lifeOf n = some x ∧ x.code = n := by
  interval_cases n <;> exact ⟨_, rfl, rfl⟩

theorem lifeOf_of_le {n : Nat} (h : 6 ≤ n) : lifeOf n = none := by
  unfold lifeOf
  split <;> first | omega | rfl

theorem LifeState.code_inj {x y : LifeState} : x.code = y.code ↔ x = y := by
  constructor
  · cases x <;> cases y <;> simp [LifeState.code]
  · exact congrArg _

theorem lifeFilter_cases (n : Nat) :
    (n = 0xFF ∧ filterOf lifeOf n = some none) ∨ (n ≠ 0xFF ∧ n < 6 ∧ ∃ x, x.code = n ∧ filterOf lifeOf n = some (some x)) ∨
      (¬(n < 6 ∨ n = 0xFF) ∧ filterOf lifeOf n = none) := by
  by_cases hany : n = 0xFF
  · exact .inl ⟨hany, if_pos hany⟩
  · by_cases hlow : n < 6
    · obtain ⟨x, hx, hc⟩ := lifeOf_of_lt hlow
      exact .inr (.inl ⟨hany, hlow, x, hc, by simp [filterOf, hany, hx]⟩)
    · exact .inr (.inr ⟨by omega, by simp [filterOf, hany, lifeOf_of_le (Nat.le_of_not_lt hlow)]⟩)

theorem laneFilter_isSome {n : Nat} : (filterOf laneOf n).isSome ↔ n < 2 ∨ n = 0xFF := by
  obtain ⟨hn, hf⟩ | ⟨hn, hf⟩ | ⟨hn, hf⟩ := laneFilter_cases n <;> simp [hf] <;> omega

theorem lifeFilter_isSome {n : Nat} : (filterOf lifeOf n).isSome ↔ n < 6 ∨ n = 0xFF := by
  obtain ⟨hn, hf⟩ | ⟨-, hn, _, -, hf⟩ | ⟨hn, hf⟩ := lifeFilter_cases n <;> simp [hf] <;> omega

theorem passes_lane {n : Nat} {f : Option (Fin 2)} (h : filterOf laneOf n = some f) (a : Fin 2) :
    passes f a = decide (n = 0xFF ∨ a.val = n) := by
  obtain ⟨hn, hf⟩ | ⟨hn, hf⟩ | ⟨-, hf⟩ := laneFilter_cases n
  · cases hf.symm.trans h
    simp [passes, hn]
  · cases hf.symm.trans h
    have : n ≠ 0xFF := by omega
    simp [passes, this, Fin.ext_iff, eq_comm]
  · cases hf.symm.trans h

theorem passes_life {n : Nat} {f : Option LifeState} (h : filterOf lifeOf n = some f) (a : LifeState) :
    passes f a = decide (n = 0xFF ∨ a.code = n) := by
  obtain ⟨hn, hf⟩ | ⟨hn, -, x, hx, hf⟩ | ⟨-, hf⟩ := lifeFilter_cases n
  · cases hf.symm.trans h
    simp [passes, hn]
  · cases hf.symm.trans h
    have : (x = a) = (a.code = n) := by rw [← hx, LifeState.code_inj, eq_iff_iff]; exact eq_comm
    simp [passes, hn, this]
  · cases hf.symm.trans h

/-- The boards that pass two tests, with what is shown of each, slot by slot. -/
theorem State.boards_filter_map {β : Type} (p : Board → Bool) (f : Nat → Board → β) :
    (s.boards.filter fun q => p q.2).map (fun q => f q.1 q.2) =
      (List.range 32).filterMap fun k => (s.board k).bind fun b => if p b then some (f k b) else none := by
  rw [State.boards, List.filter_filterMap, List.map_filterMap]
  refine List.filterMap_congr fun k _ => ?_
  cases s.board k with
  | none => rfl
  | some b => by_cases hp : p b <;> simp [Option.filter, hp]

/-! ## The three reads -/

theorem execBoardRead_eq (t : Byte) (slot view : Nat) :
    execBoardRead t slot view s = .next (
      let i : Instr := .boardRead t slot view
      if s.line.mode = .initializing then s.replied i 0x31 .wrongMode .empty
      else if 32 ≤ slot ∨ 2 ≤ view then s.replied i 0x31 .outOfRange .empty
      else
        match s.board slot with
        | none => s.replied i 0x31 .notFound .empty
        | some b =>
          if view = 0 then s.replied i 0x31 .ok (.boardSummary ⟨slot, b, s.blocked b⟩)
          else s.replied i 0x31 .ok (.boardFindings b.findings b.overflow ((List.range 32).map b.tally))) := by
  have range : (!(slotOk slot && decide (view < 2))) = decide (32 ≤ slot ∨ 2 ≤ view) := by
    rw [Bool.eq_iff_iff]
    simp only [slotOk, Bool.not_eq_true', Bool.and_eq_false_iff, decide_eq_false_iff_not, decide_eq_true_eq, not_lt]
    rfl
  rw [execBoardRead, State.request_unlessInit]
  simp only [range, decide_eq_true_eq, State.take_board]
  rfl

theorem execBoardList_initializing (t : Byte) (lane life : Nat) (h : s.line.mode = .initializing) :
    execBoardList t lane life s = .next (s.replied (.boardList t lane life) 0x32 .wrongMode .empty) := by
  rw [execBoardList, State.request_unlessInit, if_pos h]

theorem execBoardList_outOfRange (t : Byte) (lane life : Nat) (h : s.line.mode ≠ .initializing)
    (hr : ¬((lane < 2 ∨ lane = 0xFF) ∧ (life < 6 ∨ life = 0xFF))) :
    execBoardList t lane life s = .next (s.replied (.boardList t lane life) 0x32 .outOfRange .empty) := by
  rw [execBoardList, State.request_unlessInit, if_neg h]
  split
  next fl fs hl hs => exact absurd ⟨laneFilter_isSome.mp (by simp [hl]), lifeFilter_isSome.mp (by simp [hs])⟩ hr
  next => rfl

theorem execBoardList_ok (t : Byte) (lane life : Nat) (h : s.line.mode ≠ .initializing)
    (hl : lane < 2 ∨ lane = 0xFF) (hs : life < 6 ∨ life = 0xFF) :
    execBoardList t lane life s =
      .next (s.replied (.boardList t lane life) 0x32 .ok (.boardList ((List.range 32).filterMap fun k =>
        (s.board k).bind fun b =>
          if (lane = 0xFF ∨ b.lane.val = lane) ∧ (life = 0xFF ∨ b.life.code = life) then some ⟨k, b, s.blocked b⟩
          else none))) := by
  obtain ⟨fl, hfl⟩ := Option.isSome_iff_exists.mp (laneFilter_isSome.mpr hl)
  obtain ⟨fs, hfs⟩ := Option.isSome_iff_exists.mp (lifeFilter_isSome.mpr hs)
  rw [execBoardList, State.request_unlessInit, if_neg h]
  simp only [hfl, hfs, State.take_boards, passes_lane hfl, passes_life hfs, State.boardView, State.take_blocked,
    s.boards_filter_map (fun b => decide (lane = 0xFF ∨ b.lane.val = lane) && decide (life = 0xFF ∨ b.life.code = life))
      (fun k b => (⟨k, b, s.blocked b⟩ : BoardView)), Bool.and_eq_true, decide_eq_true_eq]
  rfl

theorem execHistoryRead_eq (t : Byte) (start count : Nat) :
    execHistoryRead t start count s = .next (
      let i : Instr := .historyRead t start count
      if s.line.mode = .initializing then s.replied i 0x3D .wrongMode .empty
      else if within 1 16 count then
        s.replied i 0x3D .ok (.history s.oldestSeq s.tracker.nextSeq (s.historyFrom start count))
      else s.replied i 0x3D .outOfRange .empty) := by
  rw [execHistoryRead, State.request_unlessInit]
  rfl

/-- The entries from a sequence number on, by the distance of that number from the next-sequence counter. -/
theorem State.historyFrom_eq (start count : Nat) :
    s.historyFrom start count =
      let d := (s.tracker.nextSeq - BitVec.ofNat 32 start).toNat
      let held := s.tracker.history
      (if d = 0 then [] else if d ≤ held.length then held.drop (held.length - d) else held).take count := by
  simp only [State.historyFrom]
  congr 1
  split
  next h => rw [h, Nat.sub_zero, List.drop_length]
  next =>
    split
    · rfl
    next h => rw [Nat.sub_eq_zero_of_le (by omega), List.drop_zero]

theorem State.oldestSeq_eq :
    s.oldestSeq = (s.tracker.history.head?.map (·.seq)).getD s.tracker.nextSeq := by
  unfold State.oldestSeq
  cases s.tracker.history.head? <;> rfl

/-- With the history in sequence, the entries of a read begin with the one asked for where it is held. -/
theorem State.head_historyFrom (start count : Nat) (ho : s.HistoryOrdered) (hc : 1 ≤ count)
    (h1 : 1 ≤ (s.tracker.nextSeq - BitVec.ofNat 32 start).toNat)
    (h2 : (s.tracker.nextSeq - BitVec.ofNat 32 start).toNat ≤ s.tracker.history.length) :
    (s.historyFrom start count).head?.map (·.seq) = some (BitVec.ofNat 32 start) := by
  obtain ⟨-, inSequence⟩ := ho
  generalize hd : (s.tracker.nextSeq - BitVec.ofNat 32 start).toNat = d at h1 h2
  have hlt : s.tracker.history.length - d < s.tracker.history.length := by omega
  have hseq := inSequence _ _ (List.getElem?_eq_getElem hlt)
  have hback : s.tracker.nextSeq - BitVec.ofNat 32 d = BitVec.ofNat 32 start := by
    rw [← hd, BitVec.ofNat_toNat, BitVec.setWidth_eq]
    exact sub_sub_cancel _ _
  rw [State.historyFrom, hd, List.head?_take, if_neg (by omega), List.head?_drop, List.getElem?_eq_getElem hlt,
    Option.map_some, hseq, Nat.sub_sub_self h2, hback]

/-- Settles O4: each read is its tests in order and then one reply; the filters and the sequence arithmetic are the lemmas
above. -/
theorem boardReads : Obligations.BoardReads := by
  unfold Obligations.BoardReads
  refine ⟨fun t slot view s => execBoardRead_eq s t slot view, fun t lane life s => ⟨?_, ?_, ?_⟩,
    fun t start count s => ⟨fun h => ?_, fun h hr => ?_, fun h h1 h2 => ?_, fun ho h1 h2 hc => ?_⟩⟩
  · exact execBoardList_initializing s t lane life
  · exact execBoardList_outOfRange s t lane life
  · exact execBoardList_ok s t lane life
  · exact (execHistoryRead_eq s t start count).trans (by simp [h])
  · exact (execHistoryRead_eq s t start count).trans (by simp [h, within]; omega)
  · refine (execHistoryRead_eq s t start count).trans ?_
    simp [h, within, h1, h2, s.historyFrom_eq, s.oldestSeq_eq]
  · exact (congrArg (·.head?.map (·.seq)) (s.historyFrom_eq start count).symm).trans (s.head_historyFrom start count ho hc h1 h2)

end Sys2Proof.Machine
end

section
/-! ANNOUNCE: its tests in order and the record it creates (O1). -/

namespace Sys2Proof.Machine

variable (s : State)

/-! ## What ANNOUNCE reads of the tracker -/

/-- The newest entry of a tag, found from the end, is the last one of those that carry it. -/
theorem State.newestOf_eq (g : List Byte) : s.newestOf g = s.lastOf g := by
  rw [State.newestOf, State.lastOf, ← List.head?_filter, List.filter_reverse, List.head?_reverse]

theorem computedPass_eq (o : Option HistoryEntry) :
    computedPass o = match o with
      | some e => if e.disposition = .rework then e.pass + 1 else 0
      | none => 0 := by
  cases o with
  | none => rfl
  | some e => cases hd : e.disposition <;> simp [computedPass, hd]

theorem State.emptySlot_isSome : s.emptySlot.isSome = (List.range 32).any fun k => (s.board k).isNone :=
  List.isSome_find?

/-! ## The tests -/

theorem laneOf_isSome (n : Nat) : (laneOf n).isSome = decide (n < 2) := by
  unfold laneOf; split <;> simp_all

theorem sideOf_isSome (n : Nat) : (sideOf n).isSome = decide (n < 2) :=
  match n with
  | 0 => rfl
  | 1 => rfl
  | n + 2 => (decide_eq_false (by omega)).symm


/-- Tests 1 and 2 of R8: the ranges, read field by field. -/
theorem announce_inRange (lane : Nat) (g : List Byte) (c side : Nat) :
    decide (lane < 2 ∧ side < 2 ∧ 1 ≤ c ∧ c ≤ 48 ∧ 1 ≤ g.length ∧ g.length ≤ 24 ∧
      ∀ b ∈ g, 0x21 ≤ b.toNat ∧ b.toNat ≤ 0x7E) =
    ((laneOf lane).isSome && (sideOf side).isSome && (classOk c && tagOk g)) := by
  rw [Bool.eq_iff_iff]
  simp only [laneOf_isSome, sideOf_isSome, tagOk, within, Bool.and_eq_true, decide_eq_true_eq, List.all_eq_true]
  tauto

/-- Tests 3 to 6 of R8. -/
theorem State.announceTests_refused {l : Fin 2} {g : List Byte} {c : Nat} {code : ResultCode}
    (h : firstFailure [
      ((s.cls c).valid, .notFound),
      (s.boards.all fun p => decide (p.2.tag ≠ g), .duplicateTag),
      ((s.lastOf g).all fun e => decide (e.disposition ≠ .scrap), .scrappedTag),
      (decide ((s.queueOf l).length < 4) && (List.range 32).any fun k => (s.board k).isNone, .noRoom)] = some code) :
    s.announceTests l g c = .error code := by
  have fresh : (s.boards.any fun p => decide (p.2.tag = g)) = !s.boards.all fun p => decide (p.2.tag ≠ g) := by
    simp [List.any_eq_not_all_not]
  have unscrapped : ((s.lastOf g).any fun e => decide (e.disposition = .scrap)) =
      !(s.lastOf g).all fun e => decide (e.disposition ≠ .scrap) := by
    cases s.lastOf g <;> simp
  rw [← State.emptySlot_isSome] at h
  simp only [firstFailure_cons, firstFailure_nil] at h
  simp only [State.announceTests, State.newestOf_eq, fresh, unscrapped]
  split_ifs at h with h1 h2 h3 h4
  · cases h
    simp only [h1, h2, h3, Bool.not_true, Bool.false_eq_true, if_false]
    split
    · rfl
    next slot hslot =>
      refine if_neg fun hq => h4 ?_
      rw [hslot]
      exact Bool.and_eq_true_iff.mpr ⟨decide_eq_true hq, rfl⟩
  all_goals cases h; simp only [Bool.not_eq_true] at *; simp only [*, Bool.not_true, Bool.not_false, Bool.false_eq_true, if_true, if_false]

/-- R8: the first failing test answers, and nothing else happens. -/
theorem execAnnounce_refused {t : Byte} {lane : Nat} {g : List Byte} {c side : Nat} {code : ResultCode}
    (h : firstFailure [
       (decide (s.line.mode = .run ∨ s.line.mode = .config), .wrongMode),
       (decide (lane < 2 ∧ side < 2 ∧ 1 ≤ c ∧ c ≤ 48 ∧ 1 ≤ g.length ∧ g.length ≤ 24 ∧
         ∀ b ∈ g, 0x21 ≤ b.toNat ∧ b.toNat ≤ 0x7E), .outOfRange),
       ((s.cls c).valid, .notFound),
       (s.boards.all fun p => decide (p.2.tag ≠ g), .duplicateTag),
       ((s.lastOf g).all fun e => decide (e.disposition ≠ .scrap), .scrappedTag),
       ((laneOf lane).any fun l => decide ((s.queueOf l).length < 4) && (List.range 32).any fun k => (s.board k).isNone,
         .noRoom)] = some code) :
    execAnnounce t lane g c side s = .next (s.replied (.announce t lane g c side) 0x30 code .empty) := by
  rw [announce_inRange, firstFailure_cons] at h
  unfold execAnnounce State.request
  refine congrArg Host.Outcome.next ?_
  dsimp only
  by_cases hmode : s.line.mode = .run ∨ s.line.mode = .config
  · rw [if_pos (decide_eq_true hmode), firstFailure_cons] at h
    rw [if_pos (show (s.take _).line.mode = .run ∨ (s.take _).line.mode = .config from hmode)]
    split
    next l d hl hd =>
      rw [hl, hd] at h
      split
      next htag =>
        rw [htag] at h
        rw [State.announceTests_refused (s.take _) (code := code) h]
        rfl
      next htag =>
        rw [if_neg (by simpa using htag)] at h
        cases h
        rfl
    next hnone =>
      rw [if_neg] at h
      · cases h; rfl
      · rw [Bool.and_eq_true, Bool.and_eq_true, Option.isSome_iff_exists, Option.isSome_iff_exists]
        rintro ⟨⟨⟨l, hl⟩, ⟨d, hd⟩⟩, -⟩
        exact hnone l d hl hd
  · rw [if_neg (by simpa using hmode)] at h
    cases h
    exact if_neg hmode

/-! ## The record created -/

theorem State.create_eq (slot : Nat) (l : Fin 2) (g : List Byte) (c : Nat) (d : Side) :
    s.create slot l g c d =
      let pass := computedPass (s.newestOf g)
      let b := newBoard g c l d (min 2 pass) s.clock (s.cls c).siteList
      let u := ((s.setBoard slot (some b)).setQueue l (s.queueOf l ++ [slot])).raiseUse c
      if (s.cls c).passLimit < pass then u.raiseCore true slot 14 else u := rfl

/-- R10: a request that passes every test. -/
theorem execAnnounce_accepted {t : Byte} {lane : Nat} {l : Fin 2} {g : List Byte} {c side : Nat} {d : Side} {slot : Nat}
    (hmode : s.line.mode = .run ∨ s.line.mode = .config) (hl : laneOf lane = some l) (hd : sideOf side = some d)
    (hc : classOk c = true) (hg : tagOk g = true) (ht : s.announceTests l g c = .ok slot) :
    execAnnounce t lane g c side s =
      let i : Instr := .announce t lane g c side
      let v := (s.take i).create slot l g c d
      .next (v.answer (s.header i) 0x30 .ok
        (.announced slot g (min 2 (computedPass (s.newestOf g))) s.clock (v.markAt slot))) := by
  unfold execAnnounce State.request
  refine congrArg Host.Outcome.next ?_
  dsimp only
  rw [if_pos (show (s.take _).line.mode = .run ∨ (s.take _).line.mode = .config from hmode)]
  simp only [hl, hd, hc, hg, Bool.and_true, if_true]
  rw [show (s.take _).announceTests l g c = .ok slot from ht]
  rfl

/-- The tests passed one by one, with the lowest empty slot. -/
theorem State.announceTests_passed {l : Fin 2} {g : List Byte} {c slot : Nat} (h : s.Admits l g c slot) :
    s.announceTests l g c = .ok slot := by
  obtain ⟨valid, fresh, unscrapped, hslot, room⟩ := h
  have noTag : ¬(s.boards.any fun p => decide (p.2.tag = g)) = true := by simpa using fun k b hb => fresh (k, b) hb
  have noScrap : ¬((s.newestOf g).any fun e => decide (e.disposition = .scrap)) = true := by
    simpa [Option.any_eq_true] using unscrapped
  simp only [State.announceTests, valid, noTag, noScrap, hslot, room, Bool.not_true, Bool.false_eq_true, if_false, if_true]

/-- Settles O1: the refusals are the table of R8, and the record created is the one R4 lists, field by field. -/
theorem announce : Obligations.Announce := by
  unfold Obligations.Announce
  refine ⟨fun t lane g c side s code h => execAnnounce_refused s h, ?_⟩
  intro t l g c side d slot pass s hmode hd hc1 hc2 hg1 hg2 hgb hvalid hfresh hscrap hroom hlt hempty hlow hpass
  have admits : s.Admits l g c slot := {
    valid := hvalid
    fresh := fun p hp => hfresh _ _ (State.mem_boards.1 hp).1 (State.mem_boards.1 hp).2
    unscrapped := fun e he => hscrap e (s.newestOf_eq g ▸ he)
    slot := State.emptySlot_eq_some.2 ⟨hlt, hempty, hlow⟩
    room := hroom }
  have hp : computedPass (s.newestOf g) = pass := by rw [hpass, s.newestOf_eq]; exact computedPass_eq _
  intro i b u v
  have hb : newBoard g c l d (min 2 pass) s.clock (s.cls c).siteList = b := by
    simp only [newBoard, b, Nat.min_comm 2 pass, ClassRecord.siteList, List.map_map]
    rfl
  have hv : (s.take i).create slot l g c d = v := by
    rw [State.create_eq, show (s.take i).newestOf g = s.newestOf g from rfl, hp]
    dsimp only [u, v]
    rw [← hb]
    rfl
  refine (execAnnounce_accepted s hmode (dif_pos l.isLt) hd (by simp [hc1, hc2])
    (by simpa [tagOk, within, hg1, hg2] using hgb) (s.announceTests_passed admits)).trans ?_
  dsimp only
  rw [hp, Nat.min_comm, show (s.take (.announce t l.val g c side)).create slot l g c d = v from hv]

end Sys2Proof.Machine
end

section
/-! Retirement and RETIRE (O3), with the records that a freed bay and a retirement leave. -/

namespace Sys2Proof.Machine

variable (s : State)

/-! ## The lowest bay that passes a test -/

theorem allBays_find? {p : Fin 8 → Bool} {n : Fin 8} :
    allBays.find? p = some n ↔ p n = true ∧ ∀ m, m < n → p m = false := by
  have get : ∀ (i : Nat) (h : i < allBays.length), allBays[i] = ⟨i, h⟩ := fun i h => List.getElem_finRange (n := 8) h
  rw [List.find?_eq_some_iff_getElem]
  refine and_congr_right fun _ => ⟨?_, fun h => ⟨n.val, n.isLt, get _ _, fun j hj => ?_⟩⟩
  · rintro ⟨i, hi, rfl, hlow⟩ m hm
    rw [get] at hm
    have := hlow m.val hm
    rw [get] at this
    exact Bool.not_eq_true' .. ▸ this
  · rw [get, h _ hj]; rfl

theorem allBays_find?_none {p : Fin 8 → Bool} : allBays.find? p = none ↔ ∀ n, p n = false := by
  have mem : ∀ n, n ∈ allBays := by decide
  simp [List.find?_eq_none, mem]

theorem State.bayOf_eq_some {slot : Nat} {n : Fin 8} (h : s.bay n = .occupied slot ∨ s.bay n = .reserved slot)
    (low : ∀ m, m < n → s.bay m ≠ .occupied slot ∧ s.bay m ≠ .reserved slot) : s.bayOf slot = some n :=
  allBays_find?.2 ⟨by simpa [or_comm] using h, fun m hm => by simp [low m hm]⟩

theorem State.bayOf_eq_none {slot : Nat} (h : ∀ n, s.bay n ≠ .occupied slot ∧ s.bay n ≠ .reserved slot) :
    s.bayOf slot = none :=
  allBays_find?_none.2 fun n => by simp [h n]

/-! ## What a freed bay and a posted notice leave -/

theorem filter_bne (k : Nat) (q : List Nat) : (q.filter fun j => j != k) = q.filter (· ≠ k) :=
  List.filter_congr fun j _ => by by_cases h : j = k <;> simp [h]

theorem State.post_record (n : Notice) : s.post n = { s with notices := (s.post n).notices } := by
  unfold State.post
  split <;> rfl

/-- What a freed bay does to the oven does not depend on queues and history. -/
theorem State.freeBayOf_oven_congr {t : State} {slot : Nat} (ho : t.oven = s.oven) (hb : t.tracker.boards = s.tracker.boards) :
    (t.freeBayOf slot).oven = (s.freeBayOf slot).oven := by
  have bay : t.bay = s.bay := funext fun n => by unfold State.bay; rw [ho]
  have board : t.board = s.board := funext fun k => by unfold State.board; rw [hb]
  unfold State.freeBayOf State.bayOf
  simp only [bay]
  split
  · exact ho
  next n _ => simp only [State.freeBay_record, ho, board]

theorem State.post_notices_congr {t : State} (n : Notice) (h : t.notices = s.notices) :
    (t.post n).notices = (s.post n).notices := by
  unfold State.post
  rw [h]
  split
  · exact h
  · rfl

/-- R16: the record that a retirement leaves. -/
theorem State.retire_record {quiet : Bool} {slot : Nat} {d : Disposition} {b : Board} (hb : s.board slot = some b) :
    s.retire quiet slot d = { s with
      tracker := { s.tracker with
        boards := Table.write (fun _ => none) slot none s.tracker.boards
        queues := s.tracker.queues.set b.lane ((s.queueOf b.lane).filter (· ≠ slot))
        history := (if 64 ≤ s.tracker.history.length then s.tracker.history.tail else s.tracker.history) ++
          [⟨b.tag, b.cls, b.pass, d, b.pendingSet ||| b.inService, s.clock, s.tracker.nextSeq⟩]
        nextSeq := s.tracker.nextSeq + 1#32 }
      recipe := { s.recipe with
        classes := Table.write (fun _ => resetClass) b.cls { s.cls b.cls with useCount := (s.cls b.cls).useCount - 1 } s.recipe.classes }
      oven := (s.freeBayOf slot).oven
      notices := (if quiet then s else s.post (.board slot)).notices } := by
  let q := (s.appendHistory b.tag b.cls b.pass d (b.pendingSet ||| b.inService) s.clock).setQueue b.lane
    ((s.queueOf b.lane).filter (· ≠ slot))
  have hq : q.freeBayOf slot = { q with oven := (s.freeBayOf slot).oven } := (State.freeBayOf_record slot q).trans
    (congrArg (fun o => { q with oven := o }) (s.freeBayOf_oven_congr (t := q) (slot := slot) rfl rfl))
  let u := ((({ q with oven := (s.freeBayOf slot).oven } : State).lowerUse b.cls).setBoard slot none)
  have hu : s.retire quiet slot d = if quiet then u else u.post (.board slot) := by
    simp only [State.retire, hb, filter_bne]
    exact congrArg (fun v : State => if quiet then (v.lowerUse b.cls).setBoard slot none
      else ((v.lowerUse b.cls).setBoard slot none).post (.board slot)) hq
  rw [hu]
  cases quiet
  · exact (State.post_record u _).trans (congrArg (fun n => { u with notices := n }) (s.post_notices_congr (t := u) _ rfl))
  · rfl

theorem State.freeBayOf_none {slot : Nat} (h : ∀ n, s.bay n ≠ .occupied slot ∧ s.bay n ≠ .reserved slot) :
    s.freeBayOf slot = s := by
  rw [State.freeBayOf, s.bayOf_eq_none h]

theorem State.freeBayOf_some {slot : Nat} {n : Fin 8} (h : s.bay n = .occupied slot ∨ s.bay n = .reserved slot)
    (low : ∀ m, m < n → s.bay m ≠ .occupied slot ∧ s.bay m ≠ .reserved slot) : s.freeBayOf slot = s.freeBay n := by
  rw [State.freeBayOf, s.bayOf_eq_some h low]

/-- R125: what a bay that becomes EMPTY leaves of bays and gates. -/
theorem State.freeBay_bay (n m : Fin 8) :
    (s.freeBay n).bay m = if m = n then s.oven.waitList.head?.elim .empty .reserved else s.bay m := by
  rw [State.freeBay_record]
  exact vector_get_set _ _ _ _

/-! ## RETIRE -/

theorem slotOk_iff {slot : Nat} : (!slotOk slot) = true ↔ 32 ≤ slot := by
  rw [Bool.not_eq_true', decide_eq_false_iff_not, not_lt]
  rfl

/-- Test 4 of R19. -/
theorem State.retirable_eq (slot : Nat) (b : Board) :
    s.retirable slot b = (decide (b.life = .queued ∧ b.loc = .laneQueue) || decide (b.life = .atSpray ∧ b.loc = .sprayPos) ||
      (decide (b.life = .flashing ∨ b.life = .ovenReady) && b.loc.isBay && !s.admitting slot)) := by
  unfold State.retirable
  cases b.life <;> simp

theorem execRetire_refused {t : Byte} {slot : Nat} {code : ResultCode}
    (h : firstFailure [
      (decide (s.line.mode ≠ .initializing), .wrongMode),
      (decide (slot < 32), .outOfRange),
      ((s.board slot).isSome, .notFound),
      ((s.board slot).any fun b =>
        decide (b.life = .queued ∧ b.loc = .laneQueue) || decide (b.life = .atSpray ∧ b.loc = .sprayPos) ||
        (decide (b.life = .flashing ∨ b.life = .ovenReady) && b.loc.isBay && !s.admitting slot), .wrongState)] =
      some code) :
    execRetire t slot s = .next (s.replied (.retire t slot) 0x33 code .empty) := by
  simp only [← s.retirable_eq, firstFailure_cons, firstFailure_nil, decide_eq_true_eq] at h
  rw [execRetire, State.request_unlessInit]
  refine congrArg Host.Outcome.next ?_
  split_ifs at h with hmode hslot hsome hstate
  · cases h
    obtain ⟨b, hb⟩ := Option.isSome_iff_exists.mp hsome
    rw [hb] at hstate
    rw [if_neg hmode, if_neg (slotOk_iff.not.mpr (not_le.mpr hslot))]
    simp only [State.take_board, hb]
    exact if_neg hstate
  · cases h
    rw [if_neg hmode, if_neg (slotOk_iff.not.mpr (not_le.mpr hslot))]
    simp only [State.take_board, Option.not_isSome_iff_eq_none.mp hsome]
    rfl
  · cases h
    rw [if_neg hmode, if_pos (slotOk_iff.mpr (not_lt.mp hslot))]
    rfl
  · cases h
    rw [if_pos (not_not.mp hmode)]

theorem execRetire_accepted {t : Byte} {slot : Nat} {b : Board} (hmode : s.line.mode ≠ .initializing) (hslot : slot < 32)
    (hb : s.board slot = some b) (hr : s.retirable slot b = true) :
    execRetire t slot s =
      let i : Instr := .retire t slot
      .next ((((s.take i).retire true slot .removed).answer (s.header i) 0x33 .ok
        (.retired slot b.tag s.clock)).settle false (s.take i)) := by
  rw [execRetire, State.request_unlessInit, if_neg hmode, if_neg (slotOk_iff.not.mpr (not_le.mpr hslot))]
  simp only [State.take_board, hb]
  rw [if_pos (show (s.take _).retirable slot b = true from hr)]
  rfl

/-! ## The obligation -/

/-- Settles O3: a retirement is the record of `State.retire_record`, RETIRE its tests in order and then that retirement. -/
theorem retirement : Obligations.Retirement := by
  unfold Obligations.Retirement
  refine ⟨fun quiet slot d s b hb => ?_, fun t slot s => ⟨fun code h => execRetire_refused s h, ?_⟩⟩
  · intro u
    have hu : u = _ := s.retire_record hb
    clear_value u
    subst hu
    refine ⟨?_, fun k hk => ?_, rfl, rfl, ?_, fun l hl => ?_, ?_, fun c hc => ?_, rfl, fun h => ?_, fun n h low => ?_,
      rfl, rfl, rfl, rfl, rfl, rfl, rfl, rfl, rfl, rfl⟩
    · exact (s.setBoard_board slot slot none).trans (if_pos rfl)
    · exact (s.setBoard_board slot k none).trans (if_neg hk)
    · exact (s.setQueue_queueOf b.lane b.lane _).trans (if_pos rfl)
    · exact (s.setQueue_queueOf b.lane l _).trans (if_neg hl)
    · exact (s.setCls_cls b.cls b.cls _).trans (if_pos rfl)
    · exact (s.setCls_cls b.cls c _).trans (if_neg hc)
    · dsimp only
      rw [s.freeBayOf_none h]
    · have free := s.freeBayOf_some h low
      dsimp only
      rw [free]
      refine ⟨?_, fun m hm => (s.freeBay_bay n m).trans (if_neg hm), fun hw => ⟨?_, ?_⟩, fun k rest hw => ⟨?_, fun b' hb' => ?_⟩⟩
      · rw [s.freeBay_record]
      · exact (s.freeBay_bay n n).trans (by rw [if_pos rfl, hw]; rfl)
      · rw [s.freeBay_record, hw]; rfl
      · exact (s.freeBay_bay n n).trans (by rw [if_pos rfl, hw]; rfl)
      · rw [s.freeBay_record, hw]
        simp only [List.head?_cons, Option.bind_some, hb', Option.elim_some]
  · intro b hmode hslot hb hstate
    refine execRetire_accepted s hmode hslot hb ?_
    rw [s.retirable_eq]
    simpa [or_assoc, and_assoc] using hstate

end Sys2Proof.Machine
end

section
/-! The lane sensor events and the bay requests (O2). -/

namespace Sys2Proof.Machine

variable (s : State)

/-! ## The board at the spray position and the oldest QUEUED board -/

theorem State.boards_find? (p : Nat × Board → Bool) {k : Nat} {b : Board} :
    s.boards.find? p = some (k, b) ↔ k < Config.slots ∧ s.board k = some b ∧ p (k, b) = true ∧
      ∀ j b', j < k → s.board j = some b' → p (j, b') = false := by
  have shown : ∀ j, ((s.board j).map fun b' => (j, b')).any p = (s.board j).any fun b' => p (j, b') := fun j => by
    cases s.board j <;> rfl
  have passed : ∀ j, (s.board j).any (fun b' => p (j, b')) = true ↔ ∃ b', s.board j = some b' ∧ p (j, b') = true := fun j => by
    cases s.board j <;> simp
  have failed : ∀ j, (s.board j).any (fun b' => p (j, b')) = false ↔ ∀ b', s.board j = some b' → p (j, b') = false := fun j => by
    cases s.board j <;> simp
  simp only [State.boards, List.find?_filterMap, Option.bind_eq_some_iff, List.find?_range_eq_some, shown, passed,
    List.mem_range, Bool.not_eq_true', failed, Option.map_eq_some_iff, Prod.mk.injEq]
  constructor
  · rintro ⟨_, ⟨⟨_, hb', hp⟩, hk, low⟩, _, hb, rfl, rfl⟩
    exact ⟨hk, hb, by cases hb'.symm.trans hb; exact hp, fun j b' hj hb' => low j hj b' hb'⟩
  · rintro ⟨hk, hb, hp, low⟩
    exact ⟨k, ⟨⟨b, hb, hp⟩, hk, fun j hj b' hb' => low j b' hj hb'⟩, b, hb, rfl, rfl⟩

theorem State.boards_find?_none (p : Nat × Board → Bool) :
    s.boards.find? p = none ↔ ∀ k b, k < Config.slots → s.board k = some b → p (k, b) = false := by
  simp only [List.find?_eq_none, Prod.forall, State.mem_boards, Bool.not_eq_true, and_imp]

theorem State.sprayBoard_eq_none (l : Fin 2) : s.sprayBoard l = none ↔ s.sprayEmpty l := by
  rw [State.sprayBoard, State.boards_find?_none]
  simp [State.sprayEmpty]

theorem State.sprayBoard_eq_some (l : Fin 2) (slot : Nat) (b : Board) :
    s.sprayBoard l = some (slot, b) ↔ s.atSprayPos l slot b := by
  simp [State.sprayBoard, State.boards_find?, State.atSprayPos, and_assoc]

theorem State.nextQueued_eq_none (l : Fin 2) :
    s.nextQueued l = none ↔ ∀ k b, k ∈ s.queueOf l → s.board k = some b → b.life ≠ .queued := by
  simp only [State.nextQueued, List.findSome?_eq_none_iff, Option.bind_eq_none_iff]
  grind

theorem State.nextQueued_of {l : Fin 2} {slot : Nat} {b : Board} (h : s.oldestQueued l slot b) :
    s.nextQueued l = some (slot, b) := by
  obtain ⟨before, after, hq, hb, hlife, hbefore⟩ := h
  refine List.findSome?_eq_some_iff.2 ⟨before, slot, after, hq, by simp [hb, hlife], fun k hk => ?_⟩
  rw [Option.bind_eq_none_iff]
  exact fun b' hb' => if_neg (hbefore k hk b' hb')

/-! ## A board changed with its notice -/

theorem State.modBoard_noticed {slot : Nat} {b : Board} {f : Board → Board} (hb : s.board slot = some b)
    (hn : b.noticed (f b) = true) : s.modBoard slot f = (s.setBoard slot (some (f b))).post (.board slot) := by
  simp only [State.modBoard, hb, hn, if_true]

theorem Board.noticed_of_life {old new : Board} (h : old.life ≠ new.life) : old.noticed new = true := by
  simp [Board.noticed, h]

theorem Board.noticed_of_loc {old new : Board} (h : old.loc ≠ new.loc) : old.noticed new = true := by
  simp [Board.noticed, h]

/-! ## LANE_ARRIVE -/

theorem State.laneArrive_taken {l : Fin 2} (h : ¬s.sprayEmpty l) : s.laneArrive l = s.post (.lane l) := by
  rw [State.laneArrive, if_pos (Option.isSome_iff_ne_none.mpr (mt (s.sprayBoard_eq_none l).mp h))]

theorem State.laneArrive_none {l : Fin 2} (h : s.nextQueued l = none) : s.laneArrive l = s.post (.lane l) := by
  rw [State.laneArrive, h]
  exact ite_self _

theorem State.laneArrive_some {l : Fin 2} {slot : Nat} {b : Board} (he : s.sprayEmpty l) (h : s.oldestQueued l slot b) :
    s.laneArrive l =
      (if b.mark.isSome then ((s.setBoard slot (some (s.arrived b))).post (.board slot)).requestBay slot
        else ((s.setBoard slot (some (s.arrived b))).post (.board slot)).startTest l).settle false s := by
  obtain ⟨_, _, -, hb, hlife, -⟩ := id h
  have moved : b.noticed (s.arrived b) = true := by
    refine Board.noticed_of_life ?_
    rw [hlife, State.arrived]
    split <;> exact LifeState.noConfusion
  rw [State.laneArrive, (s.sprayBoard_eq_none l).mpr he, s.nextQueued_of h]
  simp only [Option.isSome_none, Bool.false_eq_true, if_false, s.modBoard_noticed hb moved]

/-! ## LANE_CLEAR -/

theorem State.laneClear_empty {l : Fin 2} (h : s.sprayEmpty l) : s.laneClear l = s.post (.lane l) := by
  rw [State.laneClear, (s.sprayBoard_eq_none l).mpr h]

theorem State.laneClear_noBay {l : Fin 2} {slot : Nat} (h : ∀ n, s.bay n ≠ .reserved slot) :
    ∀ b, s.atSprayPos l slot b → s.laneClear l = s.post (.lane l) := by
  intro b hb
  have none : s.reservedBay slot = none := allBays_find?_none.2 fun n => decide_eq_false (h n)
  simp only [State.laneClear, (s.sprayBoard_eq_some l slot b).mpr hb, none]

theorem State.post_queueOf (n : Notice) (l : Fin 2) : (s.post n).queueOf l = s.queueOf l := by
  rw [State.post_record]
  rfl

theorem State.laneClear_some {l : Fin 2} {slot : Nat} {b : Board} {n : Fin 8} (h : s.atSprayPos l slot b)
    (hn : s.bay n = .reserved slot) (low : ∀ m, m < n → s.bay m ≠ .reserved slot) :
    s.laneClear l = ((((((s.setBoard slot (some { b with loc := .bay n })).post (.board slot)).setQueue l
      ((s.queueOf l).filter (· ≠ slot))).setBay n (.occupied slot)).setGate l false).testReady slot).settle false s := by
  obtain ⟨-, hb, -, hloc, -⟩ := id h
  have moved : b.noticed { b with loc := .bay n } = true :=
    Board.noticed_of_loc (by rw [hloc]; exact Location.noConfusion)
  have bay : s.reservedBay slot = some n := allBays_find?.2 ⟨decide_eq_true hn, fun m hm => decide_eq_false (low m hm)⟩
  simp only [State.laneClear, (s.sprayBoard_eq_some l slot b).mpr h, bay,
    s.modBoard_noticed (f := fun b => { b with loc := .bay n }) hb moved, State.post_queueOf, filter_bne]
  rfl

/-! ## Bay requests -/

theorem State.requestBay_empty {slot : Nat} {b : Board} {n : Fin 8} (hb : s.board slot = some b) (hn : s.bay n = .empty)
    (low : ∀ m, m < n → s.bay m ≠ .empty) :
    s.requestBay slot = { s with oven := { s.oven with
      bays := s.oven.bays.set n (.reserved slot), gates := s.oven.gates.set b.lane true } } := by
  have bay : s.emptyBay = some n := allBays_find?.2 ⟨decide_eq_true hn, fun m hm => decide_eq_false (low m hm)⟩
  simp only [State.requestBay, bay, State.reserve_eq, hb, Option.elim_some]

theorem State.requestBay_full {slot : Nat} (h : ∀ n, s.bay n ≠ .empty) :
    s.requestBay slot = { s with oven := { s.oven with waitList := s.oven.waitList ++ [slot] } } := by
  have bay : s.emptyBay = none := allBays_find?_none.2 fun n => decide_eq_false (h n)
  simp only [State.requestBay, bay]

/-! ## The obligation -/

theorem execLaneArrive_eq (l : Fin 2) :
    execLaneArrive l s = .next (if s.line.mode = .initializing then s else s.laneArrive l) := rfl

theorem execLaneClear_eq (l : Fin 2) :
    execLaneClear l s = .next (if s.line.mode = .initializing then s else s.laneClear l) := rfl

/-- Settles O2: the two events by their cases, and the bay request by whether a bay is EMPTY. -/
theorem laneSensors : Obligations.LaneSensors := by
  unfold Obligations.LaneSensors
  refine ⟨fun l s => ⟨fun h => ?_, fun h hs => ?_, fun h hq => ?_, fun slot b h he hq => ?_⟩,
    fun l s => ⟨fun h => ?_, fun h hs => ?_, fun slot b h hs => ⟨fun hn => ?_, fun n hn low => ?_⟩⟩,
    fun slot b s hb => ⟨fun n hn low => ?_, fun hn => ?_, fun n => ⟨fun hw => ?_, fun rest hw => ?_⟩⟩⟩
  · exact (execLaneArrive_eq s l).trans (by rw [if_pos h])
  · exact (execLaneArrive_eq s l).trans (by rw [if_neg h, s.laneArrive_taken hs])
  · exact (execLaneArrive_eq s l).trans (by rw [if_neg h, s.laneArrive_none ((s.nextQueued_eq_none l).mpr hq)])
  · refine (execLaneArrive_eq s l).trans ?_
    rw [if_neg h, s.laneArrive_some he hq, State.arrived]
    cases b.mark <;> rfl
  · exact (execLaneClear_eq s l).trans (by rw [if_pos h])
  · exact (execLaneClear_eq s l).trans (by rw [if_neg h, s.laneClear_empty hs])
  · exact (execLaneClear_eq s l).trans (by rw [if_neg h, s.laneClear_noBay hn b hs])
  · exact (execLaneClear_eq s l).trans (by rw [if_neg h, s.laneClear_some hs hn low])
  · exact s.requestBay_empty hb hn low
  · exact s.requestBay_full hn
  · rw [State.freeBay, hw]
    rfl
  · rw [s.freeBay_record, hw]
    simp only [List.head?_cons, Option.bind_some, hb, Option.elim_some, List.tail_cons]

end Sys2Proof.Machine
end

section
/-! The overdue expiry and OVEN_EXIT (O38). -/

namespace Sys2Proof.Machine

variable {s0 s : State}

/-! ## The boards through shared operations -/

/-- Every board that the shared operations meet stays in its slot, with what they keep of a record. -/
theorem Evolves.board_kept (h : Evolves s0 s) {k : Nat} {b : Board} (hb : s0.board k = some b) :
    ∃ b', s.board k = some b' ∧ b.Kept b' := by
  induction h with
  | refl => exact ⟨b, hb, .refl b⟩
  | post _ n ih => rw [State.post_record]; exact ih
  | @setBoard u j b1 b2 _ hj hk ih =>
    obtain ⟨b', hb', kept⟩ := ih
    rw [State.setBoard_board]
    split
    next e =>
      subst e
      cases hj.symm.trans hb'
      exact ⟨_, rfl, kept.trans hk⟩
    next => exact ⟨b', hb', kept⟩
  | _ => assumption

theorem State.modBoardQuiet_some {k : Nat} {b : Board} (hb : s.board k = some b) (f : Board → Board) :
    s.modBoardQuiet k f = s.setBoard k (some (f b)) := by
  simp only [State.modBoardQuiet, hb]

theorem State.modBoardQuiet_none {k : Nat} (hb : s.board k = none) (f : Board → Board) : s.modBoardQuiet k f = s := by
  simp only [State.modBoardQuiet, hb]

theorem State.freeBayOf_oven (k : Nat) :
    ∃ bays gates waits, (s.freeBayOf k).oven = { s.oven with bays := bays, gates := gates, waitList := waits } := by
  unfold State.freeBayOf
  split
  · exact ⟨_, _, _, rfl⟩
  next n _ => exact ⟨_, _, _, by rw [State.freeBay_record]⟩

/-- A retirement frees a bay and leaves the other records of the oven. -/
theorem State.retire_oven (q : Bool) (k : Nat) (d : Disposition) :
    ∃ bays gates waits, (s.retire q k d).oven = { s.oven with bays := bays, gates := gates, waitList := waits } := by
  cases hb : s.board k with
  | none => exact ⟨_, _, _, by rw [State.retire, hb]⟩
  | some b =>
    rw [s.retire_record hb]
    exact State.freeBayOf_oven k

/-! ## The overdue expiry -/

theorem State.overdueAt_none {b : Board} (h : b.life ≠ .inOven ∨ b.overdueArmed = false) : s.overdueAt b = none := by
  rw [State.overdueAt, if_neg]
  rintro ⟨armed, inside⟩
  exact h.elim (· inside) (fun off => Bool.false_ne_true (off.symm.trans armed))

theorem State.overdue_none {slot : Nat} (h : ∀ b, s.board slot = some b → b.life ≠ .inOven ∨ b.overdueArmed = false) :
    s.overdue slot = s := by
  have none : (s.board slot).bind s.overdueAt = none :=
    Option.bind_eq_none_iff.mpr fun b hb => State.overdueAt_none (h b hb)
  rw [State.overdue, none]

theorem State.overdue_some {slot : Nat} {b : Board} {e : Nat} (hb : s.board slot = some b) (hl : b.life = .inOven)
    (ha : b.overdueArmed = true) (he : b.ovenEntry = some e) :
    s.overdue slot = (((s.reach (e + (s.oven.settings.end4 + s.oven.settings.grace) * 1000)).setBoard slot
      (some { b with overdueArmed := false })).raise 15 slot).settle false s := by
  have at_ : (s.board slot).bind s.overdueAt = some (e + (s.oven.settings.end4 + s.oven.settings.grace) * 1000) := by
    rw [hb, Option.bind_some, State.overdueAt, if_pos ⟨ha, hl⟩, he, Option.map_some, Nat.mul_comm]
  rw [State.overdue, at_]
  dsimp only
  rw [State.modBoardQuiet_some (s := s.reach _) hb]

/-! ## The verdict -/

theorem any_slotOf (as : List Accumulator) (c : ClassRecord) (p : MatSlot → Accumulator → Prop) [∀ x a, Decidable (p x a)] :
    (as.any fun a => (c.slotOf a.material).any fun x => decide (p x a)) = true ↔
      ∃ a ∈ as, ∃ x, c.slotOf a.material = some x ∧ p x a := by
  simp only [List.any_eq_true, Option.any_eq_true, decide_eq_true_eq]

/-- R146: the verdict is the first row that applies. -/
theorem Board.exitVerdict_eq {b : Board} {c : ClassRecord} {v : Verdict}
    (isOver : (∃ a ∈ b.accs, ∃ x, c.slotOf a.material = some x ∧ x.maximum * 1000 < a.dose) → v = .overcure)
    (isGap : ¬(∃ a ∈ b.accs, ∃ x, c.slotOf a.material = some x ∧ x.maximum * 1000 < a.dose) →
      (∃ a ∈ b.accs, ∃ x, c.slotOf a.material = some x ∧ a.dose < x.required * 1000) → b.doseGap = true → v = .doseUncertain)
    (isUnder : ¬(∃ a ∈ b.accs, ∃ x, c.slotOf a.material = some x ∧ x.maximum * 1000 < a.dose) →
      (∃ a ∈ b.accs, ∃ x, c.slotOf a.material = some x ∧ a.dose < x.required * 1000) → b.doseGap = false → v = .undercure)
    (isCured : ¬(∃ a ∈ b.accs, ∃ x, c.slotOf a.material = some x ∧ x.maximum * 1000 < a.dose) →
      ¬(∃ a ∈ b.accs, ∃ x, c.slotOf a.material = some x ∧ a.dose < x.required * 1000) → v = .cured) :
    b.exitVerdict c = v := by
  unfold Board.exitVerdict Accumulator.over Accumulator.short
  split
  next h => exact (isOver ((any_slotOf _ _ fun x a => x.maximum * 1000 < a.dose).mp h)).symm
  next h =>
    have notOver := mt (any_slotOf _ _ fun x a => x.maximum * 1000 < a.dose).mpr h
    split
    next g =>
      have short := (any_slotOf _ _ fun x a => a.dose < x.required * 1000).mp g
      cases hd : b.doseGap
      · exact (isUnder notOver short hd).symm
      · exact (isGap notOver short hd).symm
    next g => exact (isCured notOver (mt (any_slotOf _ _ fun x a => a.dose < x.required * 1000).mpr g)).symm

/-! ## OVEN_EXIT -/

theorem Verdict.judgeExit_eq {slot : Nat} {v : Verdict} {b : Board} (hb : s.board slot = some b) :
    s.judgeExit slot v =
      let u := s.setBoard slot (some { b with overdueArmed := false, verdict := some v })
      match v with
      | .overcure => u.raise 13 slot
      | .doseUncertain => u.raise 12 slot
      | .undercure => u.raise 11 slot
      | .cured => u := by
  simp only [State.judgeExit, State.modBoardQuiet_some hb]
  cases v <;> rfl

theorem Steady.judgeExit (h : Steady s0 s) (k : Nat) (v : Verdict) : Steady s0 (s.judgeExit k v) := by
  have g := h.modBoardQuiet k fun b => { b with overdueArmed := false, verdict := some v }
  unfold State.judgeExit
  dsimp only
  split
  · exact g
  · exact g.raise _ _

/-- Steps 5 and 6 of R145 for a board that the shared operations left as `b` was in all it keeps. -/
theorem State.exitBoard_eq {slot : Nat} {v : Verdict} {b b' : Board} (hb : s.board slot = some b') (kept : b.Kept b') {time : Nat}
    (ht : s.clock = time) :
    s.exitBoard slot v =
      let out := s.exitRoute b'
      State.retire false slot out.2 { s with oven := { s.oven with
        diverter := out.1
        lastExit := some ⟨slot, b.tag, b.cls, b.pass, b.ovenEntry.getD 0, time, v, out.1, out.2, b.doseGap,
          b.overTemp, b.accs⟩ } } := by
  subst ht
  simp only [State.exitBoard, hb, exitRecord, kept.tag, kept.cls, kept.pass, kept.ovenEntry, kept.doseGap, kept.overTemp,
    kept.accs]

theorem State.ovenExit_nil (h : s.oven.occupancy = []) : s.ovenExit = s.post .oven := by
  rw [State.ovenExit, h]

theorem State.applyStaged_eq : ∀ w, s.oven.staged = w →
    s.applyStaged = match w with
      | some w => State.post .oven { s with oven := { s.oven with settings := w, staged := none } }
      | none => s := by
  rintro (_ | w) h <;> rw [State.applyStaged, h]

theorem execOvenExit_eq : execOvenExit s = .next (if s.line.mode = .initializing then s else s.ovenExit) := rfl

/-- Settles O38: the expiry by its guard, and OVEN_EXIT step by step along R145. -/
theorem ovenExit : Obligations.OvenExit := by
  unfold Obligations.OvenExit
  refine ⟨fun slot s => ⟨fun h => congrArg Host.Outcome.next (State.overdue_none h), fun b e hb hl ha he =>
    congrArg Host.Outcome.next (State.overdue_some hb hl ha he)⟩, fun s => ⟨fun h => ?_, fun h ho => ?_, ?_⟩⟩
  · exact execOvenExit_eq.trans (by rw [if_pos h])
  · exact execOvenExit_eq.trans (by rw [if_neg h, State.ovenExit_nil ho])
  · intro slot rest b h ho hb limits above below v ⟨isOver, isGap, isUnder, isCured⟩ s1 s2 s3
    have hv : (s.board slot).elim .cured (fun b => b.exitVerdict (s.cls b.cls)) = v := by
      rw [hb]
      exact Board.exitVerdict_eq isOver isGap isUnder isCured
    have judged : s1.judgeExit slot v = s3 := Verdict.judgeExit_eq (s := s1) hb
    have steady : Steady s1 s3 := judged ▸ (Steady.refl s1).judgeExit slot v
    obtain ⟨b3, hb3, kept⟩ := (judged ▸ (Evolves.refl (s0 := s1)).judgeExit slot v : Evolves s1 s3).board_kept (k := slot) hb
    refine ⟨b3, hb3, ?_⟩
    intro out s4 s5
    have routed : s3.exitRoute b3 = out := rfl
    have left : s3.exitBoard slot v = s4 := by
      rw [State.exitBoard_eq hb3 kept steady.clock, routed]
    have staged : s4.oven.staged = s.oven.staged := by
      obtain ⟨_, _, _, ho⟩ := State.retire_oven (s := { s3 with oven := { s3.oven with
        diverter := out.1
        lastExit := some ⟨slot, b.tag, b.cls, b.pass, b.ovenEntry.getD 0, s.clock, v, out.1, out.2, b.doseGap,
          b.overTemp, b.accs⟩ } }) false slot out.2
      exact (congrArg Oven.staged ho).trans steady.staged
    have applied : (if rest.isEmpty then s4.applyStaged else s4) = s5 := by
      rw [State.applyStaged_eq _ staged]
      simp only [s5, List.isEmpty_iff]
      cases s.oven.staged <;> simp
    refine execOvenExit_eq.trans ?_
    rw [if_neg h, State.ovenExit, ho]
    dsimp only
    rw [hv, judged, left, applied]

end Sys2Proof.Machine
end

section
/-! The raise of a reason and the report of a change (O41). -/

namespace Sys2Proof.Machine

variable {s : State}

/-! ## The raise -/

theorem State.raiseCore_masked {slot n : Nat} {b : Board} {quiet : Bool} (hb : s.board slot = some b)
    (hm : (s.route n).masked = true) :
    s.raiseCore quiet slot n = s.setBoard slot (some { b with pendingSet := b.pendingSet.join n }) := by
  simp only [State.raiseCore, hb, hm, if_true, State.modBoardQuiet_some hb]

theorem Board.withMark_rework (b : Board) :
    b.withMark .rework = { b with mark := some (match b.mark with | some .scrap => Mark.scrap | _ => .rework) } := by
  unfold Board.withMark newMark
  obtain _ | _ | _ := b.mark <;> rfl

/-- A change of the mark and the sets alone posts a BOARD notice where the mark differs. -/
theorem Board.noticed_served (b : Board) (m : Mark) (x : NumSet 16) :
    b.noticed { b with mark := some m, inService := x } = decide (b.mark ≠ some m) := by
  simp [Board.noticed]

theorem State.raiseCore_divert {slot n : Nat} {b : Board} {quiet : Bool} (hb : s.board slot = some b)
    (hm : (s.route n).masked = false) (ha : (s.route n).action = .divert) :
    s.raiseCore quiet slot n =
      let mark := match b.mark with | some .scrap => Mark.scrap | _ => .rework
      let served := s.setBoard slot (some { b with mark := some mark, inService := b.inService.join n })
      if quiet = true ∨ b.mark = some mark then served else served.post (.board slot) := by
  simp only [State.raiseCore, hb, hm, Bool.false_eq_true, if_false, ha, if_true, State.modBoardQuiet_some hb,
    Board.withMark_rework]
  cases quiet with
  | true => simp
  | false =>
    simp only [State.modBoard, hb, Board.noticed_served, Bool.false_eq_true, if_false, false_or,
      decide_eq_true_eq, ne_eq, ite_not]

theorem State.raiseCore_pending {slot n : Nat} {b : Board} {quiet : Bool} (hb : s.board slot = some b)
    (hm : (s.route n).masked = false) (ha : (s.route n).action ≠ .divert) :
    s.raiseCore quiet slot n = if b.pendingSet.has n then s
      else (s.setBoard slot (some { b with pendingSet := b.pendingSet.join n })).post .hold := by
  simp only [State.raiseCore, hb, hm, Bool.false_eq_true, if_false, ha, State.modBoardQuiet_some hb]

theorem State.blockedAt_some {slot : Nat} {b : Board} (hb : s.board slot = some b) : s.blockedAt slot = s.blocked b := by
  rw [State.blockedAt, hb, Option.any_some]

/-! ## The report of a change, by life state -/

theorem State.strokeInFlight_iff {slot : Nat} {l : Fin 2} :
    s.strokeInFlight slot l = true ↔ ∃ o x, (s.lane l).op = some o ∧ o.stroke = some x ∧ x.slot = slot := by
  simp only [State.strokeInFlight, Option.any_eq_true, Option.bind_eq_some_iff, decide_eq_true_eq]
  grind

theorem State.react_still {slot : Nat} {b : Board} {was : Bool} (hb : s.board slot = some b)
    (hl : b.life = .queued ∨ b.life = .inOven) : s.react slot was = s := by
  obtain hl | hl := hl <;> simp only [State.react, hb, hl]

theorem State.react_atSpray {slot : Nat} {b : Board} {was : Bool} (hb : s.board slot = some b) (hl : b.life = .atSpray) :
    s.react slot was = s.reactAtSpray slot b was := by simp only [State.react, hb, hl]

theorem State.react_spraying {slot : Nat} {b : Board} {was : Bool} (hb : s.board slot = some b) (hl : b.life = .spraying) :
    s.react slot was = s.reactSpraying slot b := by simp only [State.react, hb, hl]

theorem State.react_buffered {slot : Nat} {b : Board} {was : Bool} (hb : s.board slot = some b)
    (hl : b.life = .flashing ∨ b.life = .ovenReady) : s.react slot was = s.reactBuffered slot was := by
  obtain hl | hl := hl <;> simp only [State.react, hb, hl]

theorem State.reactAtSpray_marked {slot : Nat} {b : Board} {was : Bool} (hb : s.board slot = some b) (hl : b.life = .atSpray)
    (hm : b.mark ≠ none) :
    s.reactAtSpray slot b was =
      ((s.setBoard slot (some { b with life := .flashing, maskWait := none })).post (.board slot)).requestBay slot := by
  rw [State.reactAtSpray, if_pos (Option.isSome_iff_ne_none.mpr hm), State.markedAtSpray, State.toFlashing,
    s.modBoard_noticed hb (Board.noticed_of_life (by rw [hl]; exact LifeState.noConfusion))]

theorem State.reactAtSpray_unmarked {slot : Nat} {b : Board} {was : Bool} (hm : b.mark = none) :
    s.reactAtSpray slot b was = if was = true ∧ s.blocked b = false then s.startTest b.lane else s := by
  simp [State.reactAtSpray, hm]

theorem State.reactSpraying_disarmed {slot : Nat} {b : Board} (hf : s.strokeInFlight slot b.lane = false)
    (hd : b.disarmed = true) : s.reactSpraying slot b = s.departDisarmed slot := by
  simp only [State.reactSpraying, hf, hd, Bool.false_eq_true, if_false, if_true]

/-- R99: a SPRAYING board that is not disarmed, with no stroke of it in flight. -/
theorem State.reactSpraying_armed {slot : Nat} {b : Board} (hf : s.strokeInFlight slot b.lane = false)
    (hd : b.disarmed = false) :
    s.reactSpraying slot b =
      if b.mark.isSome then s.abandon b.lane slot
      else if s.blocked b then
        if (s.lane b.lane).status = .running ∨ (s.lane b.lane).status = .waitApplicator then s.stopLane b.lane else s
      else if (s.lane b.lane).status = .stopped then s.setStatus b.lane .running else s := by
  simp only [State.reactSpraying, hf, hd, Bool.false_eq_true, if_false]

theorem State.setStatus_new {l : Fin 2} {st : LaneStatus} (h : (s.lane l).status ≠ st) :
    s.setStatus l st = (s.setLane l { s.lane l with status := st }).post (.lane l) := by
  rw [State.setStatus, if_neg h]
  rfl

/-- R126: what makes an OVEN_READY board cease to be so. -/
theorem State.ceases_iff {b : Board} :
    (s.blocked b = true ∨ b.mark.isSome = true ∨ (!s.gateOpen b) = true) ↔
      s.blocked b = true ∨ b.mark ≠ none ∨ (s.cls b.cls).inspect = true ∧ b.inspectDone = false := by
  simp [State.gateOpen, Option.isSome_iff_ne_none]

theorem State.leaveReady_of {slot : Nat} {b : Board} (hb : s.board slot = some b)
    (h : b.life ≠ .ovenReady ∨ ¬(s.blocked b = true ∨ b.mark ≠ none ∨ (s.cls b.cls).inspect = true ∧ b.inspectDone = false)) :
    s.leaveReady slot = s := by
  simp only [State.leaveReady, hb]
  rw [if_neg]
  rintro ⟨ready, ceases⟩
  exact h.elim (· ready) (· (State.ceases_iff.mp ceases))

theorem State.leaveReady_ceased {slot : Nat} {b : Board} (hb : s.board slot = some b) (hl : b.life = .ovenReady)
    (h : s.blocked b = true ∨ b.mark ≠ none ∨ (s.cls b.cls).inspect = true ∧ b.inspectDone = false) :
    s.leaveReady slot = (s.setBoard slot (some { b with life := .flashing })).post (.board slot) := by
  simp only [State.leaveReady, hb]
  rw [if_pos ⟨hl, State.ceases_iff.mpr h⟩]
  exact s.modBoard_noticed hb (Board.noticed_of_life (by rw [hl]; exact LifeState.noConfusion))

theorem State.post_board (n : Notice) (k : Nat) : (s.post n).board k = s.board k := by
  rw [State.post_record]
  rfl

theorem State.reactBuffered_flashing {slot : Nat} {b : Board} {was : Bool} (hb : s.board slot = some b)
    (hl : b.life = .flashing) (ha : s.admitting slot = false) :
    s.reactBuffered slot was = if was = true ∧ s.blocked b = false then s.testReady slot else s := by
  have stays : s.leaveReady slot = s := State.leaveReady_of hb (.inl (by rw [hl]; exact LifeState.noConfusion))
  simp [State.reactBuffered, stays, ha, State.blockedAt_some hb]

theorem State.reactBuffered_kept {slot : Nat} {b : Board} (hb : s.board slot = some b) (hl : b.life = .ovenReady)
    (h : ¬(s.blocked b = true ∨ b.mark ≠ none ∨ (s.cls b.cls).inspect = true ∧ b.inspectDone = false)) :
    s.reactBuffered slot false = s := by
  simp [State.reactBuffered, State.leaveReady_of hb (.inr h), hb, hl]

theorem State.reactBuffered_ceased {slot : Nat} {b : Board} (hb : s.board slot = some b) (hl : b.life = .ovenReady)
    (h : s.blocked b = true ∨ b.mark ≠ none ∨ (s.cls b.cls).inspect = true ∧ b.inspectDone = false) :
    s.reactBuffered slot false =
      let flashing := (s.setBoard slot (some { b with life := .flashing })).post (.board slot)
      if s.admitting slot then flashing.withdraw slot else flashing := by
  have now : ((s.setBoard slot (some { b with life := .flashing })).post (.board slot)).board slot =
      some { b with life := .flashing } := by rw [State.post_board, State.setBoard_board, if_pos rfl]
  simp [State.reactBuffered, State.leaveReady_ceased hb hl h, now]

/-- Settles O41: the raise by its routing entry, and the report of a change life state by life state. -/
theorem raiseTable : Obligations.RaiseTable := by
  unfold Obligations.RaiseTable
  refine ⟨fun s slot n b quiet hb => ⟨State.raiseCore_masked hb, State.raiseCore_divert hb, fun hm ha hp => ?_,
    fun hm ha hp => ?_, ?_⟩, fun s slot b was hb => ?_⟩
  · exact (State.raiseCore_pending hb hm ha).trans (if_pos hp)
  · exact (State.raiseCore_pending hb hm ha).trans (if_neg (by rw [hp]; exact Bool.false_ne_true))
  · rw [State.raise, State.blockedAt_some hb]
  · intro u inFlight blocked status flashing
    refine ⟨State.react_still hb, fun hl => ⟨fun hm => ?_, fun hm => ?_⟩, fun hl hf => ?_, fun hl hf hd => ?_,
      fun hl hf hd => ?_, fun hl ha => ?_, fun hl hw => ?_⟩
    · exact (State.react_atSpray hb hl).trans (State.reactAtSpray_marked hb hl hm)
    · exact (State.react_atSpray hb hl).trans (State.reactAtSpray_unmarked hm)
    · exact (State.react_spraying hb hl).trans (if_pos (State.strokeInFlight_iff.mpr hf))
    · have noStroke := Bool.eq_false_iff.mpr (mt State.strokeInFlight_iff.mp hf)
      exact (State.react_spraying hb hl).trans (State.reactSpraying_disarmed noStroke hd)
    · have noStroke := Bool.eq_false_iff.mpr (mt State.strokeInFlight_iff.mp hf)
      have hu : u = _ := (State.react_spraying hb hl).trans (State.reactSpraying_armed noStroke hd)
      refine ⟨fun hm => ?_, fun hm hk => ?_, fun hm hk => ?_⟩
      · rw [hu, if_pos (Option.isSome_iff_ne_none.mpr hm)]
      · rw [hu, hm, Option.isSome_none, if_neg Bool.false_ne_true, if_pos hk]
      · rw [hu, hm, Option.isSome_none, if_neg Bool.false_ne_true, if_neg (Bool.eq_false_iff.mp hk)]
        by_cases hs : (s.lane b.lane).status = .stopped
        · exact (if_pos hs).trans ((State.setStatus_new (by rw [hs]; exact LaneStatus.noConfusion)).trans (if_pos hs).symm)
        · exact (if_neg hs).trans (if_neg hs).symm
    · exact (State.react_buffered hb (.inl hl)).trans (State.reactBuffered_flashing hb hl ha)
    · subst hw
      have hu : u = _ := State.react_buffered hb (.inr hl)
      refine ⟨fun h => hu.trans (State.reactBuffered_kept hb hl h), fun h ha => ?_, fun h ha => ?_⟩
      · exact hu.trans ((State.reactBuffered_ceased hb hl h).trans (if_neg (by rw [ha]; exact Bool.false_ne_true)))
      · exact hu.trans ((State.reactBuffered_ceased hb hl h).trans (if_pos ha))

end Sys2Proof.Machine
end

section
/-! ROUTE_WRITE and ROUTE_READ (O42): the marks as one sweep over the slots, the bay requests, the reports. -/

namespace Sys2Proof.Machine

variable {s t : State}

/-! ## One change of every board of a list of slots -/

/-- What it is that `t` is `s` with every board of the slots `ks` changed by `f`, each with its BOARD notice. -/
structure State.SweptBy (f : Board → Board) (ks : List Nat) (s t : State) : Prop where
  board : ∀ k, t.board k = if k ∈ ks then (s.board k).map f else s.board k
  rest : t = { s with notices := t.notices, tracker := { s.tracker with boards := t.tracker.boards } }
  notices : t.notices = ((ks.filter fun k => (s.board k).any fun b => b.noticed (f b)).foldl
    (fun u k => u.post (.board k)) s).notices

theorem State.modBoard_board (k j : Nat) (f : Board → Board) :
    (s.modBoard k f).board j = if j = k then (s.board k).map f else s.board j := by
  cases hb : s.board k with
  | none =>
    simp only [State.modBoard, hb]
    split
    next e => rw [e, hb]; rfl
    next => rfl
  | some b =>
    have moved : (s.setBoard k (some (f b))).board j = if j = k then (some b).map f else s.board j := by
      rw [State.setBoard_board, Option.map_some]
    simp only [State.modBoard, hb]
    split
    · rw [State.post_board, moved]
    · rw [moved]

theorem State.modBoard_notices (k : Nat) (f : Board → Board) :
    (s.modBoard k f).notices = (if (s.board k).any fun b => b.noticed (f b) then s.post (.board k) else s).notices := by
  cases hb : s.board k with
  | none => rw [State.modBoard, hb]; rfl
  | some b =>
    simp only [State.modBoard, hb, Option.any_some]
    split
    · exact s.post_notices_congr _ rfl
    · rfl

theorem State.modBoard_rest (k : Nat) (f : Board → Board) :
    s.modBoard k f = { s with
      notices := (s.modBoard k f).notices, tracker := { s.tracker with boards := (s.modBoard k f).tracker.boards } } := by
  unfold State.modBoard
  split
  · rfl
  next b _ =>
    dsimp only
    split
    · rw [State.post_record]; rfl
    · rfl

theorem State.posts_notices_congr (ks : List Nat) (h : t.notices = s.notices) :
    (ks.foldl (fun u k => u.post (.board k)) t).notices = (ks.foldl (fun u k => u.post (.board k)) s).notices := by
  induction ks generalizing s t with
  | nil => exact h
  | cons k ks ih => exact ih (s.post_notices_congr _ h)

theorem State.sweptBy_foldl (f : Board → Board) (ks : List Nat) (hk : ks.Nodup) :
    State.SweptBy f ks s (ks.foldl (fun u k => u.modBoard k f) s) := by
  induction ks generalizing s with
  | nil => exact { board := fun k => rfl, rest := rfl, notices := rfl }
  | cons k ks ih =>
    obtain ⟨hnot, hks⟩ := List.nodup_cons.mp hk
    have tail := ih (s := s.modBoard k f) hks
    have same : ∀ j ∈ ks, (s.modBoard k f).board j = s.board j := fun j hj => by
      rw [State.modBoard_board, if_neg]
      rintro rfl
      exact hnot hj
    refine { board := fun j => ?_, rest := ?_, notices := ?_ }
    · rw [List.foldl_cons, tail.board, State.modBoard_board]
      by_cases hj : j = k
      · subst hj; simp [hnot]
      · simp [hj]
    · rw [List.foldl_cons]
      generalize ks.foldl (fun u k => u.modBoard k f) (s.modBoard k f) = t at tail
      rw [tail.rest, State.modBoard_rest]
    · rw [List.foldl_cons, tail.notices, List.filter_congr fun j hj => by rw [same j hj]]
      refine (State.posts_notices_congr _ (State.modBoard_notices k f)).trans ?_
      rw [List.filter_cons]
      split <;> rfl

/-! ## The marks of R153 -/

/-- Step 1 of R153 on a board, as R7 and R155 have it. -/
theorem Board.divertFor_eq (n : Nat) (b : Board) :
    b.divertFor n = if b.holds n = true then { b with
      mark := some (match b.mark with | some .scrap => .scrap | _ => .rework)
      pendingSet := b.pendingSet.leave n
      inService := if b.pendingSet.has n then b.inService.join n else b.inService } else b :=
  congrArg (fun x : Board => if b.holds n then ({ x with
    pendingSet := b.pendingSet.leave n
    inService := if b.pendingSet.has n then b.inService.join n else b.inService } : Board) else b) (Board.withMark_rework b)

/-- A mark posts a BOARD notice where it differs; life state and location stay. -/
theorem Board.noticed_divertFor (n : Nat) (b : Board) : b.noticed (b.divertFor n) = decide (b.mark ≠ (b.divertFor n).mark) := by
  unfold Board.divertFor
  split <;> simp [Board.noticed, Board.withMark]

/-- Whether an entry of the routing table has its reason divert boards (R155). -/
abbrev RouteEntry.diverts (r : RouteEntry) : Prop := r.masked = false ∧ r.action = .divert

theorem RouteEntry.diverts_iff {r : RouteEntry} : r.diverts ↔ (!r.masked) = true ∧ r.action = .divert := by
  rw [RouteEntry.diverts, Bool.not_eq_true']

/-- The state after the marks of R153, and before the bay requests of R7. -/
def State.marked (n : Nat) (s : State) : State := if (s.route n).diverts then s.markAll n else s

theorem State.marked_swept (n : Nat) :
    State.SweptBy (fun b => if (s.route n).diverts then b.divertFor n else b) (List.range 32) s (s.marked n) := by
  unfold State.marked
  split
  · exact State.sweptBy_foldl _ _ List.nodup_range
  · refine { board := fun k => by simp, rest := rfl, notices := ?_ }
    have none : ((List.range 32).filter fun k => (s.board k).any fun b => b.noticed b) = [] := by simp [Board.noticed]
    rw [none]
    rfl

/-- Where a board's change posts a notice for its mark alone, the notices are those of the slots whose mark changed. -/
theorem State.SweptBy.notices_marks {f : Board → Board} (h : State.SweptBy f (List.range 32) s t)
    (hf : ∀ b : Board, b.noticed (f b) = decide (b.mark ≠ (f b).mark)) :
    t.notices = (((List.range 32).filter fun k => decide (s.markAt k ≠ t.markAt k)).foldl
      (fun u k => u.post (.board k)) s).notices := by
  rw [h.notices]
  refine congrArg (fun ks : List Nat => (ks.foldl (fun u k => u.post (.board k)) s).notices) (List.filter_congr fun k hk => ?_)
  simp only [State.markAt, h.board, if_pos hk]
  cases s.board k with
  | none => rfl
  | some b => exact hf b

/-! ## The bay requests of R153 -/

theorem State.requestBay_board (k j : Nat) : (s.requestBay k).board j = s.board j := by
  unfold State.requestBay
  split
  · rw [State.reserve_eq]; rfl
  · rfl

theorem State.markedAtSpray_board (k j : Nat) (h : j ≠ k) : (s.markedAtSpray k).board j = s.board j := by
  rw [State.markedAtSpray, State.toFlashing, State.requestBay_board, State.modBoard_board, if_neg h]

theorem State.markedAtSpray_eq {k : Nat} {b : Board} (hb : s.board k = some b) (hl : b.life = .atSpray) :
    s.markedAtSpray k =
      ((s.setBoard k (some { b with life := .flashing, maskWait := none })).post (.board k)).requestBay k := by
  rw [State.markedAtSpray, State.toFlashing,
    s.modBoard_noticed hb (Board.noticed_of_life (by rw [hl]; exact LifeState.noConfusion))]

/-- Two passes over the slots agree where their steps agree on the board as it was before the pass. -/
theorem foldl_congr_of_slots {g h : State → Nat → State} {m : State} (step : ∀ u k, u.board k = m.board k → g u k = h u k)
    (apart : ∀ u k j, j ≠ k → (g u k).board j = u.board j) (ks : List Nat) (hk : ks.Nodup) (u : State)
    (hu : ∀ k ∈ ks, u.board k = m.board k) : ks.foldl g u = ks.foldl h u := by
  induction ks generalizing u with
  | nil => rfl
  | cons k ks ih =>
    obtain ⟨hnot, hks⟩ := List.nodup_cons.mp hk
    rw [List.foldl_cons, List.foldl_cons, ← step u k (hu k List.mem_cons_self)]
    refine ih hks _ fun j hj => (apart u k j ?_).trans (hu j (List.mem_cons_of_mem k hj))
    rintro rfl
    exact hnot hj

theorem State.divertAll_eq (n : Nat) :
    s.divertAll n = (List.range 32).foldl (fun u k =>
      if (s.route n).diverts ∧ (s.marked n).holdsAtSpray n k = true then u.markedAtSpray k else u) (s.marked n) := by
  unfold State.divertAll State.marked
  by_cases h : (s.route n).diverts
  · rw [if_pos h, if_pos (RouteEntry.diverts_iff.mp h)]
    exact congrArg (fun g => List.foldl g (s.markAll n) allSlots)
      (funext₂ fun u k => if_congr (and_iff_right h).symm rfl rfl)
  · rw [if_neg h, if_neg (mt RouteEntry.diverts_iff.mpr h)]
    exact (List.foldl_fixed' (fun _ => if_neg fun hd => h hd.1) _).symm

theorem State.holdsAtSpray_some {n k : Nat} {b : Board} (hb : s.board k = some b) :
    s.holdsAtSpray n k = true ↔ b.life = .atSpray ∧ b.holds n = true := by
  simp [State.holdsAtSpray, hb]

/-- Step 1 of R153 as one pass over the slots after the marks, whose step asks for a bay for each AT_SPRAY board that holds the
reason and leaves the others. -/
theorem State.divertAll_foldl {n : Nat} {g : State → Nat → State}
    (asks : ∀ u k b, (s.marked n).board k = some b → (s.route n).diverts → b.life = .atSpray → b.holds n = true →
      g u k = ((u.setBoard k (some { b with life := .flashing, maskWait := none })).post (.board k)).requestBay k)
    (leaves : ∀ u k, ¬((s.route n).diverts ∧ (s.marked n).holdsAtSpray n k = true) → g u k = u) :
    s.divertAll n = (List.range 32).foldl g (s.marked n) := by
  rw [State.divertAll_eq]
  refine foldl_congr_of_slots (m := s.marked n) (fun u k hu => ?_) (fun u k j hj => ?_) _ List.nodup_range _ fun _ _ => rfl
  · split
    next h =>
      obtain ⟨hd, hk⟩ := h
      cases hb : (s.marked n).board k with
      | none => simp [State.holdsAtSpray, hb] at hk
      | some b =>
        obtain ⟨hl, hh⟩ := (State.holdsAtSpray_some hb).mp hk
        exact (State.markedAtSpray_eq (hu.trans hb) hl).trans (asks u k b hb hd hl hh).symm
    next h => exact (leaves u k h).symm
  · split
    · exact State.markedAtSpray_board k j hj
    · rfl

/-! ## The reports and the record after the marks -/

theorem reportAll_eq (s0 s1 : State) : reportAll s0 s1 = (List.range 32).foldl (fun u k =>
    if s0.blockedAt k ≠ s1.blockedAt k ∨ s0.markAt k ≠ s1.markAt k then u.react k (s0.blockedAt k) else u) s1 := by
  refine congrArg (fun g => List.foldl g s1 (List.range 32)) (funext₂ fun u k => ?_)
  simp only [reported, Bool.or_eq_true, decide_eq_true_eq]

theorem State.marked_route (n k : Nat) : (s.marked n).route k = s.route k := by
  rw [(State.marked_swept n).rest]
  rfl

/-- The board of a slot after the marks. -/
theorem State.marked_board {n k : Nat} (hk : k < 32) : (s.marked n).board k = (s.board k).map fun b =>
    if (s.route n).diverts then b.divertFor n else b :=
  ((State.marked_swept n).board k).trans (if_pos (List.mem_range.mpr hk))

theorem State.marked_board_outside {n k : Nat} (hk : 32 ≤ k) : (s.marked n).board k = s.board k :=
  ((State.marked_swept n).board k).trans (if_neg (mt List.mem_range.mp (not_lt.mpr hk)))

theorem State.marked_notices (n : Nat) :
    (s.marked n).notices = (((List.range 32).filter fun k => decide (s.markAt k ≠ (s.marked n).markAt k)).foldl
      (fun u k => u.post (.board k)) s).notices := by
  refine (State.marked_swept n).notices_marks fun b => ?_
  split
  · exact Board.noticed_divertFor n b
  · simp [Board.noticed]

/-- The state after a ROUTE_WRITE has written its entry and made its marks. -/
theorem State.marked_setRoute (i : Instr) (n : Nat) (r : RouteEntry) :
    let m := ((s.take i).setRoute n r).marked n
    m = { s.take i with
      notices := (((List.range 32).filter fun k => decide (s.markAt k ≠ m.markAt k)).foldl
        (fun u k => u.post (.board k)) s).notices
      hold := { s.hold with routing := m.hold.routing }
      tracker := { s.tracker with boards := m.tracker.boards } } := by
  intro m
  let u := (s.take i).setRoute n r
  have rest : m = { u with notices := m.notices, tracker := { u.tracker with boards := m.tracker.boards } } :=
    (State.marked_swept (s := u) n).rest
  have notices := (State.marked_notices (s := u) n).trans (State.posts_notices_congr
    ((List.range 32).filter fun k => decide (s.markAt k ≠ m.markAt k)) (s := s) (t := u) rfl)
  have routing : m.hold.routing = u.hold.routing := by rw [rest]
  refine rest.trans ?_
  rw [show m.notices = _ from notices, routing]
  rfl

/-! ## The requests -/

theorem flagOf_isSome (n : Nat) : (flagOf n).isSome = decide (n ≤ 1) :=
  match n with
  | 0 => rfl
  | 1 => rfl
  | n + 2 => (decide_eq_false (by omega)).symm

theorem flagOf_of_le {n : Nat} (h : n ≤ 1) : flagOf n = some (decide (n = 1)) :=
  match n, h with
  | 0, _ => rfl
  | 1, _ => rfl

theorem actionOf_isSome (n : Nat) : (actionOf n).isSome = decide (n ≤ 2) :=
  match n with
  | 0 => rfl
  | 1 => rfl
  | 2 => rfl
  | n + 3 => (decide_eq_false (by omega)).symm

theorem readRoute_isSome {f : RouteFields} (h : (readRoute f).isSome) :
    f.priority < 16 ∧ f.action ≤ 2 ∧ f.masked ≤ 1 ∧ f.clearOnRelease ≤ 1 := by
  have action := actionOf_isSome f.action
  have masked := flagOf_isSome f.masked
  have clear := flagOf_isSome f.clearOnRelease
  unfold readRoute at h
  split at h
  next ha hm hc =>
    rw [ha] at action
    rw [hm] at masked
    rw [hc] at clear
    split at h
    next hp =>
      exact ⟨of_decide_eq_true hp, of_decide_eq_true action.symm, of_decide_eq_true masked.symm, of_decide_eq_true clear.symm⟩
    next => cases h
  next => cases h

theorem readRoute_of {f : RouteFields} {a : RouteAction} (ha : actionOf f.action = some a) (hp : f.priority < 16)
    (hm : f.masked ≤ 1) (hc : f.clearOnRelease ≤ 1) :
    readRoute f = some ⟨f.priority, a, decide (f.masked = 1), decide (f.clearOnRelease = 1)⟩ := by
  simp only [readRoute, ha, flagOf_of_le hm, flagOf_of_le hc, decide_eq_true hp, if_true]

theorem execRouteWrite_outOfRange {t : Byte} {n : Nat} {f : RouteFields} (hmode : s.line.mode ≠ .initializing)
    (hr : ¬(n < 16 ∧ f.priority < 16 ∧ f.action ≤ 2 ∧ f.masked ≤ 1 ∧ f.clearOnRelease ≤ 1)) :
    execRouteWrite t n f s = .next (s.replied (.routeWrite t n f) 0x1A .outOfRange .empty) := by
  rw [execRouteWrite, State.request_unlessInit, if_neg hmode]
  split
  · rfl
  next r hread =>
    rw [if_neg]
    · rfl
    · exact fun hn => hr ⟨of_decide_eq_true hn, readRoute_isSome (by rw [hread]; rfl)⟩

theorem execRouteWrite_accepted {t : Byte} {n : Nat} {f : RouteFields} {r : RouteEntry} (hmode : s.line.mode ≠ .initializing)
    (hn : n < 16) (hf : readRoute f = some r) :
    execRouteWrite t n f s =
      let i : Instr := .routeWrite t n f
      let s1 := ((s.take i).setRoute n r).divertAll n
      let s2 := reportAll s s1
      let s3 := if (s.route n).masked ∧ !r.masked ∧ s2.boards.any (fun p => p.2.pendingSet.has n) then s2.post .hold else s2
      .next ((s3.answer (s.header i) 0x1A .ok (.routeWrite n
        ((List.range 32).countP fun k => decide (s.blockedAt k ≠ s1.blockedAt k))
        ((List.range 32).countP fun k => decide (s.markAt k ≠ s1.markAt k)))).settle false (s.take i)) := by
  rw [execRouteWrite, State.request_unlessInit, if_neg hmode]
  simp only [hf, show reasonOk n = true from decide_eq_true hn, if_true]
  rfl

theorem execRouteRead_eq {t : Byte} {n : Nat} :
    execRouteRead t n s = .next (
      let i : Instr := .routeRead t n
      if s.line.mode = .initializing then s.replied i 0x1B .wrongMode .empty
      else if reasonOk n then s.replied i 0x1B .ok (.routeRead (s.route n) (decide (n = 1))
        (s.boards.countP fun p => p.2.pendingSet.has n) (s.boards.countP fun p => p.2.inService.has n))
      else s.replied i 0x1B .outOfRange .empty) := by
  rw [execRouteRead, State.request_unlessInit]
  rfl

/-- Settles O42: the write is its three steps, the first of them one sweep over the slots that leaves the state `m` and then the
bay requests. -/
theorem routing : Obligations.Routing := by
  unfold Obligations.Routing
  refine fun t n f s => ⟨fun h => ⟨?_, ?_⟩, fun h => ⟨execRouteWrite_outOfRange h, fun hn => ?_, fun hn => ?_, ?_⟩⟩
  · exact (congrArg Host.Outcome.next (if_pos h) : execRouteWrite t n f s = _)
  · exact execRouteRead_eq.trans (by simp only [h, if_true])
  · refine execRouteRead_eq.trans ?_
    simp only [h, show reasonOk n = false from decide_eq_false (not_lt.mpr hn), Bool.false_eq_true, if_false]
  · refine execRouteRead_eq.trans ?_
    simp only [h, show reasonOk n = true from decide_eq_true hn, if_false, if_true]
  · intro action ha hn hp hm hc r moves
    let u := (s.take (.routeWrite t n f)).setRoute n r
    have entry : u.route n = r := (State.setRoute_route _ n n r).trans (if_pos rfl)
    refine ⟨u.marked n, fun k => ?_, fun k hk => ?_, fun k hk => State.marked_board_outside hk, State.marked_setRoute _ n r, ?_⟩
    · exact (State.marked_route n k).trans (State.setRoute_route _ n k r)
    · refine (State.marked_board hk).trans (congrArg (fun g => Option.map g (s.board k)) (funext fun b => ?_))
      rw [entry]
      by_cases hd : r.diverts
      · rw [if_pos hd, Board.divertFor_eq]
        exact if_congr (and_iff_right hd).symm rfl rfl
      · rw [if_neg hd]
        exact (if_neg fun h => hd h.1).symm
    · intro s1 s2 s3
      have asked : u.divertAll n = s1 := by
        refine State.divertAll_foldl (fun v k b hb hd hl hh => ?_) fun v k hn => ?_
        · rw [entry] at hd
          simp only [hb]
          exact if_pos ⟨hd, hl, hh⟩
        · rw [entry] at hn
          split
          · rfl
          next b hb => exact if_neg fun h => hn ⟨h.1, (State.holdsAtSpray_some hb).mpr h.2⟩
      have shown : (if (s.route n).masked ∧ !r.masked ∧ s2.boards.any (fun p => p.2.pendingSet.has n) then s2.post .hold
          else s2) = s3 := by
        refine if_congr ?_ rfl rfl
        rw [List.any_eq_true, Bool.not_eq_true']
      refine (execRouteWrite_accepted h hn (readRoute_of ha hp hm hc)).trans ?_
      dsimp only
      rw [show ((s.take (.routeWrite t n f)).setRoute n r).divertAll n = s1 from asked,
        show reportAll s s1 = s2 from reportAll_eq s s1, shown]

end Sys2Proof.Machine
end

section
/-! Entering HALTED, block by block: the applicators, the lanes, the boards, the shuttle, and the close of the step, which does
nothing in HALTED. -/

namespace Sys2Proof.Machine

variable {s t : State}

/-! ## The close of a step in HALTED -/

theorem State.startTest_halted (hm : s.line.mode = .halted) (l : Fin 2) : s.startTest l = s := by
  have withheld : ∀ b, s.withhold l b = some .mode := fun b => by
    rw [State.withhold, if_pos (by rw [hm]; exact LineMode.noConfusion)]
  unfold State.startTest
  split
  · rfl
  next slot b _ => simp only [withheld, ite_self]

theorem State.serveLane_halted (hm : s.line.mode = .halted) (l : Fin 2) (hl : (s.lane l).status = .idle) :
    s.serveLane l = s := by
  have asleep : s.wake l = s := by rw [State.wake, if_neg (by rw [hl]; exact LaneStatus.noConfusion)]
  rw [State.serveLane, State.serve]
  simp only [asleep, hm]
  rfl

theorem State.settle_halted (hm : s.line.mode = .halted) (hl : ∀ l, (s.lane l).status = .idle) (p : Bool) (a : State) :
    s.settle p a = s := by
  have drains : s.drainEnd a = s := by rw [State.drainEnd, if_neg (by rw [hm]; exact fun h => LineMode.noConfusion h.1)]
  have still : s.decideShuttle = s := by rw [State.decideShuttle, if_pos (.inr (by rw [hm]; rfl))]
  rw [State.settle, State.serveLane_halted hm 0 (hl 0), State.serveLane_halted hm 1 (hl 1)]
  simp only [drains, still, ite_self]

/-! ## Every applicator changed -/

/-- What it is that `t` is `s` with the applicators of a list changed, each with its APPLICATOR notice. -/
structure State.UnitsSwept (f : Fin 6 → Applicator → Applicator) (as : List (Fin 6)) (s t : State) : Prop where
  unit : ∀ a, t.unit a = if a ∈ as then f a (s.unit a) else s.unit a
  rest : t = { s with notices := t.notices, apps := { s.apps with units := t.apps.units } }

theorem State.modUnit_unit (a c : Fin 6) (f : Applicator → Applicator) :
    (s.modUnit a f).unit c = if c = a then f (s.unit a) else s.unit c := by
  unfold State.modUnit
  dsimp only
  split
  · rw [State.post_record]; exact State.setUnit_unit s a c _
  · exact State.setUnit_unit s a c _

theorem State.modUnit_rest (a : Fin 6) (f : Applicator → Applicator) :
    s.modUnit a f = { s with
      notices := (s.modUnit a f).notices, apps := { s.apps with units := (s.modUnit a f).apps.units } } := by
  unfold State.modUnit
  dsimp only
  split
  · rw [State.post_record]; rfl
  · rfl

theorem State.unitsSwept_foldl (f : Fin 6 → Applicator → Applicator) (as : List (Fin 6)) (ha : as.Nodup) :
    State.UnitsSwept f as s (as.foldl (fun u a => u.modUnit a (f a)) s) := by
  induction as generalizing s with
  | nil => exact { unit := fun a => rfl, rest := rfl }
  | cons a as ih =>
    obtain ⟨hnot, has⟩ := List.nodup_cons.mp ha
    have tail := ih (s := s.modUnit a (f a)) has
    refine { unit := fun c => ?_, rest := ?_ }
    · rw [List.foldl_cons, tail.unit, State.modUnit_unit]
      by_cases hc : c = a
      · subst hc; simp [hnot]
      · simp [hc]
    · rw [List.foldl_cons]
      generalize as.foldl (fun u a => u.modUnit a (f a)) (s.modUnit a (f a)) = t at tail
      rw [tail.rest, State.modUnit_rest]

theorem State.eachUnit_swept (f : Fin 6 → Applicator → Applicator) : State.UnitsSwept f allApps s (s.eachUnit f) :=
  State.unitsSwept_foldl f allApps (by decide)

theorem mem_allApps (a : Fin 6) : a ∈ allApps := by
  revert a
  decide

theorem State.withoutQueue_unit (s : State) (a : Fin 6) :
    ({ s with apps := { s.apps with queue := [] } } : State).unit a = s.unit a := rfl

theorem State.haltApps_unit (a : Fin 6) : s.haltApps.unit a = s.haltUnit a (s.unit a) :=
  (State.withoutQueue_unit (s.eachUnit fun a r => s.haltUnit a r) a).trans
    (((State.eachUnit_swept fun a r => s.haltUnit a r).unit a).trans (if_pos (mem_allApps a)))

theorem State.UnitsSwept.emptyQueue {f : Fin 6 → Applicator → Applicator} {as : List (Fin 6)} (h : State.UnitsSwept f as s t) :
    ∃ notices units, ({ t with apps := { t.apps with queue := [] } } : State) =
      { s with notices := notices, apps := { s.apps with units := units, queue := [] } } :=
  ⟨_, _, congrArg (fun u : State => { u with apps := { u.apps with queue := [] } }) h.rest⟩

theorem State.haltApps_rest : ∃ notices units,
    s.haltApps = { s with notices := notices, apps := { s.apps with units := units, queue := [] } } :=
  (State.eachUnit_swept fun a r => s.haltUnit a r).emptyQueue

/-! ## One applicator at HALT (R59) -/

theorem State.opOf_isSome {a : Fin 6} :
    (s.opOf a).isSome = true ↔ ∃ o, (s.lane (appLane a)).op = some o ∧ o.app = a := by
  rw [State.opOf, Option.isSome_iff_exists]
  simp only [Option.bind_eq_some_iff, Option.ite_none_right_eq_some]
  grind

theorem State.haltUnit_inFlight {a : Fin 6} {r : Applicator} (h : ∃ o, (s.lane (appLane a)).op = some o ∧ o.app = a) :
    s.haltUnit a r = if r.state = .fouled then { r with need := none } else { r with
      state := .fouled, debt := 0, keepWet := none, foulCause := some .halt, need := none } := by
  rw [State.haltUnit, if_pos (State.opOf_isSome.mpr h)]
  rfl

theorem State.haltUnit_free {a : Fin 6} {r : Applicator} (h : ¬∃ o, (s.lane (appLane a)).op = some o ∧ o.app = a) :
    s.haltUnit a r = { s.unwait r with need := none } := by
  rw [State.haltUnit, if_neg (mt State.opOf_isSome.mp h)]

theorem State.unwait_other {r : Applicator} (hc : r.state ≠ .capping) (hu : r.state ≠ .uncapping) : s.unwait r = r := by
  unfold State.unwait
  split
  next h => exact absurd h hc
  next h => exact absurd h hu
  all_goals rfl

theorem State.unwait_uncapping {r : Applicator} (h : r.state = .uncapping) :
    s.unwait r = { r with state := .parked, waiting := none } := by simp only [State.unwait, h]

theorem State.unwait_capping_dry {r : Applicator} (h : r.state = .capping) (hm : r.material = none) :
    s.unwait r = { r with state := .idleDry, waiting := none } := by
  simp only [State.unwait, h, hm]
  rfl

theorem State.unwait_capping_wet {r : Applicator} {m : Nat} (h : r.state = .capping) (hm : r.material = some m) :
    s.unwait r = { r with
      state := .primed, keepWet := some (s.clock + 1000 * (s.mat m).keepWetS), waiting := none } := by
  simp only [State.unwait, h, hm, State.wetted, State.timerFrom]
  rfl

/-! ## One lane (R104, R105) -/

theorem State.post_lane (n : Notice) (k : Fin 2) : (s.post n).lane k = s.lane k := by
  rw [State.post_record]
  rfl

theorem State.setStatus_lane (l k : Fin 2) (st : LaneStatus) :
    (s.setStatus l st).lane k = if k = l then { s.lane l with status := st } else s.lane k := by
  unfold State.setStatus
  dsimp only
  split
  · exact State.modLane_lane s l k _
  · exact (State.post_lane _ k).trans (State.modLane_lane s l k _)

theorem State.setStatus_rest (l : Fin 2) (st : LaneStatus) :
    s.setStatus l st = { s with
      notices := (s.setStatus l st).notices, path := { s.path with lanes := (s.setStatus l st).path.lanes } } := by
  unfold State.setStatus
  dsimp only
  split
  · rfl
  · rw [State.post_record]; rfl

theorem State.idleLane_lane (l k : Fin 2) :
    (s.idleLane l).lane k =
      if k = l then { s.lane l with op := none, status := .idle, arming := clearedArming } else s.lane k := by
  rw [State.idleLane, State.modLane_lane, State.setStatus_lane, State.setStatus_lane, State.modLane_lane, State.modLane_lane]
  split <;> simp

theorem State.idleLane_rest (l : Fin 2) :
    s.idleLane l = { s with
      notices := (s.idleLane l).notices, path := { s.path with lanes := (s.idleLane l).path.lanes } } := by
  rw [State.idleLane, State.setStatus_rest]
  rfl

end Sys2Proof.Machine
end

section
/-! What entering HALTED does to the boards, and HALT and the emergency-stop input (O46). -/

namespace Sys2Proof.Machine

variable {s t : State}

/-! ## One board replaced -/

/-- What it is that `t` is `s` with the board of slot `k` replaced by `b`, and with other notices. -/
structure State.Replaces (k : Nat) (b : Board) (s t : State) : Prop where
  rest : t = { s with notices := t.notices, tracker := { s.tracker with boards := t.tracker.boards } }
  board : ∀ j, t.board j = if j = k then some b else s.board j

theorem State.Replaces.start (k : Nat) (b : Board) : State.Replaces k b s (s.setBoard k (some b)) where
  rest := rfl
  board j := State.setBoard_board s k j _

theorem State.Replaces.post {k : Nat} {b : Board} (h : State.Replaces k b s t) (n : Notice) :
    State.Replaces k b s (t.post n) where
  rest := by rw [State.post_record, h.rest]
  board j := (State.post_board n j).trans (h.board j)

theorem State.Replaces.setBoard {k : Nat} {b : Board} (h : State.Replaces k b s t) (b' : Board) :
    State.Replaces k b' s (t.setBoard k (some b')) where
  rest := by
    have rest := h.rest
    generalize t.notices = n, t.tracker.boards = x at rest
    subst rest
    rfl
  board j := by
    rw [State.setBoard_board, h.board]
    split <;> rfl

theorem State.Replaces.trans {k : Nat} {b b' : Board} {u : State} (h : State.Replaces k b s t) (g : State.Replaces k b' t u) :
    State.Replaces k b' s u where
  rest := by
    have first := h.rest
    have second := g.rest
    generalize t.notices = n, t.tracker.boards = x at first
    subst first
    exact second
  board j := by
    rw [g.board, h.board]
    split <;> rfl

theorem State.Replaces.at {k : Nat} {b : Board} (h : State.Replaces k b s t) : t.board k = some b :=
  (h.board k).trans (if_pos rfl)

theorem State.Replaces.route {k n : Nat} {b : Board} (h : State.Replaces k b s t) : t.route n = s.route n := by
  rw [h.rest]
  rfl

theorem State.Replaces.mode {k : Nat} {b : Board} (h : State.Replaces k b s t) : t.line.mode = s.line.mode := by
  rw [h.rest]

/-! ## A SPRAYING board at HALT -/

/-- The record of a SPRAYING board once the line has entered HALTED (R104, with LANE_ABORT raised by R155). -/
def State.haltedBoard (s : State) (b : Board) : Board :=
  if b.mark ≠ none then { b with interrupted := true, disarmed := false, sprayEnd := some s.clock, life := .flashing }
  else if (s.route 6).diverts then { b with
    life := .flashing, interrupted := true, disarmed := false, mark := some .rework, maskWait := none
    inService := b.inService.join 6 }
  else { b with life := .atSpray, interrupted := true, disarmed := false, pendingSet := b.pendingSet.join 6 }

theorem NumSet.join_of_has {w i : Nat} {x : NumSet w} (h : x.has i = true) : x.join i = x := by
  refine BitVec.eq_of_getLsbD_eq fun j hj => ?_
  rw [NumSet.join, BitVec.getLsbD_or, BitVec.getLsbD_twoPow]
  by_cases hij : i = j
  · subst hij
    rw [show x.getLsbD i = true from h, Bool.true_or]
  · simp [hij]

/-- Reason 6 raised on an unmarked board: under an unmasked DIVERT the mark REWORK, otherwise the pending reason. -/
theorem State.raiseCore_replaces {k n : Nat} {b : Board} (hb : s.board k = some b) (hm : b.mark = none) :
    State.Replaces k (if (s.route n).diverts then { b with mark := some .rework, inService := b.inService.join n }
      else { b with pendingSet := b.pendingSet.join n }) s (s.raiseCore false k n) := by
  by_cases hd : (s.route n).diverts
  · rw [if_pos hd, State.raiseCore_divert hb hd.1 hd.2]
    simp only [hm]
    exact (State.Replaces.start k _).post _
  · rw [if_neg hd]
    cases hmask : (s.route n).masked
    · have other : (s.route n).action ≠ .divert := fun h => hd ⟨hmask, h⟩
      rw [State.raiseCore_pending hb hmask other]
      by_cases hp : b.pendingSet.has n = true
      · rw [if_pos hp, NumSet.join_of_has hp]
        refine { rest := rfl, board := fun j => ?_ }
        split
        next e => rw [e, hb]
        next => rfl
      · rw [if_neg hp]
        exact (State.Replaces.start k _).post _
    · rw [State.raiseCore_masked hb hmask]
      exact State.Replaces.start k _

/-- R104 with R155: LANE_ABORT raised on a board that stands AT_SPRAY again. -/
theorem State.raise_atSpray (hmode : s.line.mode = .halted) {k n : Nat} {b : Board} (hb : s.board k = some b)
    (hl : b.life = .atSpray) (hm : b.mark = none) :
    ∃ v, State.Replaces k (if (s.route n).diverts then { b with
        life := .flashing, mark := some .rework, maskWait := none, inService := b.inService.join n }
      else { b with pendingSet := b.pendingSet.join n }) s v ∧
      s.raise n k = if (s.route n).diverts then v.requestBay k else v := by
  have raised := State.raiseCore_replaces (n := n) hb hm
  by_cases hd : (s.route n).diverts
  · rw [if_pos hd] at raised ⊢
    refine ⟨_, (raised.setBoard _).post (.board k), ?_⟩
    rw [if_pos hd, State.raise, State.react_atSpray raised.at hl, State.reactAtSpray_marked raised.at hl (Option.some_ne_none _)]
  · rw [if_neg hd] at raised ⊢
    refine ⟨_, raised, ?_⟩
    rw [if_neg hd, State.raise, State.react_atSpray raised.at hl,
      State.reactAtSpray_unmarked (b := { b with pendingSet := b.pendingSet.join n }) hm,
      State.startTest_halted (raised.mode.trans hmode), ite_self]

theorem State.haltBoard_spraying (hmode : s.line.mode = .halted) {l : Fin 2} {k : Nat} {b : Board}
    (hb : s.atSprayPos l k b) (hl : b.life = .spraying) :
    ∃ v, State.Replaces k (s.haltedBoard b) s v ∧
      s.haltBoard l = if b.mark ≠ none ∨ (s.route 6).diverts then v.requestBay k else v := by
  obtain ⟨-, hk, -, -, -⟩ := id hb
  have moved : ∀ b' : Board, b'.life ≠ .spraying → b.noticed b' = true := fun b' h =>
    Board.noticed_of_life (by rw [hl]; exact h.symm)
  unfold State.haltBoard
  rw [(s.sprayBoard_eq_some l k b).mpr hb]
  simp only [hl, if_true]
  by_cases hm : b.mark = none
  · let b1 : Board := { b with life := .atSpray, interrupted := true, disarmed := false }
    have first : State.Replaces k b1 s ((s.setBoard k (some b1)).post (.board k)) := (State.Replaces.start k b1).post _
    obtain ⟨v, hv, e⟩ := State.raise_atSpray (n := 6) (first.mode.trans hmode) first.at rfl hm
    rw [first.route] at hv e
    refine ⟨v, ?_, ?_⟩
    · have halted : s.haltedBoard b = if (s.route 6).diverts then { b1 with
          life := .flashing, mark := some .rework, maskWait := none, inService := b1.inService.join 6 }
          else { b1 with pendingSet := b1.pendingSet.join 6 } := if_neg (not_not.mpr hm)
      rw [halted]
      exact first.trans hv
    · rw [hm, s.modBoard_noticed (f := fun b => { b with life := .atSpray, interrupted := true, disarmed := false }) hk
        (moved b1 LifeState.noConfusion)]
      simp only [Option.isSome_none, Bool.false_eq_true, if_false, ne_eq, not_true_eq_false, false_or]
      exact e
  · have halted : s.haltedBoard b =
        { b with interrupted := true, disarmed := false, sprayEnd := some s.clock, life := .flashing } := if_pos hm
    refine ⟨_, (State.Replaces.start k _).post (.board k), ?_⟩
    rw [if_pos (Option.isSome_iff_ne_none.mpr hm), if_pos (.inl hm), State.abandonBoard, State.toFlashing,
      s.modBoard_noticed hk (moved _ LifeState.noConfusion), halted]

/-! ## Bay requests, one after the other -/

theorem State.requestBay_rest (k : Nat) : s.requestBay k = { s with oven := (s.requestBay k).oven } := by
  unfold State.requestBay
  split
  · rw [State.reserve_eq]
  · rfl

/-- A bay request reads the oven and the lane of its board, nothing else. -/
theorem State.requestBay_oven_congr {k : Nat} (ho : t.oven = s.oven)
    (hl : (t.board k).map (·.lane) = (s.board k).map (·.lane)) : (t.requestBay k).oven = (s.requestBay k).oven := by
  have gates : ∀ (x : Option Board) (g : Vector Bool 2) (f : Fin 2 → Vector Bool 2),
      (x.elim g fun b => f b.lane) = (x.map (·.lane)).elim g f := fun x _ _ => by cases x <;> rfl
  have bay : t.emptyBay = s.emptyBay := by
    unfold State.emptyBay State.bay
    rw [ho]
  unfold State.requestBay
  rw [bay]
  split
  next n _ =>
    simp only [State.reserve_eq, ho, gates (t.board k) _ fun l => s.oven.gates.set l true,
      gates (s.board k) _ fun l => s.oven.gates.set l true, hl]
  · simp only [ho]

theorem State.requestBays_oven_congr (ks : List Nat) (ho : t.oven = s.oven)
    (hl : ∀ k ∈ ks, (t.board k).map (·.lane) = (s.board k).map (·.lane)) :
    (ks.foldl (fun v k => v.requestBay k) t).oven = (ks.foldl (fun v k => v.requestBay k) s).oven := by
  induction ks generalizing s t with
  | nil => exact ho
  | cons k ks ih =>
    refine ih (State.requestBay_oven_congr ho (hl k List.mem_cons_self)) fun j hj => ?_
    rw [State.requestBay_board, State.requestBay_board]
    exact hl j (List.mem_cons_of_mem k hj)

theorem State.requestBays_board (ks : List Nat) (j : Nat) : (ks.foldl (fun v k => v.requestBay k) s).board j = s.board j := by
  induction ks generalizing s with
  | nil => rfl
  | cons k ks ih => exact ih.trans (State.requestBay_board k j)

/-! ## The path engine at HALT for one lane -/

/-- The slot of a lane whose board asks for a bay as the line enters HALTED (R104, R14). -/
def State.askAtHalt (s : State) (l : Fin 2) : Option Nat :=
  (s.sprayBoard l).bind fun p =>
    if p.2.life = .spraying ∧ (p.2.mark ≠ none ∨ (s.route 6).masked = false ∧ (s.route 6).action = .divert) then some p.1 else none

/-- What it is that `t` is `s` with lane `l` halted. -/
structure State.LaneHalted (l : Fin 2) (s t : State) : Prop where
  rest : t = { s with
    notices := t.notices, path := { s.path with lanes := t.path.lanes }
    tracker := { s.tracker with boards := t.tracker.boards }, oven := t.oven }
  lane : ∀ k, t.lane k = if k = l then { s.lane l with op := none, status := .idle, arming := clearedArming } else s.lane k
  other : ∀ k, (∀ b, s.atSprayPos l k b → b.life ≠ .spraying) → t.board k = s.board k
  spraying : ∀ k b, s.atSprayPos l k b → b.life = .spraying → t.board k = some (s.haltedBoard b)
  oven : t.oven = ((s.askAtHalt l).toList.foldl (fun v k => v.requestBay k) s).oven

theorem State.atSprayPos_unique {l : Fin 2} {j k : Nat} {b b' : Board} (h : s.atSprayPos l j b) (g : s.atSprayPos l k b') :
    j = k ∧ b = b' := by
  have := ((s.sprayBoard_eq_some l j b).mpr h).symm.trans ((s.sprayBoard_eq_some l k b').mpr g)
  simpa using this

/-- A lane with no SPRAYING board at its spray position: nothing but the lane's own record changes. -/
theorem State.LaneHalted.idle {l : Fin 2} (h : ∀ k b, s.atSprayPos l k b → b.life ≠ .spraying) :
    State.LaneHalted l s (s.idleLane l) where
  rest := by
    rw [State.idleLane_rest]
  lane k := State.idleLane_lane l k
  other k _ := by
    rw [State.idleLane_rest]
    rfl
  spraying k b hb hl := absurd hl (h k b hb)
  oven := by
    have none : s.askAtHalt l = none := by
      refine Option.bind_eq_none_iff.mpr fun p hp => if_neg fun hl => ?_
      exact h p.1 p.2 ((s.sprayBoard_eq_some l p.1 p.2).mp hp) hl.1
    rw [none, State.idleLane_rest]
    rfl

theorem State.haltBoard_still {l : Fin 2} (h : ∀ k b, s.atSprayPos l k b → b.life ≠ .spraying) : s.haltBoard l = s := by
  unfold State.haltBoard
  split
  · rfl
  next k b hb => exact if_neg (h k b ((s.sprayBoard_eq_some l k b).mp hb))

theorem State.haltedBoard_lane (b : Board) : (s.haltedBoard b).lane = b.lane := by
  unfold State.haltedBoard
  split
  · rfl
  · split <;> rfl

theorem State.askAtHalt_some {l : Fin 2} {k : Nat} {b : Board} (hb : s.atSprayPos l k b) (hl : b.life = .spraying) :
    s.askAtHalt l = if b.mark ≠ none ∨ (s.route 6).diverts then some k else none := by
  rw [State.askAtHalt, (s.sprayBoard_eq_some l k b).mpr hb, Option.bind_some]
  exact if_congr (and_iff_right hl) rfl rfl

/-- A lane whose SPRAYING board is replaced and perhaps asks for a bay, `w` being the state with the lane IDLE. -/
theorem State.LaneHalted.of_replaced {l : Fin 2} {k : Nat} {b : Board} {v : State} (hb : s.atSprayPos l k b)
    (hl : b.life = .spraying) (hv : State.Replaces k (s.haltedBoard b) (s.idleLane l) v)
    (ht : t = if b.mark ≠ none ∨ (s.route 6).diverts then v.requestBay k else v) : State.LaneHalted l s t := by
  have vrest : v = { s with
      notices := v.notices, path := { s.path with lanes := v.path.lanes }
      tracker := { s.tracker with boards := v.tracker.boards } } := by
    rw [hv.rest, State.idleLane_rest]
  have trest : t = { v with oven := t.oven } := by
    rw [ht]
    split
    · exact State.requestBay_rest k
    · rfl
  have tboard : ∀ j, t.board j = if j = k then some (s.haltedBoard b) else s.board j := fun j => by
    have same : t.board j = v.board j := by rw [trest]; rfl
    rw [same, hv.board, State.idleLane_rest]
    rfl
  refine { rest := ?_, lane := fun j => ?_, other := fun j hj => ?_, spraying := fun j b' hb' _ => ?_, oven := ?_ }
  · rw [trest, vrest]
  · have same : t.lane j = (s.idleLane l).lane j := by rw [trest, hv.rest]; rfl
    rw [same, State.idleLane_lane]
  · rw [tboard, if_neg]
    rintro rfl
    exact hj b hb hl
  · obtain ⟨rfl, rfl⟩ := State.atSprayPos_unique hb hb'
    rw [tboard, if_pos rfl]
  · have voven : v.oven = s.oven := by rw [vrest]
    have lanes : (v.board k).map (·.lane) = (s.board k).map (·.lane) := by
      obtain ⟨-, hk, -⟩ := hb
      rw [hv.at, hk, Option.map_some, Option.map_some, State.haltedBoard_lane]
    rw [State.askAtHalt_some hb hl, ht]
    split
    · exact State.requestBay_oven_congr voven lanes
    · exact voven

theorem State.haltLane_halted (hmode : s.line.mode = .halted) (l : Fin 2) : State.LaneHalted l s (s.haltLane l) := by
  have rest := State.idleLane_rest (s := s) l
  have mode : (s.idleLane l).line.mode = .halted := by rw [rest]; exact hmode
  have pos : ∀ k b, (s.idleLane l).atSprayPos l k b ↔ s.atSprayPos l k b := fun k b => by rw [rest]; rfl
  have route : (s.idleLane l).route 6 = s.route 6 := by rw [rest]; rfl
  have record : ∀ b, (s.idleLane l).haltedBoard b = s.haltedBoard b := fun b => by
    unfold State.haltedBoard
    rw [route, rest]
  by_cases h : ∃ k b, s.atSprayPos l k b ∧ b.life = .spraying
  · obtain ⟨k, b, hb, hl⟩ := h
    obtain ⟨v, hv, e⟩ := State.haltBoard_spraying mode ((pos k b).mpr hb) hl
    rw [record] at hv
    rw [route] at e
    exact .of_replaced hb hl hv e
  · have none : ∀ k b, s.atSprayPos l k b → b.life ≠ .spraying := fun k b hb hl => h ⟨k, b, hb, hl⟩
    rw [State.haltLane, State.haltBoard_still fun k b hb => none k b ((pos k b).mp hb)]
    exact .idle none

end Sys2Proof.Machine
end

section
/-! The shuttle operation abandoned as the line enters HALTED, and HALT with the emergency-stop input (O46). -/

namespace Sys2Proof.Machine

variable {s t : State}

/-! ## Operations on the board of one slot -/

/-- What it is that `t` is `s` but for the board of slot `k` and the notices. -/
structure State.OnlyAt (k : Nat) (s t : State) : Prop where
  rest : t = { s with notices := t.notices, tracker := { s.tracker with boards := t.tracker.boards } }
  other : ∀ j, j ≠ k → t.board j = s.board j

theorem State.OnlyAt.refl (k : Nat) (s : State) : State.OnlyAt k s s where
  rest := rfl
  other _ _ := rfl

theorem State.OnlyAt.trans {k : Nat} {u : State} (h : State.OnlyAt k s t) (g : State.OnlyAt k t u) : State.OnlyAt k s u where
  rest := by
    have first := h.rest
    have second := g.rest
    generalize t.notices = n, t.tracker.boards = x at first
    subst first
    exact second
  other j hj := (g.other j hj).trans (h.other j hj)

theorem State.onlyAt_post (k : Nat) (n : Notice) : State.OnlyAt k s (s.post n) where
  rest := by rw [State.post_record]
  other j _ := State.post_board n j

theorem State.onlyAt_modBoard (k : Nat) (f : Board → Board) : State.OnlyAt k s (s.modBoard k f) where
  rest := State.modBoard_rest k f
  other j hj := (State.modBoard_board k j f).trans (if_neg hj)

theorem State.onlyAt_modBoardQuiet (k : Nat) (f : Board → Board) : State.OnlyAt k s (s.modBoardQuiet k f) := by
  cases hb : s.board k with
  | none => rw [State.modBoardQuiet_none hb]; exact .refl k s
  | some b =>
    rw [State.modBoardQuiet_some hb]
    exact { rest := rfl, other := fun j hj => (State.setBoard_board s k j _).trans (if_neg hj) }

theorem State.onlyAt_raiseCore (q : Bool) (k n : Nat) : State.OnlyAt k s (s.raiseCore q k n) := by
  unfold State.raiseCore
  split
  · exact .refl k s
  · split
    · exact State.onlyAt_modBoardQuiet k _
    · split
      · dsimp only
        split
        · exact State.onlyAt_modBoardQuiet k _
        · exact State.onlyAt_modBoard k _
      · split
        · exact .refl k s
        · exact (State.onlyAt_modBoardQuiet k _).trans (State.onlyAt_post k _)

theorem State.onlyAt_leaveReady (k : Nat) : State.OnlyAt k s (s.leaveReady k) := by
  unfold State.leaveReady
  split
  · exact .refl k s
  · split
    · exact State.onlyAt_modBoard k _
    · exact .refl k s

theorem State.onlyAt_openExpiry (k : Nat) : State.OnlyAt k s (s.openExpiry k) :=
  ((State.onlyAt_modBoardQuiet k _).trans (State.onlyAt_raiseCore false k 7)).trans (State.onlyAt_leaveReady k)

theorem State.onlyAt_heldOver (k : Nat) : State.OnlyAt k s (s.heldOver k) := by
  unfold State.heldOver
  split
  · exact .refl k s
  · split
    · exact State.onlyAt_openExpiry k
    · exact .refl k s

/-! ## The board that each operation leaves in its slot -/

theorem State.modBoardQuiet_board (k : Nat) (f : Board → Board) : (s.modBoardQuiet k f).board k = (s.board k).map f := by
  cases hb : s.board k with
  | none => rw [State.modBoardQuiet_none hb, hb]; rfl
  | some b => rw [State.modBoardQuiet_some hb, State.setBoard_board, if_pos rfl]; rfl

theorem State.modBoard_board_self (k : Nat) (f : Board → Board) : (s.modBoard k f).board k = (s.board k).map f :=
  (State.modBoard_board k k f).trans (if_pos rfl)

theorem State.raiseCore_board (q : Bool) (k n : Nat) :
    (s.raiseCore q k n).board k = (s.board k).map fun b =>
      if (s.route n).masked then { b with pendingSet := b.pendingSet.join n }
      else if (s.route n).action = .divert then { b.withMark .rework with inService := b.inService.join n }
      else if b.pendingSet.has n then b
      else { b with pendingSet := b.pendingSet.join n } := by
  cases hb : s.board k with
  | none => rw [State.raiseCore, hb, Option.map_none]; exact hb
  | some b =>
    simp only [State.raiseCore, hb, Option.map_some]
    split
    · rw [State.modBoardQuiet_board, hb]; rfl
    · split
      · split
        · rw [State.modBoardQuiet_board, hb]; rfl
        · rw [State.modBoard_board_self, hb]; rfl
      · split
        · exact hb
        · rw [State.post_board, State.modBoardQuiet_board, hb]; rfl

theorem State.leaveReady_board (k : Nat) :
    (s.leaveReady k).board k = (s.board k).map fun b =>
      if b.life = .ovenReady ∧ (s.blocked b ∨ b.mark.isSome ∨ !s.gateOpen b) then { b with life := .flashing } else b := by
  cases hb : s.board k with
  | none => rw [State.leaveReady, hb, Option.map_none]; exact hb
  | some b =>
    simp only [State.leaveReady, hb, Option.map_some]
    split
    · rw [State.modBoard_board_self, hb]; rfl
    · exact hb

/-! ## Two states that agree on what the held-over expiry of a board reads -/

/-- The two states agree on the board of slot `k`, the clock, the routing table and the recipes. -/
structure State.AgreeAt (k : Nat) (s t : State) : Prop where
  board : t.board k = s.board k
  clock : t.clock = s.clock
  hold : t.hold = s.hold
  recipe : t.recipe = s.recipe

theorem State.AgreeAt.route {k : Nat} (h : State.AgreeAt k s t) (n : Nat) : t.route n = s.route n := by
  unfold State.route
  rw [h.hold]

theorem State.AgreeAt.blocked {k : Nat} (h : State.AgreeAt k s t) (b : Board) : t.blocked b = s.blocked b := by
  simp only [State.blocked, h.route]

theorem State.AgreeAt.gateOpen {k : Nat} (h : State.AgreeAt k s t) (b : Board) : t.gateOpen b = s.gateOpen b := by
  unfold State.gateOpen State.cls
  rw [h.recipe]

/-- Operations on slot `k` alone keep the agreement where they leave the same board there. -/
theorem State.AgreeAt.of_onlyAt {k : Nat} {s' t' : State} (h : State.AgreeAt k s t) (hs : State.OnlyAt k s s')
    (ht : State.OnlyAt k t t') (hb : t'.board k = s'.board k) : State.AgreeAt k s' t' where
  board := hb
  clock := by rw [ht.rest, hs.rest]; exact h.clock
  hold := by rw [ht.rest, hs.rest]; exact h.hold
  recipe := by rw [ht.rest, hs.rest]; exact h.recipe

theorem State.AgreeAt.modBoardQuiet {k : Nat} (h : State.AgreeAt k s t) (f : Board → Board) :
    State.AgreeAt k (s.modBoardQuiet k f) (t.modBoardQuiet k f) :=
  h.of_onlyAt (State.onlyAt_modBoardQuiet k f) (State.onlyAt_modBoardQuiet k f)
    (by rw [State.modBoardQuiet_board, State.modBoardQuiet_board, h.board])

theorem State.AgreeAt.raiseCore {k : Nat} (h : State.AgreeAt k s t) (q : Bool) (n : Nat) :
    State.AgreeAt k (s.raiseCore q k n) (t.raiseCore q k n) :=
  h.of_onlyAt (State.onlyAt_raiseCore q k n) (State.onlyAt_raiseCore q k n)
    (by rw [State.raiseCore_board, State.raiseCore_board, h.board, h.route])

theorem State.AgreeAt.leaveReady {k : Nat} (h : State.AgreeAt k s t) : State.AgreeAt k (s.leaveReady k) (t.leaveReady k) :=
  h.of_onlyAt (State.onlyAt_leaveReady k) (State.onlyAt_leaveReady k)
    (by simp only [State.leaveReady_board, h.board, h.blocked, h.gateOpen])

theorem State.AgreeAt.heldOver {k : Nat} (h : State.AgreeAt k s t) : (t.heldOver k).board k = (s.heldOver k).board k := by
  have expiry : (t.openExpiry k).board k = (s.openExpiry k).board k :=
    ((h.modBoardQuiet fun b => { b with openArmed := false }).raiseCore false 7).leaveReady.board
  unfold State.heldOver
  rw [h.board]
  cases hb : s.board k with
  | none => exact h.board
  | some b =>
    simp only [h.clock]
    split
    · exact expiry
    · exact h.board

/-! ## The shuttle at HALT (R134) -/

theorem State.abandonShuttle_none (h : s.oven.shuttle = none) : s.abandonShuttle = s := by
  rw [State.abandonShuttle, h]

theorem State.abandonShuttle_divert {o : ShuttleOp} (h : s.oven.shuttle = some o) (hk : o.kind = .divert) :
    s.abandonShuttle = s.clearShuttle.modBoard o.slot fun b => { b with loc := .bay o.bay } := by
  simp only [State.abandonShuttle, h, hk]

theorem State.abandonShuttle_admission {o : ShuttleOp} (h : s.oven.shuttle = some o) (hk : o.kind = .admission) :
    s.abandonShuttle = s.clearShuttle.heldOver o.slot := by
  simp only [State.abandonShuttle, h, hk]

theorem State.abandonShuttle_onlyAt {o : ShuttleOp} (h : s.oven.shuttle = some o) :
    State.OnlyAt o.slot s.clearShuttle s.abandonShuttle := by
  cases hk : o.kind with
  | admission => rw [State.abandonShuttle_admission h hk]; exact State.onlyAt_heldOver _
  | divert => rw [State.abandonShuttle_divert h hk]; exact State.onlyAt_modBoard _ _

theorem State.clearShuttle_none (h : s.oven.shuttle = none) : s.clearShuttle = s := by
  unfold State.clearShuttle
  rw [← h]

/-- Abandoning the shuttle operation changes the shuttle record, the boards and the notices alone. -/
theorem State.abandonShuttle_rest : s.abandonShuttle = { s with
    notices := s.abandonShuttle.notices
    tracker := { s.tracker with boards := s.abandonShuttle.tracker.boards }
    oven := { s.oven with shuttle := none } } := by
  cases h : s.oven.shuttle with
  | none =>
    have same := State.clearShuttle_none h
    rw [State.abandonShuttle_none h]
    exact same.symm
  | some o => exact (State.abandonShuttle_onlyAt h).rest

theorem State.abandonShuttle_other {k : Nat} (h : ∀ o, s.oven.shuttle = some o → o.slot ≠ k) :
    s.abandonShuttle.board k = s.board k := by
  cases ho : s.oven.shuttle with
  | none => rw [State.abandonShuttle_none ho]
  | some o => exact (State.abandonShuttle_onlyAt ho).other k (h o ho).symm

/-! ## Both lanes at HALT -/

theorem State.LaneHalted.clock {l : Fin 2} (h : State.LaneHalted l s t) : t.clock = s.clock := by rw [h.rest]

theorem State.LaneHalted.route {l : Fin 2} (h : State.LaneHalted l s t) (n : Nat) : t.route n = s.route n := by
  rw [h.rest]
  rfl

theorem State.LaneHalted.mode {l : Fin 2} (h : State.LaneHalted l s t) : t.line.mode = s.line.mode := by rw [h.rest]

theorem State.LaneHalted.haltedBoard {l : Fin 2} (h : State.LaneHalted l s t) (b : Board) :
    t.haltedBoard b = s.haltedBoard b := by
  unfold State.haltedBoard
  rw [h.clock, h.route]

/-- Halting a lane replaces the SPRAYING board of its spray position or leaves the board. -/
theorem State.LaneHalted.board_cases {l : Fin 2} (h : State.LaneHalted l s t) (k : Nat) :
    (∃ b, s.board k = some b ∧ b.lane = l ∧ t.board k = some (s.haltedBoard b)) ∨ t.board k = s.board k := by
  by_cases hs : ∃ b, s.atSprayPos l k b ∧ b.life = .spraying
  · obtain ⟨b, hb, hl⟩ := hs
    obtain ⟨-, hk, lane, -⟩ := id hb
    exact .inl ⟨b, hk, lane, h.spraying k b hb hl⟩
  · exact .inr (h.other k fun b hb hl => hs ⟨b, hb, hl⟩)

theorem State.LaneHalted.lanes {l : Fin 2} (h : State.LaneHalted l s t) (k : Nat) :
    (t.board k).map (·.lane) = (s.board k).map (·.lane) := by
  obtain ⟨b, hb, -, ht⟩ | same := h.board_cases k
  · rw [ht, hb, Option.map_some, Option.map_some, State.haltedBoard_lane]
  · rw [same]

/-- The boards of another lane stay as they are. -/
theorem State.LaneHalted.board_other {l l' : Fin 2} (h : State.LaneHalted l s t) (hne : l' ≠ l) {k : Nat} {b : Board}
    (hl : b.lane = l') : t.board k = some b ↔ s.board k = some b := by
  obtain ⟨b', hb, lane, ht⟩ | same := h.board_cases k
  · have apart : ∀ x : Board, x.lane = l → x ≠ b := by
      rintro x hx rfl
      exact hne (hl.symm.trans hx)
    rw [ht, hb, Option.some_inj, Option.some_inj]
    exact iff_of_false (apart _ ((State.haltedBoard_lane b').trans lane)) (apart _ lane)
  · rw [same]

theorem State.atSprayPos_congr {l : Fin 2} (h : ∀ k b, b.lane = l → (t.board k = some b ↔ s.board k = some b)) (k : Nat)
    (b : Board) : t.atSprayPos l k b ↔ s.atSprayPos l k b := by
  unfold State.atSprayPos
  constructor
  · rintro ⟨hk, hb, hl, hp, low⟩
    exact ⟨hk, (h k b hl).mp hb, hl, hp, fun j b' hj hb' hl' => low j b' hj ((h j b' hl').mpr hb') hl'⟩
  · rintro ⟨hk, hb, hl, hp, low⟩
    exact ⟨hk, (h k b hl).mpr hb, hl, hp, fun j b' hj hb' hl' => low j b' hj ((h j b' hl').mp hb') hl'⟩

theorem State.LaneHalted.atSprayPos {l l' : Fin 2} (h : State.LaneHalted l s t) (hne : l' ≠ l) (k : Nat) (b : Board) :
    t.atSprayPos l' k b ↔ s.atSprayPos l' k b :=
  State.atSprayPos_congr (fun _ _ hl => h.board_other hne hl) k b

theorem State.LaneHalted.askAtHalt {l l' : Fin 2} (h : State.LaneHalted l s t) (hne : l' ≠ l) :
    t.askAtHalt l' = s.askAtHalt l' := by
  have spray : t.sprayBoard l' = s.sprayBoard l' := Option.ext fun p => by
    rw [State.sprayBoard_eq_some, State.sprayBoard_eq_some, h.atSprayPos hne]
  rw [State.askAtHalt, State.askAtHalt, spray, h.route]

/-- What it is that `t` is `s` with both lanes halted. -/
structure State.LanesHalted (s t : State) : Prop where
  rest : t = { s with
    notices := t.notices, path := { s.path with lanes := t.path.lanes }
    tracker := { s.tracker with boards := t.tracker.boards }, oven := t.oven }
  lane : ∀ l, t.lane l = { s.lane l with op := none, status := .idle, arming := clearedArming }
  other : ∀ k, (∀ b, s.board k = some b → b.life ≠ .spraying) → t.board k = s.board k
  spraying : ∀ k b, s.board k = some b → b.life = .spraying → s.atSprayPos b.lane k b → t.board k = some (s.haltedBoard b)
  oven : t.oven = ((([0, 1] : List (Fin 2)).filterMap s.askAtHalt).foldl (fun v k => v.requestBay k) s).oven

theorem State.LaneHalted.both {u : State} (h : State.LaneHalted 0 s t) (g : State.LaneHalted 1 t u) : State.LanesHalted s u where
  rest := by
    have first := h.rest
    have second := g.rest
    generalize t.notices = n, t.path = p, t.tracker.boards = x, t.oven = o at first
    subst first
    exact second
  lane l := by
    rw [g.lane]
    match l with
    | 0 => rw [if_neg (by decide), h.lane, if_pos rfl]
    | 1 => rw [if_pos rfl, h.lane, if_neg (by decide)]
  other k hk := by
    have first : t.board k = s.board k := h.other k fun b hb => hk b hb.2.1
    exact (g.other k fun b hb => hk b (first ▸ hb.2.1)).trans first
  spraying k b hb hl hpos := by
    match hlane : b.lane with
    | 0 =>
      rw [hlane] at hpos
      refine (g.other k fun b' hb' => ?_).trans (h.spraying k b hpos hl)
      obtain ⟨-, hb', lane, -⟩ := (h.atSprayPos (by decide) k b').mp hb'
      cases hb.symm.trans hb'
      exact absurd (hlane.symm.trans lane) (by decide)
    | 1 =>
      rw [hlane] at hpos
      exact (g.spraying k b ((h.atSprayPos (by decide) k b).mpr hpos) hl).trans (congrArg some (h.haltedBoard b))
  oven := by
    have split : ([0, 1] : List (Fin 2)).filterMap s.askAtHalt = (s.askAtHalt 0).toList ++ (s.askAtHalt 1).toList := by
      cases h0 : s.askAtHalt 0 <;> cases h1 : s.askAtHalt 1 <;> simp [h0, h1]
    rw [split, List.foldl_append, g.oven, h.askAtHalt (by decide)]
    refine State.requestBays_oven_congr _ h.oven fun k _ => ?_
    rw [State.requestBays_board, h.lanes]

end Sys2Proof.Machine
end

section
/-! HALT, the emergency-stop input, and entering HALTED (O46), assembled from what each block does. -/

namespace Sys2Proof.Machine

variable {s t : State}

/-! ## Entering HALTED -/

/-- What it is that the line of `s` has entered HALTED with cause `c` and its applicators have acted, nothing else yet. -/
structure State.AppsHalted (c : ChangeCause) (s a : State) : Prop where
  rest : ∃ notices units, a = { s with
    line := { s.line with mode := .halted, lastChange := ⟨s.line.mode, .halted, c, s.clock⟩ }
    notices := notices, apps := { s.apps with units := units, queue := [] } }
  unit : ∀ i, a.unit i = s.haltUnit i (s.unit i)

theorem State.haltApps_halted (c : ChangeCause) : State.AppsHalted c s (s.setMode .halted c).haltApps where
  rest := State.haltApps_rest
  unit i := State.haltApps_unit i

theorem State.AppsHalted.mode {c : ChangeCause} (h : State.AppsHalted c s t) : t.line.mode = .halted := by
  obtain ⟨_, _, e⟩ := h.rest
  rw [e]

theorem State.abandonShuttle_lane (l : Fin 2) : s.abandonShuttle.lane l = s.lane l := by
  rw [State.abandonShuttle_rest]
  rfl

theorem State.LanesHalted.mode (h : State.LanesHalted s t) : t.line.mode = s.line.mode := by rw [h.rest]

/-- With both lanes IDLE in HALTED the close of the step does nothing. -/
theorem State.LanesHalted.settle (h : State.LanesHalted s t) (hm : s.line.mode = .halted) (p : Bool) (s0 : State) :
    t.abandonShuttle.settle p s0 = t.abandonShuttle := by
  refine State.settle_halted ?_ (fun l => ?_) p s0
  · rw [State.abandonShuttle_rest]
    exact h.mode.trans hm
  · rw [State.abandonShuttle_lane, h.lane]

theorem State.lanesHalted (hm : s.line.mode = .halted) : State.LanesHalted s ((s.haltLane 0).haltLane 1) :=
  have first := State.haltLane_halted hm 0
  first.both (State.haltLane_halted (first.mode.trans hm) 1)

/-- The blocks in their order, with nothing left for the close of the step. -/
theorem State.enterHalted_eq (c : ChangeCause) : ∃ a t, State.AppsHalted c s a ∧ State.LanesHalted a t ∧
    s.enterHalted c = t.abandonShuttle := by
  have apps := State.haltApps_halted (s := s) c
  have lanes := State.lanesHalted apps.mode
  exact ⟨_, _, apps, lanes, lanes.settle apps.mode false s⟩

theorem State.requestBay_shuttle (k : Nat) : (s.requestBay k).oven.shuttle = s.oven.shuttle := by
  unfold State.requestBay
  split
  · rw [State.reserve_eq]
  · rfl

theorem State.requestBays_shuttle (ks : List Nat) :
    (ks.foldl (fun v k => v.requestBay k) s).oven.shuttle = s.oven.shuttle := by
  induction ks generalizing s with
  | nil => rfl
  | cons k ks ih => exact ih.trans (State.requestBay_shuttle k)

theorem State.LanesHalted.shuttle (h : State.LanesHalted s t) : t.oven.shuttle = s.oven.shuttle := by
  rw [h.oven, State.requestBays_shuttle]

/-! ## What the applicators leave for the other blocks -/

section
variable {c : ChangeCause} (h : State.AppsHalted c s t)
include h

theorem State.AppsHalted.board (k : Nat) : t.board k = s.board k := by
  obtain ⟨_, _, e⟩ := h.rest
  rw [e]
  rfl

theorem State.AppsHalted.lane (l : Fin 2) : t.lane l = s.lane l := by
  obtain ⟨_, _, e⟩ := h.rest
  rw [e]
  rfl

theorem State.AppsHalted.oven : t.oven = s.oven := by
  obtain ⟨_, _, e⟩ := h.rest
  rw [e]

theorem State.AppsHalted.haltedBoard (b : Board) : t.haltedBoard b = s.haltedBoard b := by
  obtain ⟨_, _, e⟩ := h.rest
  rw [e]
  rfl

theorem State.AppsHalted.askAtHalt : t.askAtHalt = s.askAtHalt := by
  obtain ⟨_, _, e⟩ := h.rest
  rw [e]
  rfl

theorem State.AppsHalted.atSprayPos (l : Fin 2) (k : Nat) (b : Board) : t.atSprayPos l k b ↔ s.atSprayPos l k b := by
  obtain ⟨_, _, e⟩ := h.rest
  rw [e]
  rfl

end

/-! ## The state in HALTED, part by part -/

section
variable {c : ChangeCause} {a : State} (h : State.AppsHalted c s a) (g : State.LanesHalted a t)
include h g

theorem State.halted_rest : ∃ notices units lanes boards oven, t.abandonShuttle = { s with
    line := { s.line with mode := .halted, lastChange := ⟨s.line.mode, .halted, c, s.clock⟩ }
    notices := notices, apps := { s.apps with units := units, queue := [] }
    path := { s.path with lanes := lanes }, tracker := { s.tracker with boards := boards }, oven := oven } := by
  obtain ⟨_, _, e⟩ := h.rest
  rw [State.abandonShuttle_rest, g.rest, e]
  exact ⟨_, _, _, _, _, rfl⟩

theorem State.halted_unit (i : Fin 6) : t.abandonShuttle.unit i = s.haltUnit i (s.unit i) := by
  rw [State.abandonShuttle_rest, g.rest]
  exact h.unit i

theorem State.halted_lane (l : Fin 2) :
    t.abandonShuttle.lane l = { s.lane l with op := none, status := .idle, arming := clearedArming } := by
  rw [State.abandonShuttle_lane, g.lane, h.lane]

theorem State.halted_shuttle : t.oven.shuttle = s.oven.shuttle := by rw [g.shuttle, h.oven]

theorem State.halted_still {k : Nat} (hk : ∀ b, s.board k = some b → b.life ≠ .spraying) : t.board k = s.board k :=
  (g.other k fun b hb => hk b (h.board k ▸ hb)).trans (h.board k)

/-- A board that neither is SPRAYING nor stands on the shuttle stays as it is. -/
theorem State.halted_other {k : Nat} (hk : ∀ b, s.board k = some b → b.life ≠ .spraying)
    (hs : ∀ o, s.oven.shuttle = some o → o.slot ≠ k) : t.abandonShuttle.board k = s.board k :=
  (State.abandonShuttle_other fun o ho => hs o (State.halted_shuttle h g ▸ ho)).trans (State.halted_still h g hk)

theorem State.halted_spraying (carried : ∀ o b, s.oven.shuttle = some o → s.board o.slot = some b → b.life ≠ .spraying)
    {k : Nat} {b : Board} (hb : s.board k = some b) (hl : b.life = .spraying) (hp : s.atSprayPos b.lane k b) :
    t.abandonShuttle.board k = some (s.haltedBoard b) := by
  have apart : ∀ o, t.oven.shuttle = some o → o.slot ≠ k := by
    rintro o ho rfl
    exact carried o b (State.halted_shuttle h g ▸ ho) hb hl
  rw [State.abandonShuttle_other apart, g.spraying k b ((h.board k).trans hb) hl ((h.atSprayPos _ k b).mpr hp), h.haltedBoard]

theorem State.halted_divert {o : ShuttleOp} {b : Board} (ho : s.oven.shuttle = some o) (hk : o.kind = .divert)
    (hb : s.board o.slot = some b) (hl : b.life ≠ .spraying) :
    t.abandonShuttle.board o.slot = some { b with loc := .bay o.bay } := by
  have still : t.board o.slot = some b :=
    (State.halted_still h g fun b' hb' => by cases hb.symm.trans hb'; exact hl).trans hb
  rw [State.abandonShuttle_divert ((State.halted_shuttle h g).trans ho) hk, State.modBoard_board_self]
  exact congrArg (Option.map _) still

theorem State.halted_admission {o : ShuttleOp} (ho : s.oven.shuttle = some o) (hk : o.kind = .admission)
    (hl : ∀ b, s.board o.slot = some b → b.life ≠ .spraying) :
    t.abandonShuttle.board o.slot = (s.heldOver o.slot).board o.slot := by
  have agree : State.AgreeAt o.slot s t.clearShuttle := by
    obtain ⟨_, _, e⟩ := h.rest
    refine { board := State.halted_still h g hl, clock := ?_, hold := ?_, recipe := ?_ }
    all_goals
      unfold State.clearShuttle
      rw [g.rest, e]
  rw [State.abandonShuttle_admission ((State.halted_shuttle h g).trans ho) hk]
  exact agree.heldOver

theorem State.halted_oven : t.abandonShuttle.oven = { ((([0, 1] : List (Fin 2)).filterMap s.askAtHalt).foldl
    (fun v k => v.requestBay k) s).oven with shuttle := none } := by
  have oven : t.oven = ((([0, 1] : List (Fin 2)).filterMap s.askAtHalt).foldl (fun v k => v.requestBay k) s).oven := by
    rw [g.oven, h.askAtHalt]
    exact State.requestBays_oven_congr _ h.oven fun k _ => by rw [h.board]
  rw [State.abandonShuttle_rest]
  exact congrArg (fun o : Oven => { o with shuttle := none }) oven

end

/-! ## HALT and the input -/

theorem execHalt_eq (b : Byte) : execHalt b s = .next (
    let i : Instr := .halt b
    if s.line.mode = .initializing then s.replied i 0x04 .wrongMode .empty
    else if s.line.mode = .halted then s.replied i 0x04 .ok (.modeBefore .halted)
    else ((s.take i).enterHalted .halt).answer (s.header i) 0x04 .ok (.modeBefore s.line.mode)) := by
  rw [execHalt, State.request_unlessInit]
  rfl

theorem State.estopChange_same : s.estopChange s.line.estop = s := if_pos rfl

theorem State.estopChange_new {e : Bool} (h : e ≠ s.line.estop) :
    s.estopChange e =
      let u : State := { s with line := { s.line with estop := e } }
      if s.line.mode = .initializing then u
      else if e = false ∨ s.line.mode = .halted then u.post .line
      else (u.enterHalted .estop).post .line := by
  rw [State.estopChange, if_neg h.symm]
  cases hm : s.line.mode <;> cases e <;> simp

/-- Settles O46: entering HALTED block by block, then the three requests and inputs by mode. -/
theorem haltAndEstop : Obligations.HaltAndEstop := by
  unfold Obligations.HaltAndEstop
  refine ⟨fun s c spraying carried => ?_, fun b s => ⟨fun h => ?_, fun h => ?_, fun h hh => ?_, ?_, fun e he => ⟨fun h => ?_,
    fun h hq => ?_, fun h ha hh => ?_⟩⟩⟩
  · intro u diverts asks inFlight
    obtain ⟨a, t, apps, lanes, hu⟩ := State.enterHalted_eq (s := s) c
    replace hu : u = t.abandonShuttle := hu
    clear_value u
    subst hu
    obtain ⟨notices, units, path, boards, oven, rest⟩ := State.halted_rest apps lanes
    have unit := State.halted_unit apps lanes
    have carry : ∀ o, s.oven.shuttle = some o → ∀ b, s.board o.slot = some b → b.life ≠ .spraying :=
      fun o ho b hb => carried o b ho hb
    refine ⟨?_, State.halted_lane apps lanes, ?_, ?_, ?_, fun i hi hf => ?_, fun i hi hf => ?_, fun i hi hc hn => ?_,
      fun i hi hn => ?_, fun i hi hc hm => ?_, fun i m hi hc hm => ?_, fun k b hb hl hm hd => ?_, fun k b hb hl hm hd => ?_,
      fun k b m hb hl hm => ?_, fun k hk hs => State.halted_other apps lanes hk hs,
      fun o b ho hk hb => State.halted_divert apps lanes ho hk hb (carry o ho b hb),
      fun o ho hk => State.halted_admission apps lanes ho hk (carry o ho), State.halted_oven apps lanes,
      ?_, ?_, ?_, ?_, ?_, ?_, ?_, ?_, ?_, ?_⟩
    · rw [rest]
    · rw [rest]
    · rw [rest]
    · rw [rest]
    · rw [unit, State.haltUnit_inFlight hi, if_pos hf]
    · rw [unit, State.haltUnit_inFlight hi, if_neg hf]
    · rw [unit, State.haltUnit_free hi, State.unwait_other hc hn]
    · rw [unit, State.haltUnit_free hi, State.unwait_uncapping hn]
    · rw [unit, State.haltUnit_free hi, State.unwait_capping_dry hc hm]
    · rw [unit, State.haltUnit_free hi, State.unwait_capping_wet hc hm]
    · rw [State.halted_spraying apps lanes carried hb hl (spraying k b hb hl), State.haltedBoard,
        if_neg (not_not.mpr hm), if_neg hd]
    · rw [State.halted_spraying apps lanes carried hb hl (spraying k b hb hl), State.haltedBoard,
        if_neg (not_not.mpr hm), if_pos hd]
    · rw [State.halted_spraying apps lanes carried hb hl (spraying k b hb hl), State.haltedBoard,
        if_pos (by rw [hm]; exact Option.some_ne_none m)]
    all_goals rw [rest]
  · exact (execHalt_eq b).trans (by rw [if_pos h])
  · exact (execHalt_eq b).trans (by rw [h]; rfl)
  · exact (execHalt_eq b).trans (by rw [if_neg h, if_neg hh])
  · exact congrArg Host.Outcome.next State.estopChange_same
  · exact congrArg Host.Outcome.next ((State.estopChange_new he).trans (if_pos h))
  · exact congrArg Host.Outcome.next ((State.estopChange_new he).trans ((if_neg h).trans (if_pos hq)))
  · refine congrArg Host.Outcome.next ((State.estopChange_new he).trans ((if_neg h).trans (if_neg ?_)))
    rintro (off | halted)
    · exact Bool.false_ne_true (off.symm.trans ha)
    · exact hh halted

end Sys2Proof.Machine
end

section
/-! LINE_RESET: what each block clears and keeps (O49). -/

namespace Sys2Proof.Machine

variable {s : State} {a : Fin 6}

/-! ## One applicator (R60, R61) -/

/-- An applicator that LINE_RESET fouls: material, parked-wet and cap time stand. -/
def Applicator.resetFouled (r : Applicator) : Applicator := { r with
  state := .fouled, debt := 0, keepWet := none, foulCause := some .lineReset, need := none }

theorem State.lineReset_unit (a : Fin 6) : s.lineReset.unit a = s.resetUnit a := by
  simp [State.unit, State.lineReset, Vector.get_eq_getElem]

theorem State.resetUnit_inFlight (h : (s.opOf a).isSome = true) (hf : (s.unit a).state ≠ .fouled) :
    s.resetUnit a = (s.unit a).resetFouled := by
  rw [State.resetUnit, if_pos h, if_neg hf]
  rfl

/-- With no operation of its own in flight an applicator first gives up its wait, and is fouled where that leaves it PRIMED. -/
theorem State.resetUnit_free (h : ¬(s.opOf a).isSome = true) :
    s.resetUnit a = if (s.unwait (s.unit a)).state = .primed then (s.unwait (s.unit a)).resetFouled
      else { s.unwait (s.unit a) with need := none } := by
  rw [State.resetUnit, if_neg h]
  rfl

theorem State.resetUnit_primed (h : ¬(s.opOf a).isSome = true) (hp : (s.unit a).state = .primed) :
    s.resetUnit a = (s.unit a).resetFouled := by
  have still : s.unwait (s.unit a) = s.unit a := State.unwait_other (by simp [hp]) (by simp [hp])
  rw [State.resetUnit_free h, still, if_pos hp]

theorem State.resetUnit_capping_wet (h : ¬(s.opOf a).isSome = true) (hc : (s.unit a).state = .capping)
    (hm : (s.unit a).material ≠ none) : s.resetUnit a = { s.unit a with waiting := none }.resetFouled := by
  obtain ⟨m, hm⟩ := Option.ne_none_iff_exists'.mp hm
  rw [State.resetUnit_free h, State.unwait_capping_wet hc hm]
  rfl

theorem State.resetUnit_capping_dry (h : ¬(s.opOf a).isSome = true) (hc : (s.unit a).state = .capping)
    (hm : (s.unit a).material = none) :
    s.resetUnit a = { s.unit a with state := .idleDry, waiting := none, need := none } := by
  rw [State.resetUnit_free h, State.unwait_capping_dry hc hm]
  rfl

theorem State.resetUnit_uncapping (h : ¬(s.opOf a).isSome = true) (hu : (s.unit a).state = .uncapping) :
    s.resetUnit a = { s.unit a with state := .parked, waiting := none, need := none } := by
  rw [State.resetUnit_free h, State.unwait_uncapping hu]
  rfl

theorem State.resetUnit_other (h : ¬(s.opOf a).isSome = true) (hp : (s.unit a).state ≠ .primed)
    (hc : (s.unit a).state ≠ .capping) (hu : (s.unit a).state ≠ .uncapping) :
    s.resetUnit a = { s.unit a with need := none } := by
  rw [State.resetUnit_free h, State.unwait_other hc hu, if_neg hp]

/-- An applicator already FOULED only loses its need, whether or not an operation is in flight. -/
theorem State.resetUnit_fouled (hf : (s.unit a).state = .fouled) : s.resetUnit a = { s.unit a with need := none } := by
  by_cases h : (s.opOf a).isSome = true
  · rw [State.resetUnit, if_pos h, if_pos hf]
  · exact State.resetUnit_other h (by simp [hf]) (by simp [hf]) (by simp [hf])

/-- Giving up a wait fouls no applicator. -/
theorem State.unwait_state_fouled {r : Applicator} : (s.unwait r).state = .fouled ↔ r.state = .fouled := by
  by_cases hc : r.state = .capping
  · cases hm : r.material with
    | none => simp [State.unwait_capping_dry hc hm, hc]
    | some m => simp [State.unwait_capping_wet hc hm, hc]
  · by_cases hu : r.state = .uncapping
    · simp [State.unwait_uncapping hu, hu]
    · rw [State.unwait_other hc hu]

/-- The applicators that the reply counts are those that become FOULED. -/
theorem State.resetFouls_eq (a : Fin 6) :
    s.resetFouls a = decide ((s.lineReset.unit a).state = .fouled ∧ (s.unit a).state ≠ .fouled) := by
  rw [State.lineReset_unit]
  by_cases hf : (s.unit a).state = .fouled
  · have primed : (s.unwait (s.unit a)).state ≠ .primed := by simp [State.unwait_state_fouled.mpr hf]
    simp [State.resetFouls, hf, primed]
  · by_cases h : (s.opOf a).isSome = true
    · simp [State.resetFouls, h, hf, State.resetUnit_inFlight, Applicator.resetFouled]
    · rw [State.resetFouls, if_neg h, State.resetUnit_free h]
      split <;> simp [*, Applicator.resetFouled, State.unwait_state_fouled]

/-! ## The other blocks -/

theorem State.boards_length : s.boards.length = (List.range 32).countP fun k => (s.board k).isSome := by
  rw [State.boards, List.length_filterMap_eq_countP]
  simp only [Option.isSome_map]
  rfl

theorem State.lineReset_queueOf (l : Fin 2) : s.lineReset.queueOf l = [] := by
  simp [State.queueOf, State.lineReset, Vector.get_eq_getElem]

theorem State.lineReset_bay (n : Fin 8) : s.lineReset.bay n = .empty := by
  simp [State.bay, State.lineReset, Vector.get_eq_getElem]

theorem State.lineReset_gate (l : Fin 2) : s.lineReset.oven.gates.get l = false := by
  simp [State.lineReset, Vector.get_eq_getElem]

/-! ## The request -/

theorem execLineReset_refused (t : Byte) (hc : s.line.mode ≠ .config) (hh : s.line.mode ≠ .halted) :
    execLineReset t s = .next (s.replied (.lineReset t) 0x06 .wrongMode .empty) := by
  rw [execLineReset, State.request_unlessInit]
  refine congrArg Host.Outcome.next ?_
  split
  · rfl
  · exact if_neg (not_or.mpr ⟨hc, hh⟩)

theorem execLineReset_accepted (t : Byte) (h : s.line.mode = .config ∨ s.line.mode = .halted) :
    execLineReset t s =
      let i : Instr := .lineReset t
      let u := (s.take i).lineReset
      .next (u.answer (s.header i) 0x06 .ok (.lineReset
        ((List.range 32).countP fun k => (s.board k).isSome)
        (allApps.countP fun a => decide ((u.unit a).state = .fouled ∧ (s.unit a).state ≠ .fouled)))) := by
  have started : s.line.mode ≠ .initializing := fun hi => by simp [hi] at h
  rw [execLineReset, State.request_unlessInit, if_neg started,
    if_pos (show (s.take _).line.mode = .config ∨ (s.take _).line.mode = .halted from h),
    State.boards_length, funext State.resetFouls_eq]
  rfl

/-- Settles O49: the reset is one record, read block by block; an applicator by its state and whether an operation of its own
is in flight. -/
theorem lineReset : Obligations.LineReset := by
  unfold Obligations.LineReset
  refine fun t s => ⟨execLineReset_refused t, fun hm canonical => ?_⟩
  let v : State := s.take (.lineReset t)
  have unit : ∀ a, v.lineReset.unit a = v.resetUnit a := State.lineReset_unit
  have flying : ∀ {a}, (∃ o, (s.lane (appLane a)).op = some o ∧ o.app = a) → (v.opOf a).isSome = true :=
    State.opOf_isSome.mpr
  have free : ∀ {a}, ¬(∃ o, (s.lane (appLane a)).op = some o ∧ o.app = a) → ¬(v.opOf a).isSome = true :=
    mt State.opOf_isSome.mp
  refine ⟨v.lineReset, execLineReset_accepted t hm, fun _ => rfl, State.lineReset_queueOf, rfl, rfl,
    State.lineReset_cls (s := v) { canonical with }, rfl, rfl, rfl, fun a hi hf => ?_, fun a hi hp => ?_,
    fun a hi hc hw => ?_, fun a hi hc hd => ?_, fun a hi hu => ?_, fun a h => ?_, State.lineReset_lane,
    State.lineReset_bay, State.lineReset_gate, rfl, rfl, rfl, rfl, rfl, rfl, rfl, rfl, rfl, rfl, rfl,
    rfl, rfl, rfl, rfl, rfl, rfl, rfl⟩
  · exact (unit a).trans (State.resetUnit_inFlight (flying hi) hf)
  · exact (unit a).trans (State.resetUnit_primed (free hi) hp)
  · exact (unit a).trans (State.resetUnit_capping_wet (free hi) hc hw)
  · exact (unit a).trans (State.resetUnit_capping_dry (free hi) hc hd)
  · exact (unit a).trans (State.resetUnit_uncapping (free hi) hu)
  · obtain hf | ⟨hi, hw, hc, hu⟩ := h
    · exact (unit a).trans (State.resetUnit_fouled hf)
    · exact (unit a).trans (State.resetUnit_other (free hi) (fun hp => hw (.inl hp)) hc hu)

end Sys2Proof.Machine
end

section
/-! The recipe store: CLASS_WRITE (O5), MATERIAL_WRITE (O6) and the two reads (O7). A write is its table of tests and the record
that its fields spell; both are said once, as data, and the model's nested tests are shown to be that table. -/

namespace Sys2Proof.Machine

variable (s : State)

/-! ## A table of tests with a value -/

/-- What a table of tests answers: the code of the first that fails, and a value where none does. -/
def tested {α : Type} (ts : List (Bool × ResultCode)) (r : α) : Except ResultCode α := (firstFailure ts).elim (.ok r) .error

theorem tested_nil {α : Type} (r : α) : tested [] r = .ok r := rfl

theorem tested_cons {α : Type} (x : Bool) (c : ResultCode) (ts : List (Bool × ResultCode)) (r : α) :
    tested ((x, c) :: ts) r = if !x then .error c else tested ts r := by cases x <;> rfl

/-- The step of a request that is a table of tests after the mode test, and then one update of the state. -/
theorem State.request_tested {α : Type} {i : Instr} {kind : Nat} {f : Header → State → State} {accepted : α → State}
    {result : Except ResultCode α} {ts : List (Bool × ResultCode)} {r : α} (h : result = tested ts r)
    (fails : ∀ code, result = .error code → f (s.header i) (s.take i) = s.replied i kind code .empty)
    (passes : ∀ r, result = .ok r → f (s.header i) (s.take i) = accepted r) :
    s.request i (fun d u => u.unlessInit d kind (f d)) =
      .next ((firstFailure ((decide (s.line.mode ≠ .initializing), .wrongMode) :: ts)).elim (accepted r)
        fun code => s.replied i kind code .empty) := by
  rw [State.request_unlessInit, firstFailure_cons]
  refine congrArg Host.Outcome.next ?_
  by_cases hm : s.line.mode = .initializing
  · simp [hm]
  · rw [if_neg hm, if_pos (decide_eq_true hm)]
    cases hf : firstFailure ts with
    | none => exact passes r (by rw [h, tested, hf]; rfl)
    | some code => exact fails code (by rw [h, tested, hf]; rfl)

/-! ## Fields -/

theorem flagOf_of_lt {n : Nat} (h : n < 2) : flagOf n = some (decide (n = 1)) := flagOf_of_le (Nat.le_of_lt_succ h)

theorem flagOf_of_ge {n : Nat} (h : ¬n < 2) : flagOf n = none :=
  Option.not_isSome_iff_eq_none.mp (by rw [flagOf_isSome, decide_eq_true_eq]; omega)

/-! ## The slots of a class (R25) -/

/-- A slot within its ranges. -/
def slotFits (x : SlotFields) : Bool :=
  decide (x.material < 8 ∧ 1 ≤ x.required ∧ x.required ≤ 16000 ∧ x.required ≤ x.maximum ∧ x.maximum ≤ 16777)

/-- The slot that the fields spell. -/
def spelledSlot (x : SlotFields) : MatSlot := ⟨x.material, x.required, x.maximum⟩

theorem readSlot_eq (x : SlotFields) : readSlot x = if slotFits x then some (spelledSlot x) else none := by
  have ranges : (materialOk x.material && within 1 16000 x.required && within x.required 16777 x.maximum) = slotFits x := by
    simp [slotFits, Bool.decide_and, Bool.and_assoc]
  rw [readSlot, ranges]
  rfl

/-- One slot or two, as the material count says, each in range and of different materials. -/
def slotsFit (f : ClassFields) : Bool :=
  match f.slot1, f.slot2 with
  | some a, none => decide (f.count = 1) && slotFits a
  | some a, some b => decide (f.count = 2 ∧ a.material ≠ b.material) && slotFits a && slotFits b
  | none, _ => false

theorem readSlots_eq (f : ClassFields) :
    readSlots f = if slotsFit f then some (f.slot1.map spelledSlot, f.slot2.map spelledSlot) else none := by
  unfold readSlots slotsFit
  split
  next a hn ha hb =>
    simp only [hn, ha, hb, readSlot_eq, decide_true, Bool.true_and]
    cases slotFits a <;> rfl
  next a b hn ha hb =>
    simp only [hn, ha, hb, readSlot_eq]
    cases slotFits a <;> cases slotFits b <;> by_cases hm : a.material = b.material <;> simp [spelledSlot, hm]
  next h1 h2 =>
    split
    next a ha hb =>
      have : f.count ≠ 1 := fun hn => h1 a hn ha hb
      simp [this]
    next a b ha hb =>
      have : f.count ≠ 2 := fun hn => h2 a b hn ha hb
      simp [this]
    next => rfl

/-! ## The record of a class (R27) -/

/-- Test 4 of R27 on a class written valid. -/
def classFits (f : ClassFields) : Bool :=
  decide (f.valid = 1 ∧ f.dflt < 2 ∧ f.gateLimit < 65536 ∧ 1 ≤ f.flowCap ∧ f.flowCap ≤ 15 ∧
    f.passLimit ≤ 2 ∧ 1 ≤ f.maskWait ∧ f.maskWait ≤ 600 ∧ 100 ≤ f.timeout ∧ f.timeout ≤ 25500 ∧
    f.timeout % 100 = 0 ∧ f.inspect < 2) && slotsFit f

/-- The valid record that the fields spell, unused. -/
def spelledClass (f : ClassFields) : ClassRecord := {
  valid := true, count := f.count, slot1 := f.slot1.map spelledSlot, slot2 := f.slot2.map spelledSlot, sites := f.sites,
  keepOut := decide (f.dflt = 1), gateLimit := f.gateLimit, flowCap := f.flowCap, passLimit := f.passLimit,
  maskWait := f.maskWait, timeout := f.timeout, inspect := decide (f.inspect = 1), useCount := 0 }

theorem readClass_eq {f : ClassFields} (hv : f.valid = 1) :
    readClass f = if classFits f then some (spelledClass f) else none := by
  rw [readClass, readSlots_eq]
  by_cases hs : slotsFit f = true
  · by_cases hi : f.inspect < 2
    · by_cases hd : f.dflt < 2
      · have ranges : (decide (f.gateLimit ≤ 65535) && within 1 15 f.flowCap && decide (f.passLimit ≤ 2) &&
            within 1 600 f.maskWait && within 100 25500 f.timeout && decide (f.timeout % 100 = 0)) = classFits f := by
          simp [classFits, Bool.decide_and, Bool.and_assoc, hv, hs, hi, hd, Nat.lt_succ_iff]
        simp only [hs, if_true, flagOf_of_lt hi, flagOf_of_lt hd, ranges]
        rfl
      · simp [flagOf_of_ge hd, classFits, hd]
    · simp [flagOf_of_ge hi, classFits, hi]
  · simp [hs, classFits]

theorem spelledClass_materials_all (f : ClassFields) (p : Nat → Bool) :
    (spelledClass f).materials.all p = (f.slot1.toList ++ f.slot2.toList).all fun x => p x.material := by
  simp only [ClassRecord.materials, spelledClass]
  cases f.slot1 <;> cases f.slot2 <;> rfl

/-- Test 6 of R27 on the fields; one slot passes. -/
def fieldsPair (mat : Nat → MaterialRecord) (f : ClassFields) : Bool :=
  match f.slot1, f.slot2 with
  | some a, some b => decide (max (mat a.material).flashMinS (mat b.material).flashMinS <
      min (mat a.material).openMaxS (mat b.material).openMaxS)
  | _, _ => true

theorem spelledClass_pairing (f : ClassFields) (mat : Nat → MaterialRecord) :
    (spelledClass f).pairing mat = fieldsPair mat f := by
  simp only [ClassRecord.pairing, spelledClass, fieldsPair]
  cases f.slot1 <;> cases f.slot2 <;> rfl

/-! ## CLASS_WRITE -/

theorem State.classTests_eq {f : ClassFields} (hv : f.valid = 1) :
    s.classTests f = tested [
      (classFits f, .outOfRange),
      ((f.slot1.toList ++ f.slot2.toList).all fun x => (s.mat x.material).valid, .notFound),
      (fieldsPair s.mat f, .outOfRange)] (spelledClass f) := by
  rw [State.classTests, readClass_eq hv, tested_cons]
  cases classFits f with
  | false => rfl
  | true =>
    simp only [if_true, spelledClass_materials_all, spelledClass_pairing, tested_cons, tested_nil]
    rfl

/-- What an accepted CLASS_WRITE stores. -/
def writtenClass (f : ClassFields) : ClassRecord := if f.valid = 0 then resetClass else spelledClass f

/-- Tests 2 to 6 of R27. -/
def State.classWriteTests (c : Nat) (f : ClassFields) : List (Bool × ResultCode) := [
  (decide (1 ≤ c ∧ c ≤ 48), .outOfRange),
  (!s.inUse c, .inUse),
  (decide (f.valid = 0) || classFits f, .outOfRange),
  (decide (f.valid = 0) || (f.slot1.toList ++ f.slot2.toList).all fun x => (s.mat x.material).valid, .notFound),
  (decide (f.valid = 0) || fieldsPair s.mat f, .outOfRange)]

@[simp] theorem State.take_classResult (i : Instr) (c : Nat) (f : ClassFields) :
    (s.take i).classResult c f = s.classResult c f := rfl

theorem State.classResult_eq (c : Nat) (f : ClassFields) :
    s.classResult c f = tested (s.classWriteTests c f) (writtenClass f) := by
  rw [State.classResult, State.classWriteTests, tested_cons, tested_cons, Bool.not_not, Bool.decide_and]
  congr 2
  obtain hv | hv | hv : f.valid = 0 ∨ f.valid = 1 ∨ ¬f.valid < 2 := by omega
  · simp [hv, flagOf, tested_cons, tested_nil, writtenClass]
  · simp [hv, flagOf, writtenClass, s.classTests_eq hv]
  · have unfit : classFits f = false := by simp [classFits, show f.valid ≠ 1 by omega]
    simp [flagOf_of_ge hv, tested_cons, unfit, show f.valid ≠ 0 by omega]

theorem execClassWrite_eq (t : Byte) (c : Nat) (f : ClassFields) :
    execClassWrite t c f s =
      let i : Instr := .classWrite t c f
      let tests := (decide (s.line.mode ≠ .initializing), .wrongMode) :: s.classWriteTests c f
      .next ((firstFailure tests).elim
        (((s.take i).setCls c (writtenClass f)).answer (s.header i) 0x08 .ok (.recipeId c))
        fun code => s.replied i 0x08 code .empty) := by
  refine s.request_tested (accepted := fun r => ((s.take _).setCls c r).answer _ 0x08 .ok (.recipeId c))
    (s.classResult_eq c f) (fun code h => ?_) fun r h => ?_
  · simp only [State.take_classResult, h]
    rfl
  · simp only [State.take_classResult, h]

/-- Settles O5: CLASS_WRITE is the table of R27, and the record it stores has the slots that its fields spell. -/
theorem classWrite : Obligations.ClassWrite := by
  unfold Obligations.ClassWrite
  intro t c f s i slotFits record refused
  have step : exec i s = .next (refused.elim _ _) := execClassWrite_eq s t c f
  clear_value refused
  cases refused with
  | some code => exact step
  | none =>
    refine ⟨fun hv => step.trans ?_, fun a hv ha => step.trans ?_⟩
    · rw [writtenClass, if_pos hv]; rfl
    · rw [writtenClass, if_neg (by omega), spelledClass, ha]; rfl

/-! ## The record of a material (R30) -/

theorem ascends_eq (l : List (Nat × Nat)) : ascends l = decide (l.Pairwise fun p q => p.1 < q.1) := by
  rw [Bool.eq_iff_iff, decide_eq_true_eq]
  refine ⟨ascends_pairwise l, fun h => ?_⟩
  induction l with
  | nil => rfl
  | cons p l ih =>
    cases l with
    | nil => rfl
    | cons q r =>
      obtain ⟨hp, hr⟩ := List.pairwise_cons.mp h
      exact Bool.and_eq_true_iff.mpr ⟨decide_eq_true (hp q (List.mem_cons_self ..)), ih hr⟩

/-- Test 5 of R32 on a material written valid. -/
def materialFits (f : MaterialFields) : Bool :=
  decide (f.valid = 1 ∧ 500 ≤ f.primeMs ∧ f.primeMs ≤ 60000 ∧ 500 ≤ f.purgeMs ∧
    f.purgeMs ≤ 60000 ∧ 5 ≤ f.keepWetS ∧ f.keepWetS ≤ 600 ∧ 1 ≤ f.capMaxMin ∧ f.capMaxMin ≤ 1440 ∧
    f.flashMinS ≤ 3600 ∧ 60 ≤ f.openMaxS ∧ f.openMaxS ≤ 14400 ∧ f.maxTemp ≤ 3000 ∧ f.flashMinS < f.openMaxS ∧
    f.points.length = 8 ∧ (∀ p ∈ f.points, p.1 ≤ 3000 ∧ p.2 ≤ 4095) ∧
    f.points.Pairwise fun p q => p.1 < q.1)

/-- The valid record that the fields spell. -/
def spelledMaterial (f : MaterialFields) : MaterialRecord :=
  ⟨true, f.primeMs, f.purgeMs, f.keepWetS, f.capMaxMin, f.flashMinS, f.openMaxS, f.maxTemp, f.points⟩

theorem readMaterial_eq {f : MaterialFields} (hv : f.valid = 1) :
    readMaterial f = if materialFits f then some (spelledMaterial f) else none := by
  unfold readMaterial
  congr 1
  rw [ascends_eq, eq_iff_iff]
  simp only [materialFits, hv, within, Bool.and_eq_true, decide_eq_true_eq, List.all_eq_true, and_assoc, true_and]

/-! ## The valid classes that name a material -/

theorem classIds_all (p : Nat → Bool) : classIds.all p = (List.range 49).all fun c => decide (c = 0) || p c := by
  simp [classIds, List.range_succ_eq_map (n := 48), Function.comp_def]

theorem classIds_countP (p : Nat → Bool) :
    classIds.countP p = (List.range 49).countP fun c => decide (c ≠ 0) && p c := by
  simp [classIds, List.range_succ_eq_map (n := 48), List.countP_map, Function.comp_def]

theorem State.namedBy_pos (m : Nat) :
    decide (0 < s.namedBy m) = !(List.range 49).all fun c => decide (c = 0) || !(s.cls c).valid || !(s.cls c).names m := by
  simp only [Bool.or_assoc, ← classIds_all]
  rw [Bool.eq_iff_iff, State.namedBy, decide_eq_true_eq, List.countP_pos_iff]
  simp

/-- Test 6 of R32: every valid class that names the material pairs with the new record. -/
def State.fieldsKeepPairings (s : State) (m : Nat) (f : MaterialFields) : Bool :=
  (List.range 49).all fun c => decide (c = 0) || !(s.cls c).valid || !(s.cls c).names m ||
    (match (s.cls c).slot1, (s.cls c).slot2 with
     | some a, some b =>
       decide (max (if a.material = m then f.flashMinS else (s.mat a.material).flashMinS)
         (if b.material = m then f.flashMinS else (s.mat b.material).flashMinS) <
         min (if a.material = m then f.openMaxS else (s.mat a.material).openMaxS)
           (if b.material = m then f.openMaxS else (s.mat b.material).openMaxS))
     | _, _ => true)

theorem State.pairingsHold_eq (m : Nat) (f : MaterialFields) :
    s.pairingsHold m (spelledMaterial f) = s.fieldsKeepPairings m f := by
  rw [State.pairingsHold, classIds_all, State.fieldsKeepPairings]
  refine congrArg (List.range 49).all (funext fun c => ?_)
  simp only [ClassRecord.pairing, pairFits, Bool.not_and, Bool.or_assoc]
  cases (s.cls c).slot1 with
  | none => cases (s.cls c).slot2 <;> rfl
  | some a =>
    cases (s.cls c).slot2 with
    | none => rfl
    | some b =>
      simp only [apply_ite MaterialRecord.flashMinS, apply_ite MaterialRecord.openMaxS]
      rfl

/-! ## MATERIAL_WRITE -/

/-- What an accepted MATERIAL_WRITE stores. -/
def writtenMaterial (f : MaterialFields) : MaterialRecord := if f.valid = 0 then resetMaterial else spelledMaterial f

/-- Tests 2 to 6 of R32. -/
def State.materialWriteTests (m : Nat) (f : MaterialFields) : List (Bool × ResultCode) := [
  (decide (m < 8), .outOfRange),
  (!s.held m, .inUse),
  (decide (f.valid ≠ 0) || (List.range 49).all fun c => decide (c = 0) || !(s.cls c).valid || !(s.cls c).names m, .inUse),
  (decide (f.valid = 0) || materialFits f, .outOfRange),
  (decide (f.valid = 0) || s.fieldsKeepPairings m f, .outOfRange)]

@[simp] theorem State.take_materialResult (i : Instr) (m : Nat) (f : MaterialFields) :
    (s.take i).materialResult m f = s.materialResult m f := rfl

theorem State.materialResult_eq (m : Nat) (f : MaterialFields) :
    s.materialResult m f = tested (s.materialWriteTests m f) (writtenMaterial f) := by
  rw [State.materialResult, State.materialWriteTests, tested_cons, tested_cons, Bool.not_not]
  congr 2
  obtain hv | hv | hv : f.valid = 0 ∨ f.valid = 1 ∨ ¬f.valid < 2 := by omega
  · simp [tested_cons, tested_nil, hv, flagOf, writtenMaterial, ← s.namedBy_pos m, -List.all_eq_true]
  · simp only [hv, flagOf, readMaterial_eq hv, writtenMaterial, tested_cons, tested_nil]
    cases materialFits f <;> cases hp : s.fieldsKeepPairings m f <;> simp [s.pairingsHold_eq, hp]
  · have unfit : materialFits f = false := by simp [materialFits, show f.valid ≠ 1 by omega]
    simp [flagOf_of_ge hv, tested_cons, unfit, show f.valid ≠ 0 by omega]

theorem execMaterialWrite_eq (t : Byte) (m : Nat) (f : MaterialFields) :
    execMaterialWrite t m f s =
      let i : Instr := .materialWrite t m f
      let tests := (decide (s.line.mode ≠ .initializing), .wrongMode) :: s.materialWriteTests m f
      .next ((firstFailure tests).elim
        (((s.take i).setMat m (writtenMaterial f)).answer (s.header i) 0x0A .ok (.recipeId m))
        fun code => s.replied i 0x0A code .empty) := by
  refine s.request_tested (accepted := fun r => ((s.take _).setMat m r).answer _ 0x0A .ok (.recipeId m))
    (s.materialResult_eq m f) (fun code h => ?_) fun r h => ?_
  · simp only [State.take_materialResult, h]
    rfl
  · simp only [State.take_materialResult, h]

/-- Settles O6: MATERIAL_WRITE is the table of R32, by `execMaterialWrite_eq`. -/
theorem materialWrite : Obligations.MaterialWrite := by
  unfold Obligations.MaterialWrite
  intro t m f s i record refused
  have step : exec i s = .next (refused.elim _ _) := execMaterialWrite_eq s t m f
  clear_value refused
  cases refused <;> exact step

/-! ## The reads -/

theorem State.inUse_iff (c : Nat) : s.inUse c = true ↔ 0 < (s.cls c).useCount ∨
    ∃ l, (s.lane l).arming.cls = some c ∧
      ((s.lane l).status = .armed ∨ (s.lane l).status = .running ∨ (s.lane l).status = .waitApplicator ∨
        (s.lane l).status = .stopped) := by
  have armed : ∀ st : LaneStatus, st.armedState = true ↔
      st = .armed ∨ st = .running ∨ st = .waitApplicator ∨ st = .stopped := by
    intro st; cases st <;> simp [LaneStatus.armedState]
  have lanes : ∀ l : Fin 2, l ∈ allLanes := by decide
  simp [State.inUse, armed, lanes]

theorem State.held_iff (m : Nat) : s.held m = true ↔
    (∃ a, (s.unit a).material = some m ∧ (s.unit a).state ≠ .idleDry ∧
      ¬((s.unit a).state = .parked ∧ (s.unit a).parkedWet = false)) ∨
    (∃ e ∈ s.apps.queue, e.material = some m) ∨
    ∃ c, 1 ≤ c ∧ c ≤ 48 ∧ (s.cls c).valid = true ∧ 0 < (s.cls c).useCount ∧ (s.cls c).names m = true := by
  simp only [State.held, Bool.or_eq_true, List.any_eq_true, mem_allApps, mem_classIds, Applicator.holdsMaterial,
    Bool.and_eq_true, decide_eq_true_eq, true_and, and_assoc, or_assoc, Bool.not_eq_true', ← Bool.not_eq_true, not_and]

theorem execClassRead_eq (t : Byte) (c : Nat) : execClassRead t c s = .next (
    let i : Instr := .classRead t c
    if s.line.mode = .initializing then s.replied i 0x09 .wrongMode .empty
    else if 1 ≤ c ∧ c ≤ 48 then s.replied i 0x09 .ok (.classRead (s.cls c) (s.inUse c))
    else s.replied i 0x09 .outOfRange .empty) := by
  rw [execClassRead, State.request_unlessInit]
  simp only [← Bool.decide_and, Bool.not_eq_true', decide_eq_false_iff_not, ite_not]
  rfl

theorem execMaterialRead_eq (t : Byte) (m : Nat) : execMaterialRead t m s = .next (
    let i : Instr := .materialRead t m
    if s.line.mode = .initializing then s.replied i 0x0B .wrongMode .empty
    else if m < 8 then s.replied i 0x0B .ok (.materialRead (s.mat m) (s.held m) (s.namedBy m))
    else s.replied i 0x0B .outOfRange .empty) := by
  rw [execMaterialRead, State.request_unlessInit]
  simp only [Bool.not_eq_true', decide_eq_false_iff_not, ite_not]
  rfl

/-- Settles O7: the two flags are the model's own, each characterised by its rule. -/
theorem recipeReads : Obligations.RecipeReads := by
  unfold Obligations.RecipeReads
  intro t n used held s hused hheld
  have used_eq : used = s.inUse n := Bool.eq_iff_iff.mpr (hused.trans (s.inUse_iff n).symm)
  have held_eq : held = s.held n := Bool.eq_iff_iff.mpr (hheld.trans (s.held_iff n).symm)
  refine ⟨(execClassRead_eq s t n).trans ?_, (execMaterialRead_eq s t n).trans ?_⟩
  · rw [used_eq]
  · rw [held_eq, State.namedBy, classIds_countP]
    simp only [Bool.and_assoc]

end Sys2Proof.Machine
end

section
/-! SUPPORT. What starts nothing: `Still s t` says that `t` allows new work exactly where `s` does and that, where it does not,
no head operation, no shuttle operation and no board has been started. Every shared operation is `Still`. -/

namespace Sys2Proof.Machine

/-- No head operation, no shuttle operation and no SPRAYING board that `s` does not have. -/
structure NoStart (s t : State) : Prop where
  ops : ∀ l, (s.lane l).op = none → (t.lane l).op = none
  shuttle : s.oven.shuttle = none → t.oven.shuttle = none
  boards : ∀ k b, t.board k = some b → b.life = .spraying → ∃ b', s.board k = some b' ∧ b'.life = .spraying

theorem NoStart.of_frame {s t : State} (hp : t.path = s.path) (ho : t.oven.shuttle = s.oven.shuttle)
    (hb : t.tracker.boards = s.tracker.boards) : NoStart s t where
  ops l := by rw [State.lane, State.lane, hp]; exact id
  shuttle := by rw [ho]; exact id
  boards k b := by rw [State.board, State.board, hb]; exact fun h hl => ⟨b, h, hl⟩

theorem NoStart.trans {a b c : State} (h : NoStart a b) (g : NoStart b c) : NoStart a c where
  ops l := g.ops l ∘ h.ops l
  shuttle := g.shuttle ∘ h.shuttle
  boards k x hx hl :=
    have ⟨y, hy, hly⟩ := g.boards k x hx hl
    h.boards k y hy hly

/-- Between two states whose line modes both run the heads or both do not; where they do not, nothing has been started. -/
structure Still (s t : State) : Prop where
  mode : t.line.mode.headsRun = s.line.mode.headsRun
  calm : s.line.mode.headsRun = false → NoStart s t

theorem Still.refl (s : State) : Still s s := ⟨rfl, fun _ => .of_frame rfl rfl rfl⟩

theorem Still.trans {a b c : State} (h : Still a b) (g : Still b c) : Still a c where
  mode := g.mode.trans h.mode
  calm ha := (h.calm ha).trans (g.calm (h.mode.trans ha))

/-- An update that leaves the mode, the lanes, the shuttle and the boards as they are. -/
theorem Still.frame {s0 s t : State} (h : Still s0 s) (hm : t.line.mode = s.line.mode) (hp : t.path = s.path)
    (ho : t.oven.shuttle = s.oven.shuttle) (hb : t.tracker.boards = s.tracker.boards) : Still s0 t :=
  h.trans ⟨congrArg _ hm, fun _ => .of_frame hp ho hb⟩

variable {s0 s : State}

/-! ## The updates -/

theorem Still.post (h : Still s0 s) (n : Notice) : Still s0 (s.post n) := by
  rw [State.post_record]; exact h.frame rfl rfl rfl rfl

theorem Still.answer (h : Still s0 s) (d : Header) (k : Nat) (c : ResultCode) (b : Body) : Still s0 (s.answer d k c b) :=
  h.frame rfl rfl rfl rfl

theorem Still.withApps (h : Still s0 s) (x : AppManager) : Still s0 { s with apps := x } := h.frame rfl rfl rfl rfl

theorem Still.take (h : Still s0 s) (i : Instr) : Still s0 (s.take i) := h.frame rfl rfl rfl rfl

theorem Still.reach (h : Still s0 s) (t : Nat) : Still s0 (s.reach t) := h.frame rfl rfl rfl rfl

/-- A board becomes SPRAYING only where the heads run. -/
theorem Still.setBoard (h : Still s0 s) (k : Nat) (b' : Option Board)
    (hl : s0.line.mode.headsRun = false → ∀ x, b' = some x → x.life = .spraying →
      ∃ b, s.board k = some b ∧ b.life = .spraying) : Still s0 (s.setBoard k b') := by
  refine ⟨h.mode, fun hs => (h.calm hs).trans ⟨fun _ => id, id, fun j x hx hx' => ?_⟩⟩
  rw [State.setBoard_board] at hx
  split at hx
  · next e => rw [e]; exact hl hs x hx hx'
  · exact ⟨x, hx, hx'⟩

theorem Still.modBoardQuiet (h : Still s0 s) (k : Nat) (f : Board → Board)
    (hf : ∀ b : Board, s0.line.mode.headsRun = false → (f b).life = .spraying → b.life = .spraying) :
    Still s0 (s.modBoardQuiet k f) := by
  unfold State.modBoardQuiet; split
  · exact h
  · next b hb => exact h.setBoard k _ fun hs x hx hl => ⟨b, hb, hf b hs (by cases hx; exact hl)⟩

theorem Still.modBoard (h : Still s0 s) (k : Nat) (f : Board → Board)
    (hf : ∀ b : Board, s0.line.mode.headsRun = false → (f b).life = .spraying → b.life = .spraying) :
    Still s0 (s.modBoard k f) := by
  have g := h.modBoardQuiet k f hf
  unfold State.modBoardQuiet at g
  unfold State.modBoard
  split at g
  · exact g
  · dsimp only; split
    · exact g.post _
    · exact g

theorem Still.modUnit (h : Still s0 s) (a : Fin 6) (f : Applicator → Applicator) : Still s0 (s.modUnit a f) := by
  rw [State.modUnit_rest]; exact h.frame rfl rfl rfl rfl

/-- A head operation becomes present only where the heads run. -/
theorem Still.setLane (h : Still s0 s) (l : Fin 2) (r : Lane)
    (hr : s0.line.mode.headsRun = false → (s.lane l).op = none → r.op = none) : Still s0 (s.setLane l r) := by
  refine ⟨h.mode, fun hs => (h.calm hs).trans ⟨fun k hk => ?_, id, fun _ b hb hl => ⟨b, hb, hl⟩⟩⟩
  rw [State.setLane_lane]; split
  · next e => exact hr hs (e ▸ hk)
  · exact hk

theorem Still.modLane (h : Still s0 s) (l : Fin 2) (f : Lane → Lane)
    (hf : ∀ r : Lane, r.op = none → (f r).op = none) : Still s0 (s.modLane l f) :=
  h.setLane l _ fun _ => hf _

theorem Still.setStatus (h : Still s0 s) (l : Fin 2) (st : LaneStatus) : Still s0 (s.setStatus l st) := by
  have g := h.modLane l (fun r => { r with status := st }) (by simp)
  unfold State.setStatus; dsimp only; split
  · exact g
  · exact g.post _

theorem Still.sendOp (h : Still s0 s) (run : s0.line.mode.headsRun = true) (l : Fin 2) (k : OpKind) (a : Fin 6) (n : Nat)
    (x : Option StrokeRef) (c : HeadCommand) : Still s0 (s.sendOp l k a n x c) :=
  h.setLane l _ fun hs => absurd (run.symm.trans hs) nofun

theorem Still.advance (h : Still s0 s) (l : Fin 2) : Still s0 (s.advance l) := h.modLane l _ (by simp)

theorem Still.enqueue (h : Still s0 s) (e : PrimeEntry) : Still s0 (s.enqueue e) := h.withApps _

theorem Still.nextOrder (h : Still s0 s) : Still s0 s.nextOrder := h.withApps _

/-! ## Bays, raises and the shuttle -/

theorem Still.withOven (h : Still s0 s) (v : Oven) (hv : s.oven.shuttle = none → v.shuttle = none) :
    Still s0 { s with oven := v } := h.trans ⟨rfl, fun _ => ⟨fun _ => id, hv, fun _ b hb hl => ⟨b, hb, hl⟩⟩⟩

theorem Still.reserve (h : Still s0 s) (n : Fin 8) (k : Nat) : Still s0 (s.reserve n k) := by
  rw [State.reserve_eq]; exact h.withOven _ (by simp)

theorem Still.requestBay (h : Still s0 s) (k : Nat) : Still s0 (s.requestBay k) := by
  rw [State.requestBay_rest]
  exact h.withOven _ (State.requestBay_shuttle k ▸ id)

theorem Still.freeBay (h : Still s0 s) (n : Fin 8) : Still s0 (s.freeBay n) := by
  rw [State.freeBay_record]; exact h.withOven _ (by simp)

theorem Still.freeBayOf (h : Still s0 s) (k : Nat) : Still s0 (s.freeBayOf k) := by
  unfold State.freeBayOf; split
  · exact h
  · exact h.freeBay _

theorem Still.raiseCore (h : Still s0 s) (q : Bool) (k n : Nat) : Still s0 (s.raiseCore q k n) := by
  unfold State.raiseCore; split
  · exact h
  · split
    · exact h.modBoardQuiet _ _ (by simp)
    · split
      · dsimp only; split
        · exact h.modBoardQuiet _ _ fun _ _ => id
        · exact h.modBoard _ _ fun _ _ => id
      · split
        · exact h
        · exact (h.modBoardQuiet _ _ (by simp)).post _

theorem Still.leaveReady (h : Still s0 s) (k : Nat) : Still s0 (s.leaveReady k) := by
  unfold State.leaveReady; split
  · exact h
  · split
    · exact h.modBoard _ _ (by simp)
    · exact h

theorem Still.testReady (h : Still s0 s) (k : Nat) : Still s0 (s.testReady k) := by
  unfold State.testReady; split
  · exact h
  · split
    · exact h.modBoard _ _ (by simp)
    · exact h

theorem Still.openExpiry (h : Still s0 s) (k : Nat) : Still s0 (s.openExpiry k) :=
  ((h.modBoardQuiet _ _ (by simp)).raiseCore _ _ _).leaveReady _

theorem Still.heldOver (h : Still s0 s) (k : Nat) : Still s0 (s.heldOver k) := by
  unfold State.heldOver; split
  · exact h
  · split
    · exact h.openExpiry _
    · exact h

theorem Still.clearShuttle (h : Still s0 s) : Still s0 s.clearShuttle := h.withOven _ fun _ => rfl

theorem Still.withdraw (h : Still s0 s) (k : Nat) : Still s0 (s.withdraw k) := (h.clearShuttle.post _).heldOver _

theorem Still.withdrawAny (h : Still s0 s) : Still s0 s.withdrawAny := by
  unfold State.withdrawAny; repeat' split
  · exact h
  · exact h.withdraw _
  · exact h

theorem Still.abandonShuttle (h : Still s0 s) : Still s0 s.abandonShuttle := by
  unfold State.abandonShuttle; repeat' split
  · exact h
  · exact h.clearShuttle.heldOver _
  · exact h.clearShuttle.modBoard _ _ (by simp)

theorem LineMode.headsRun_of_shuttleRuns {m : LineMode} (h : m.shuttleRuns = true) : m.headsRun = true := by
  cases m with
  | initializing => cases h
  | halted => cases h
  | config => rfl
  | run => rfl
  | drain => rfl

/-- A shuttle operation becomes present only where the shuttle runs. -/
theorem Still.startShuttle (h : Still s0 s) (run : s.line.mode.shuttleRuns = true) (k : ShuttleKind) (n : Fin 8) (j : Nat) :
    Still s0 (s.startShuttle k n j) :=
  h.trans ⟨rfl, fun hs => absurd ((LineMode.headsRun_of_shuttleRuns run).symm.trans hs) nofun⟩

theorem Still.decideShuttle (h : Still s0 s) : Still s0 s.decideShuttle := by
  unfold State.decideShuttle; split
  · exact h
  · next free =>
      have run : s.line.mode.shuttleRuns = true := by simp_all
      repeat' split
      · exact (h.startShuttle run _ _ _).modBoard _ _ (by simp)
      · exact h.startShuttle run _ _ _
      · exact h
      · exact h

/-! ## Spray end, raises of a lane, starting a board -/

theorem Still.autoPurge (h : Still s0 s) (a : Fin 6) : Still s0 (s.autoPurge a) := by
  unfold State.autoPurge; split
  · exact h
  · exact h.enqueue _

theorem Still.autoStep (h : Still s0 s) (a : Fin 6) : Still s0 (s.autoStep a) := by
  unfold State.autoStep; split
  · exact h
  · split
    · exact h
    · split
      case h_1 => exact (h.modUnit _ _).nextOrder
      case h_2 => split; exacts [h, h.enqueue _]
      case h_3 => split; exacts [h, h.enqueue _]
      case h_4 => exact h.enqueue _
      all_goals exact h

theorem Still.clearNeed (h : Still s0 s) (l : Fin 2) : Still s0 (s.clearNeed l) := h.modUnit _ _

theorem Still.stopLane (h : Still s0 s) (l : Fin 2) : Still s0 (s.stopLane l) := (h.clearNeed l).setStatus _ _

theorem Still.stopWaiting (h : Still s0 s) (l : Fin 2) : Still s0 (s.stopWaiting l) := by
  unfold State.stopWaiting; split
  · exact h.clearNeed l
  · exact h

theorem Still.laneOver (h : Still s0 s) (l : Fin 2) : Still s0 (s.laneOver l) := by
  unfold State.laneOver; dsimp only; split <;> exact ((h.stopWaiting l).setStatus _ _).modLane _ _ (by simp)

theorem Still.toFlashing (h : Still s0 s) (k : Nat) (f : Board → Board) : Still s0 (s.toFlashing k f) :=
  (h.modBoard _ _ (by simp)).requestBay _

theorem Still.terminal (h : Still s0 s) (l : Fin 2) (k : Nat) : Still s0 (s.terminal l k) := (h.toFlashing _ _).laneOver _

theorem Still.abandonBoard (h : Still s0 s) (k : Nat) : Still s0 (s.abandonBoard k) := h.toFlashing _ _

theorem Still.abandon (h : Still s0 s) (l : Fin 2) (k : Nat) : Still s0 (s.abandon l k) := (h.abandonBoard _).laneOver _

theorem Still.judge (h : Still s0 s) (l : Fin 2) (k : Nat) (f : State → State) (hf : Still s0 (f s)) :
    Still s0 (s.judge l k f) := by
  unfold State.judge; repeat' split
  · exact h
  · exact h.abandon _ _
  · exact h.stopLane _
  · exact hf

theorem State.withhold_none_run {l : Fin 2} {b : Board} (h : s.withhold l b = none) : s.line.mode = .run := by
  by_contra hm
  rw [State.withhold, if_pos hm] at h
  cases h

theorem Still.startBoard (h : Still s0 s) (run : s0.line.mode.headsRun = true) (l : Fin 2) (k : Nat) :
    Still s0 (s.startBoard l k) :=
  ((h.modBoard _ _ fun _ hs => absurd (run.symm.trans hs) nofun).setStatus _ _).modLane _ _ (by simp)

theorem Still.startTest (h : Still s0 s) (l : Fin 2) : Still s0 (s.startTest l) := by
  unfold State.startTest; split
  · exact h
  · split
    · split
      case h_1 hw =>
        have run : s0.line.mode.headsRun = true := by rw [← h.mode, State.withhold_none_run hw]; rfl
        exact h.startBoard run _ _
      case h_2 => exact h.post _
      all_goals exact h
    · exact h

theorem Still.departDisarmed (h : Still s0 s) (k : Nat) : Still s0 (s.departDisarmed k) := by
  unfold State.departDisarmed; repeat' split
  · exact h
  · exact h.abandonBoard _
  · exact h
  · exact (h.modBoard _ _ (by simp)).startTest _
  · exact h

theorem Still.afterAdvance (h : Still s0 s) (l : Fin 2) (k : Nat) (f : State → State) (hf : Still s0 (f s)) :
    Still s0 (s.afterAdvance l k f) := by
  unfold State.afterAdvance; split
  · exact h.terminal _ _
  · exact hf

theorem Still.lastUse (h : Still s0 s) (st : Stroke) : Still s0 (s.lastUse st) := by
  unfold State.lastUse; split
  · exact h.autoPurge _
  · exact h

/-! ## Heads that run -/

section
variable (h : Still s0 s) (run : s0.line.mode.headsRun = true)
include h run

theorem Still.sendWaiting (l : Fin 2) (a : Fin 6) : Still s0 (s.sendWaiting l a) := by
  unfold State.sendWaiting; dsimp only; repeat' split
  · exact h
  · exact (h.modUnit _ _).sendOp run _ _ _ _ _ _
  · exact (h.modUnit _ _).sendOp run _ _ _ _ _ _

theorem Still.sendSpit (l : Fin 2) (a : Fin 6) : Still s0 (s.sendSpit l a) := (h.modUnit _ _).sendOp run _ _ _ _ _ _

theorem Still.grant (e : PrimeEntry) : Still s0 (s.grant e) := by
  unfold State.grant; dsimp only; repeat' split
  all_goals exact ((h.withApps _).modUnit _ _).sendOp run _ _ _ _ _ _

omit h in
theorem Still.grants (n : Nat) {s : State} (h : Still s0 s) : Still s0 (s.grants n) := by
  induction n generalizing s with
  | zero => exact h
  | succ n ih =>
    unfold State.grants; repeat' split
    · exact ih (h.grant run _)
    · exact h
    · exact h

theorem Still.grantDecision : Still s0 s.grantDecision := by
  unfold State.grantDecision; split
  · exact Still.grants run _ h
  · exact h

omit run in
theorem Still.fragmented (l : Fin 2) (k : Nat) (st : Stroke) : Still s0 (s.fragmented l k st) := by
  have g := h.raiseCore false k 4
  have g' := (g.lastUse st).advance l
  exact g.judge _ _ _ (g'.afterAdvance _ _ _ g')

omit run in
theorem Still.skipStroke (l : Fin 2) (k : Nat) (st : Stroke) (cols : List (Nat × List Cell)) :
    Still s0 (s.skipStroke l k st cols) := by
  have hits : Still s0 (s.countHits cols) := h.frame rfl rfl rfl rfl
  have g := ((hits.modBoardQuiet k (fun b => { b with strokesDone := b.strokesDone + 1 }) (by simp)).lastUse st).advance l
  exact g.afterAdvance _ _ _ (g.judge _ _ _ g)

theorem Still.sendStroke (l : Fin 2) (k : Nat) (b : Board) (st : Stroke) (cols : List (Nat × List Cell)) :
    Still s0 (s.sendStroke l k b st cols) := by
  have hits : Still s0 (s.countHits cols) := h.frame rfl rfl rfl rfl
  exact ((hits.modBoardQuiet _ _ (by simp)).modUnit _ _).sendOp run _ _ _ _ _ _

theorem Still.resolveStroke (l : Fin 2) (k : Nat) (b : Board) (st : Stroke) : Still s0 (s.resolveStroke l k b st) := by
  have gated : Still s0 (s.addGated k b (closedColumns (s.resolve b st))) := by
    unfold State.addGated; dsimp only; split
    · exact (h.modBoardQuiet _ _ (by simp)).raiseCore _ _ _
    · exact h.modBoardQuiet _ _ (by simp)
  unfold State.resolveStroke; dsimp only; split
  · exact h.fragmented _ _ _
  · refine gated.judge _ _ _ ?_
    split
    · exact gated.skipStroke _ _ _ _
    · exact gated.sendStroke run _ _ _ _ _

omit run in
theorem Still.awaitApp (l : Fin 2) (st : Stroke) : Still s0 (s.awaitApp l st) := by
  unfold State.awaitApp; dsimp only; split
  · exact ((h.setStatus _ _).modUnit _ _).autoStep _
  · exact h.setStatus _ _

theorem Still.takeStroke (l : Fin 2) : Still s0 (s.takeStroke l) := by
  unfold State.takeStroke; dsimp only; repeat' split
  · exact h
  · exact h.resolveStroke run _ _ _ _
  · exact h.awaitApp _ _

omit run in
theorem Still.wake (l : Fin 2) : Still s0 (s.wake l) := by
  unfold State.wake; dsimp only; repeat' split
  · exact (h.clearNeed _).setStatus _ _
  · exact h.autoStep _
  · exact h

end

/-- A head that may take work is one of a mode in which the heads run. -/
theorem Still.serve (h : Still s0 s) (n : Nat) (l : Fin 2) : Still s0 (s.serve n l) := by
  induction n generalizing s with
  | zero => exact h
  | succ n ih =>
    have hw := h.wake l
    unfold State.serve; dsimp only; split
    · exact hw
    · next hrun =>
        have run : s0.line.mode.headsRun = true := by rw [← hw.mode]; simp_all
        have hg := hw.grantDecision run
        repeat' split
        · exact hw.sendWaiting run _ _
        · exact hg
        · exact hg.sendWaiting run _ _
        · exact ih (hg.takeStroke run _)
        · exact hg.sendSpit run _ _
        · exact hg

/-! ## The end of a head operation, reports, and the close of a step -/

theorem Still.recordFault (h : Still s0 s) (l : Fin 2) (k : Option FaultKind) (i : Nat) : Still s0 (s.recordFault l k i) :=
  (h.modLane l _ (by simp)).post _

theorem Still.strokeEnd (h : Still s0 s) (l : Fin 2) (r : StrokeRef) (e : OpEnd) : Still s0 (s.strokeEnd l r e) := by
  unfold State.strokeEnd; repeat' split
  · unfold State.detachedEnd
    refine Still.departDisarmed ?_ _
    split
    · exact h.modBoardQuiet _ _ (by simp)
    · exact h.recordFault _ _ _
  · have g := (h.modBoardQuiet r.slot (fun b =>
      { b with strokesDone := b.strokesDone + 1, used := b.used.join r.material }) (by simp)).advance l
    exact g.afterAdvance _ _ _ (g.judge _ _ _ g)
  · have g := (h.recordFault l e.faultKind r.index).raiseCore false r.slot 5
    exact g.judge _ _ _ g

theorem Still.opEnd (h : Still s0 s) (l : Fin 2) (o : HeadOp) (e : OpEnd) : Still s0 (s.opEnd l o e) := by
  have g := (h.modLane l (fun r => { r with op := none }) (by simp)).modUnit o.app
    ((s.modLane l fun r => { r with op := none }).endUnit o.kind e)
  unfold State.opEnd; dsimp only; split
  · split
    · exact g.startTest _
    · exact g
  · refine Still.strokeEnd ?_ _ _ _
    split
    · exact g.autoPurge _
    · exact g

theorem Still.reactAtSpray (h : Still s0 s) (k : Nat) (b : Board) (w : Bool) : Still s0 (s.reactAtSpray k b w) := by
  unfold State.reactAtSpray; repeat' split
  · exact h.toFlashing _ _
  · exact h.startTest _
  · exact h

theorem Still.reactSpraying (h : Still s0 s) (k : Nat) (b : Board) : Still s0 (s.reactSpraying k b) := by
  unfold State.reactSpraying; repeat' split
  · exact h
  · exact h.departDisarmed _
  · exact h.abandon _ _
  · exact h.stopLane _
  · exact h
  · exact h.setStatus _ _
  · exact h

theorem Still.reactBuffered (h : Still s0 s) (k : Nat) (w : Bool) : Still s0 (s.reactBuffered k w) := by
  have g := h.leaveReady k
  unfold State.reactBuffered; dsimp only; split <;> split
  · exact (g.withdraw _).testReady _
  · exact g.withdraw _
  · exact g.testReady _
  · exact g

theorem Still.react (h : Still s0 s) (k : Nat) (w : Bool) : Still s0 (s.react k w) := by
  unfold State.react; repeat' split
  · exact h
  · exact h
  · exact h.reactAtSpray _ _ _
  · exact h.reactSpraying _ _
  · exact h.reactBuffered _ _
  · exact h.reactBuffered _ _
  · exact h

theorem Still.raise (h : Still s0 s) (n k : Nat) : Still s0 (s.raise n k) := (h.raiseCore _ _ _).react _ _

/-- A change between two modes in both of which the heads run. -/
theorem Still.setMode (h : Still s0 s) (m : LineMode) (c : ChangeCause) (hm : m.headsRun = s.line.mode.headsRun)
    (run : m.headsRun = true) : Still s0 (s.setMode m c) :=
  h.trans ⟨hm, fun hs => absurd (run.symm.trans (hm.trans hs)) nofun⟩

theorem Still.drainEnd (h : Still s0 s) (a : State) : Still s0 (s.drainEnd a) := by
  unfold State.drainEnd; split
  · next hd => exact (h.setMode _ _ (by rw [hd.1]; rfl) rfl).post _
  · exact h

theorem Still.settle (h : Still s0 s) (p : Bool) (a : State) : Still s0 (s.settle p a) := by
  have g : Still s0 (((s.serveLane 0).serveLane 1).drainEnd a) := ((h.serve _ 0).serve _ 1).drainEnd a
  unfold State.settle; dsimp only; split
  · exact g.decideShuttle
  · exact g

end Sys2Proof.Machine
end

section
/-! The commands, block by block, and NothingStartsStopped (O59): every command but those that enter or leave HALTED or
INITIALIZING is `Still`; entering HALTED starts nothing either. -/

namespace Sys2Proof.Machine

/-- Where `t` stands in HALTED or INITIALIZING, nothing has been started since `s`. -/
def StartsNothing (s t : State) : Prop := t.line.mode.headsRun = false → NoStart s t

theorem Still.startsNothing {s t : State} (h : Still s t) : StartsNothing s t := fun ht => h.calm (h.mode.symm.trans ht)

theorem StartsNothing.still {a b c : State} (h : StartsNothing a b) (g : Still b c) : StartsNothing a c := fun hc =>
  have hb := g.mode.symm.trans hc
  (h hb).trans (g.calm hb)

variable {s0 s : State}

/-! ## Requests and events -/

theorem Still.request (i : Instr) (f : Header → State → State) (hf : ∀ d u, Still s u → Still s (f d u)) :
    Yields (Still s) (s.request i f) := .next (hf _ _ ((Still.refl s).take i))

theorem StartsNothing.request (i : Instr) (f : Header → State → State) (hf : ∀ d u, Still s u → StartsNothing s (f d u)) :
    Yields (StartsNothing s) (s.request i f) := .next (hf _ _ ((Still.refl s).take i))

theorem Still.unlessInit (h : Still s0 s) (d : Header) (k : Nat) (f : State → State) (hf : Still s0 (f s)) :
    Still s0 (s.unlessInit d k f) := by
  unfold State.unlessInit; split
  · exact h.answer _ _ _ _
  · exact hf

theorem StartsNothing.unlessInit (h : Still s0 s) (d : Header) (k : Nat) (f : State → State)
    (hf : StartsNothing s0 (f s)) : StartsNothing s0 (s.unlessInit d k f) := by
  unfold State.unlessInit; split
  · exact (h.answer _ _ _ _).startsNothing
  · exact hf

theorem Still.discardInit (h : Still s0 s) (f : State → State) (hf : Still s0 (f s)) : Still s0 (s.discardInit f) := by
  unfold State.discardInit; split
  · exact h
  · exact hf

/-! ## Entering and leaving HALTED and INITIALIZING -/

theorem NoStart.of_line (x : Line) : NoStart s { s with line := x } := .of_frame rfl rfl rfl

theorem execPowerOn_startsNothing (e : Bool) : Yields (StartsNothing s) (execPowerOn e s) := by
  have lane : ∀ l, ({ State.powerOn e with pending := s.pending } : State).lane l = resetLane := fun l => by
    simp [State.lane, State.powerOn, Vector.get_eq_getElem]
  exact .next fun _ => {
    ops := fun l _ => by rw [lane]; rfl
    shuttle := fun _ => rfl
    boards := fun _ _ hb => nomatch hb }

theorem execStartUpEnd_startsNothing : Yields (StartsNothing s) (execStartUpEnd s) := by
  refine .next ?_
  show StartsNothing s s.startUpEnd
  unfold State.startUpEnd; dsimp only; repeat' split
  · exact StartsNothing.still (by exact fun _ => .of_frame rfl rfl rfl) ((Still.refl _).post _)
  · exact StartsNothing.still (by exact fun _ => .of_frame rfl rfl rfl) ((Still.refl _).post _)
  · exact (Still.refl s).startsNothing

theorem Still.eachUnit (h : Still s0 s) (f : Fin 6 → Applicator → Applicator) : Still s0 (s.eachUnit f) :=
  List.foldlRecOn _ _ h fun _ hu a _ => hu.modUnit a (f a)

theorem Still.haltLane (h : Still s0 s) (l : Fin 2) : Still s0 (s.haltLane l) := by
  have idle : Still s0 (s.idleLane l) := ((h.modLane l _ (by simp)).setStatus l _).modLane l _ (by simp)
  show Still s0 ((s.idleLane l).haltBoard l)
  unfold State.haltBoard; repeat' split
  · exact idle
  · exact idle.abandonBoard _
  · exact (idle.modBoard _ _ (by simp)).raise _ _
  · exact idle

/-- Entering HALTED changes the mode first; what the blocks then do starts nothing. -/
theorem StartsNothing.enterHalted (h : NoStart s0 s) (c : ChangeCause) : StartsNothing s0 (s.enterHalted c) := by
  have apps := ((Still.refl (s.setMode .halted c)).eachUnit fun a r => (s.setMode .halted c).haltUnit a r).withApps
  have entered : StartsNothing s0 (s.setMode .halted c) := fun _ => h.trans (.of_frame rfl rfl rfl)
  exact entered.still ((((apps _).haltLane 0).haltLane 1).abandonShuttle.settle _ _)

theorem execEstopChange_startsNothing (a : Bool) : Yields (StartsNothing s) (execEstopChange a s) := by
  refine .next ?_
  show StartsNothing s (s.estopChange a)
  have input : Still s { s with line := { s.line with estop := a } } := (Still.refl s).frame rfl rfl rfl rfl
  have entered := (StartsNothing.enterHalted (NoStart.of_line (s := s) { s.line with estop := a }) .estop).still
    ((Still.refl _).post .line)
  unfold State.estopChange; dsimp only; split
  · exact (Still.refl s).startsNothing
  · split
    · exact input.startsNothing
    · split
      · exact entered
      · exact (input.post _).startsNothing
    · split
      · exact entered
      · exact (input.post _).startsNothing
    · split
      · exact entered
      · exact (input.post _).startsNothing
    · exact (input.post _).startsNothing

theorem execHalt_startsNothing (t : Byte) : Yields (StartsNothing s) (execHalt t s) := by
  have taken : Still s (s.take (.halt t)) := (Still.refl s).take _
  refine .next (StartsNothing.unlessInit taken _ _ _ ?_)
  split
  · exact (taken.answer _ _ _ _).startsNothing
  · exact (StartsNothing.enterHalted (by exact .of_frame rfl rfl rfl) .halt).still ((Still.refl _).answer _ _ _ _)

theorem execRecover_startsNothing (t : Byte) : Yields (StartsNothing s) (execRecover t s) := by
  refine StartsNothing.request _ _ fun d u h => StartsNothing.unlessInit h _ _ _ ?_
  repeat' split
  · exact (h.answer _ _ _ _).startsNothing
  · exact (h.answer _ _ _ _).startsNothing
  · have runs : StartsNothing s (u.setMode .config .recover) := fun hm => nomatch (show true = false from hm)
    exact runs.still (((Still.refl _).answer _ _ _ _).settle _ _)

/-! ## Line control -/

theorem Still.enterRun (h : Still s0 s) (hm : s.line.mode.headsRun = true) : Still s0 s.enterRun :=
  ((h.setMode .run .mode hm.symm rfl).startTest _).startTest _

theorem Still.modeChange (h : Still s0 s) (m : LineMode) {u : State} (hu : s.modeChange m = some u) : Still s0 u := by
  unfold State.modeChange at hu
  split at hu <;> cases hu
  case h_1 => exact h
  case h_2 hm => exact h.enterRun (by rw [hm]; rfl)
  case h_3 hm => exact h.setMode _ _ (by rw [hm]; rfl) rfl
  case h_4 => exact h
  case h_5 hm =>
    have drain : Still s0 (s.setMode .drain .mode) := h.setMode _ _ (by rw [hm]; rfl) rfl
    unfold State.enterDrain; dsimp only; split
    · exact drain.setMode _ _ rfl rfl
    · exact drain
  case h_6 hm => exact h.setMode _ _ (by rw [hm]; rfl) rfl
  case h_7 => exact h

theorem execMode_still (t : Byte) (target : Nat) : Yields (Still s) (execMode t target s) := by
  refine Still.request _ _ fun d u h => h.unlessInit _ _ _ ?_
  split
  · exact h.answer _ _ _ _
  · split
    · exact h.answer _ _ _ _
    · next hm => exact ((h.modeChange _ hm).answer _ _ _ _).settle _ _

theorem execLineSet_still (t : Byte) (f : SettingsFields) : Yields (Still s) (execLineSet t f s) := by
  refine Still.request _ _ fun d u h => h.unlessInit _ _ _ ?_
  split
  · repeat' split
    · exact h.answer _ _ _ _
    · exact h.answer _ _ _ _
    · exact (Still.answer (by exact h.frame rfl rfl rfl rfl) _ _ _ _).settle _ _
  · split
    · exact h.answer _ _ _ _
    · refine Still.answer ?_ _ _ _ _
      unfold State.setOven; dsimp only; repeat' split
      · exact h.withOven _ (by simp)
      · exact (h.withOven _ (by simp)).post _
      · exact h.withOven _ (by simp)
  · exact h.answer _ _ _ _

theorem State.lineReset_noStart : NoStart s s.lineReset where
  ops l _ := by rw [State.lineReset_lane]; rfl
  shuttle _ := rfl
  boards _ _ hb := nomatch hb

theorem execLineReset_still (t : Byte) : Yields (Still s) (execLineReset t s) := by
  refine Still.request _ _ fun d u h => h.unlessInit _ _ _ ?_
  split
  · have reset : Still u u.lineReset := ⟨rfl, fun _ => State.lineReset_noStart⟩
    exact (h.trans reset).answer _ _ _ _
  · exact h.answer _ _ _ _

/-! ## Recipe store, keep-out table, criteria -/

theorem execClassWrite_still (t : Byte) (c : Nat) (f : ClassFields) : Yields (Still s) (execClassWrite t c f s) := by
  refine Still.request _ _ fun d u h => h.unlessInit _ _ _ ?_
  split
  · exact h.answer _ _ _ _
  · exact Still.answer (by exact h.frame rfl rfl rfl rfl) _ _ _ _

theorem execMaterialWrite_still (t : Byte) (m : Nat) (f : MaterialFields) : Yields (Still s) (execMaterialWrite t m f s) := by
  refine Still.request _ _ fun d u h => h.unlessInit _ _ _ ?_
  split
  · exact h.answer _ _ _ _
  · exact Still.answer (by exact h.frame rfl rfl rfl rfl) _ _ _ _

theorem Still.startEdit (h : Still s0 s) (d : Header) (k : Nat) (e : EditKind) (rs : List (Nat × Nat)) (free : Bool)
    (x : NumSet 48) (steps : List EditStep) : Still s0 (s.startEdit d k e rs free x steps) := by
  unfold State.startEdit; repeat' split
  · exact h.answer _ _ _ _
  · exact h.answer _ _ _ _
  · exact h.answer _ _ _ _
  · exact h.frame rfl rfl rfl rfl

theorem execRuleWrite_still (t : Byte) (i : Nat) (f : EntryFields) : Yields (Still s) (execRuleWrite t i f s) := by
  refine Still.request _ _ fun d u h => h.unlessInit _ _ _ ?_
  repeat' split
  · exact h.answer _ _ _ _
  · exact h.startEdit _ _ _ _ _ _ _
  · exact h.answer _ _ _ _

theorem execRuleFill_still (t : Byte) (a b : Nat) (f : EntryFields) : Yields (Still s) (execRuleFill t a b f s) := by
  refine Still.request _ _ fun d u h => h.unlessInit _ _ _ ?_
  repeat' split
  · exact h.answer _ _ _ _
  · exact h.startEdit _ _ _ _ _ _ _
  · exact h.answer _ _ _ _

theorem execRuleMove_still (t : Byte) (a b n : Nat) : Yields (Still s) (execRuleMove t a b n s) := by
  refine Still.request _ _ fun d u h => h.unlessInit _ _ _ ?_
  split
  · exact h.startEdit _ _ _ _ _ _ _
  · exact h.answer _ _ _ _

theorem execRuleRead_still (t : Byte) (i c : Nat) : Yields (Still s) (execRuleRead t i c s) := by
  refine Still.request _ _ fun d u h => h.unlessInit _ _ _ ?_
  repeat' split
  · exact h.answer _ _ _ _
  · exact Still.answer (by exact h.frame rfl rfl rfl rfl) _ _ _ _
  · exact h.answer _ _ _ _

theorem Still.editStep (h : Still s0 s) (st : EditStep) : Still s0 (s.editStep st) := by
  cases st with
  | write i e => exact h.frame rfl rfl rfl rfl
  | copy i j => exact h.frame rfl rfl rfl rfl
  | clear i => exact h.frame rfl rfl rfl rfl

theorem execEditStep_still : Yields (Still s) (execEditStep s) := by
  refine .next ?_
  show Still s s.nextEditStep
  unfold State.nextEditStep; dsimp only; split
  · exact .refl s
  · split
    · exact .refl s
    · next e _ _ st _ _ =>
        have g := ((Still.refl s).reach (e.accepted + e.taken + 1)).editStep st
        split
        · exact (((Still.answer (by exact g.frame rfl rfl rfl rfl) _ _ _ _).startTest 0).startTest 1).settle _ _
        · exact g.frame rfl rfl rfl rfl

theorem Still.mapBoards (h : Still s0 s) (f : Board → Board) (hf : ∀ b : Board, (f b).life = b.life) :
    Still s0 (s.mapBoards f) := by
  refine h.trans ⟨rfl, fun _ => ⟨fun _ => id, id, fun k x hx hl => ?_⟩⟩
  rw [State.mapBoards_board, Option.map_eq_some_iff] at hx
  obtain ⟨b, hb, rfl⟩ := hx
  exact ⟨b, hb, (hf b).symm.trans hl⟩

theorem execCriterionWrite_still (t : Byte) (i : Nat) (f : CriterionFields) :
    Yields (Still s) (execCriterionWrite t i f s) := by
  refine Still.request _ _ fun d u h => h.unlessInit _ _ _ ?_
  repeat' split
  · exact h.answer _ _ _ _
  · next c _ _ =>
      have criterion : Still s (u.setCriterion i c) := h.frame rfl rfl rfl rfl
      exact (criterion.mapBoards (Board.setTally i 0) fun _ => rfl).answer _ _ _ _
  · exact h.answer _ _ _ _

/-! ## Routing, holds and inspection -/

theorem Board.divertFor_life (n : Nat) (b : Board) : (b.divertFor n).life = b.life := by
  unfold Board.divertFor; split <;> rfl

theorem Still.divertAll (h : Still s0 s) (n : Nat) : Still s0 (s.divertAll n) := by
  have marked : Still s0 (s.markAll n) :=
    List.foldlRecOn _ _ h fun _ hu k _ => hu.modBoard k _ fun b _ hl => (b.divertFor_life n).symm.trans hl
  unfold State.divertAll; split
  · refine List.foldlRecOn _ _ marked fun u hu k _ => ?_
    split
    · exact hu.toFlashing _ _
    · exact hu
  · exact h

theorem Still.reportAll (h : Still s0 s) (a : State) : Still s0 (reportAll a s) := by
  refine List.foldlRecOn _ _ h fun u hu k _ => ?_
  split
  · exact hu.react _ _
  · exact hu

theorem Still.routeWrite (h : Still s0 s) (n : Nat) (r : RouteEntry) : Still s0 (s.routeWrite n r) := by
  have route : Still s0 (s.setRoute n r) := h.frame rfl rfl rfl rfl
  have g := (route.divertAll n).reportAll s
  unfold State.routeWrite; dsimp only; split
  · exact g.post _
  · exact g

theorem execRouteWrite_still (t : Byte) (n : Nat) (f : RouteFields) : Yields (Still s) (execRouteWrite t n f s) := by
  refine Still.request _ _ fun d u h => h.unlessInit _ _ _ ?_
  repeat' split
  · exact h.answer _ _ _ _
  · exact ((h.routeWrite _ _).answer _ _ _ _).settle _ _
  · exact h.answer _ _ _ _

theorem execHold_still (t : Byte) (slot : Nat) : Yields (Still s) (execHold t slot s) := by
  refine Still.request _ _ fun d u h => h.unlessInit _ _ _ ?_
  repeat' split
  · exact h.answer _ _ _ _
  · exact h.answer _ _ _ _
  · exact ((h.raise _ _).answer _ _ _ _).settle _ _

theorem execHoldTake_still (t : Byte) : Yields (Still s) (execHoldTake t s) := by
  refine Still.request _ _ fun d u h => h.unlessInit _ _ _ ?_
  split
  · exact h.answer _ _ _ _
  · next c _ =>
      have g := h.modBoardQuiet c.slot (fun b =>
        { b with pendingSet := b.pendingSet.leave c.reason, inService := b.inService.join c.reason }) (by simp)
      exact Still.answer (by exact g.frame rfl rfl rfl rfl) _ _ _ _

theorem Still.applyVerdict (h : Still s0 s) (k n : Nat) (v : ReleaseVerdict) (b : Board) :
    Still s0 (s.applyVerdict k n v b) := by
  cases v with
  | goOn =>
    have g := h.modBoardQuiet k Board.clearFindings fun _ _ => id
    simp only [State.applyVerdict]; split <;> split
    · exact g.raiseCore _ _ _
    · exact h.raiseCore _ _ _
    · exact g
    · exact h
  | divert => exact h.modBoard _ _ fun _ _ => id
  | scrap => exact h.modBoard _ _ fun _ _ => id

theorem execHoldRelease_still (t : Byte) (slot reason verdict : Nat) :
    Yields (Still s) (execHoldRelease t slot reason verdict s) := by
  refine Still.request _ _ fun d u h => h.unlessInit _ _ _ ?_
  repeat' split
  any_goals exact h.answer _ _ _ _
  exact ((((h.modBoardQuiet _ _ (by simp)).applyVerdict _ _ _ _).react _ _).answer _ _ _ _).settle _ _

theorem Board.endMaskWait_life (b : Board) : b.endMaskWait.life = b.life := by
  unfold Board.endMaskWait; split <;> rfl

theorem Still.reportMask (h : Still s0 s) (k i : Nat) (v : SiteState) (b : Board) : Still s0 (s.reportMask k i v b) := by
  have site := h.modBoardQuiet k (Board.setSite i v) fun _ _ => id
  have ended : ∀ u, Still s0 u → Still s0 (u.modBoardQuiet k Board.endMaskWait) := fun u hu =>
    hu.modBoardQuiet _ _ fun b _ hl => b.endMaskWait_life.symm.trans hl
  unfold State.reportMask; dsimp only; split <;> split
  · exact (ended _ (site.raise _ _)).startTest _
  · exact (ended _ site).startTest _
  · exact ended _ (site.raise _ _)
  · exact ended _ site

theorem execMaskReport_still (t : Byte) (slot k v : Nat) : Yields (Still s) (execMaskReport t slot k v s) := by
  refine Still.request _ _ fun d u h => h.unlessInit _ _ _ ?_
  dsimp only; repeat' split
  any_goals exact h.answer _ _ _ _
  exact ((h.reportMask _ _ _ _).answer _ _ _ _).settle _ _

theorem execMaskWaitExpiry_still (slot : Nat) : Yields (Still s) (execMaskWaitExpiry slot s) := by
  refine .next ?_
  show Still s (s.maskWaitExpiry slot)
  unfold State.maskWaitExpiry; split
  · exact .refl s
  · exact ((((Still.refl s).reach _).modBoardQuiet _ _ (by simp)).raise _ _).settle _ _

theorem Board.taken_life (f : Finding) (hits : List Nat) (b : Board) : ((b.record f).raiseTallies hits).life = b.life := by
  have tallies : ∀ b : Board, (b.raiseTallies hits).life = b.life := fun b =>
    List.foldlRecOn (motive := fun c : Board => c.life = b.life) _ _ rfl fun _ hc _ _ => hc
  rw [tallies]
  unfold Board.record; split <;> rfl

theorem execFinding_still (t : Byte) (slot kind side x y : Nat) : Yields (Still s) (execFinding t slot kind side x y s) := by
  refine Still.request _ _ fun d u h => h.unlessInit _ _ _ ?_
  dsimp only; repeat' split
  any_goals exact h.answer _ _ _ _
  refine Still.settle (Still.answer ?_ _ _ _ _) _ _
  exact List.foldlRecOn _ _ (h.modBoardQuiet _ _ fun b _ hl => (b.taken_life _ _).symm.trans hl) fun _ hu _ _ => hu.raise _ _

theorem execInspectDone_still (t : Byte) (slot : Nat) : Yields (Still s) (execInspectDone t slot s) := by
  refine Still.request _ _ fun d u h => h.unlessInit _ _ _ ?_
  have g := h.modBoardQuiet slot (fun b => { b with inspectDone := true }) (by simp)
  dsimp only; repeat' split
  any_goals exact h.answer _ _ _ _
  · exact (g.answer _ _ _ _).settle _ _
  · exact ((g.testReady _).answer _ _ _ _).settle _ _

/-! ## Path engine and applicators -/

theorem execStrokeLoad_still (t : Byte) (lane first : Nat) (rs : List StrokeFields) :
    Yields (Still s) (execStrokeLoad t lane first rs s) := by
  refine Still.request _ _ fun d u h => h.unlessInit _ _ _ ?_
  repeat' split
  any_goals exact h.answer _ _ _ _
  exact (h.modLane _ _ (by simp)).answer _ _ _ _

theorem execArmLane_still (t : Byte) (lane c first count chain auto : Nat) :
    Yields (Still s) (execArmLane t lane c first count chain auto s) := by
  refine Still.request _ _ fun d u h => ?_
  dsimp only; repeat' split
  any_goals exact h.answer _ _ _ _
  exact (((h.modLane _ _ (by simp)).answer _ _ _ _).startTest _).settle _ _

theorem Still.disarm (h : Still s0 s) (l : Fin 2) : Still s0 (s.disarm l) := by
  have board : ∀ u, Still s0 u → Still s0 (u.disarmBoard l) := fun u hu => by
    unfold State.disarmBoard; repeat' split
    · exact hu
    · exact ((hu.modLane _ _ (by simp +contextual)).modBoardQuiet _ _ (by simp)).raise _ _
    · exact hu
  have cleared : ∀ u, Still s0 u → Still s0 (u.clearArming l) := fun u hu => hu.modLane l _ (by simp)
  unfold State.disarm; split
  · exact h
  · exact cleared _ h
  all_goals exact board _ (cleared _ (h.clearNeed l))

theorem execDisarm_still (t : Byte) (lane : Nat) : Yields (Still s) (execDisarm t lane s) := by
  refine Still.request _ _ fun d u h => h.unlessInit _ _ _ ?_
  split
  · exact h.answer _ _ _ _
  · exact ((h.disarm _).answer _ _ _ _).settle _ _

theorem execLaneStatus_still (t : Byte) (lane clear : Nat) : Yields (Still s) (execLaneStatus t lane clear s) := by
  refine Still.request _ _ fun d u h => h.unlessInit _ _ _ ?_
  repeat' split
  any_goals exact h.answer _ _ _ _
  exact (h.modLane _ _ (by simp)).answer _ _ _ _

theorem Still.headReply (h : Still s0 s) (l : Fin 2) (op : Nat) (e : OpEnd) : Still s0 (s.headReply l op e) := by
  have late : Still s0 (s.lateReply l op (decide (e ≠ .done))) := (h.modLane l _ (by simp)).post _
  unfold State.headReply; repeat' split
  · exact late
  · exact (h.opEnd _ _ _).settle _ _
  · exact late

theorem execHeadDone_still (l : Fin 2) (op : Byte) : Yields (Still s) (execHeadDone l op s) :=
  .next ((Still.refl s).discardInit _ ((Still.refl s).headReply _ _ _))

theorem execHeadFault_still (l : Fin 2) (op : Byte) (k : Nat) : Yields (Still s) (execHeadFault l op k s) :=
  .next ((Still.refl s).discardInit _ ((Still.refl s).headReply _ _ _))

theorem execHeadDeadline_still (l : Fin 2) : Yields (Still s) (execHeadDeadline l s) := by
  refine .next ?_
  show Still s (s.headDeadline l)
  unfold State.headDeadline; repeat' split
  · exact .refl s
  · exact .refl s
  · exact (((Still.refl s).reach _).opEnd _ _ _).settle _ _

theorem execHeadCommandSent_still (l : Fin 2) (op : Byte) : Yields (Still s) (execHeadCommandSent l op s) :=
  .next ((Still.refl s).modLane l _ (by simp +contextual))

theorem Still.appRequest (h : Still s0 s) (d : Header) (k app : Nat) (f : Fin 6 → State) (hf : ∀ a, Still s0 (f a)) :
    Still s0 (s.appRequest d k app f) := by
  unfold State.appRequest; repeat' split
  any_goals exact h.answer _ _ _ _
  exact hf _

theorem execPrime_still (t : Byte) (app m : Nat) : Yields (Still s) (execPrime t app m s) := by
  refine Still.request _ _ fun d u h => ?_
  unfold State.primeRequest; repeat' split
  any_goals exact h.answer _ _ _ _
  exact ((h.enqueue _).answer _ _ _ _).settle _ _

theorem execPurge_still (t : Byte) (app : Nat) : Yields (Still s) (execPurge t app s) := by
  refine Still.request _ _ fun d u h => h.appRequest _ _ _ _ fun a => ?_
  unfold State.purgeRequest; split
  any_goals exact h.answer _ _ _ _
  all_goals exact ((h.enqueue _).answer _ _ _ _).settle _ _

theorem Still.acceptWait (h : Still s0 s) (d : Header) (k : Nat) (w : WaitKind) (a : Fin 6) :
    Still s0 (s.acceptWait d k w a) := (Still.answer (h.withApps _) _ _ _ _).settle _ _

theorem execPark_still (t : Byte) (app : Nat) : Yields (Still s) (execPark t app s) := by
  refine Still.request _ _ fun d u h => h.appRequest _ _ _ _ fun a => ?_
  unfold State.parkRequest; split
  any_goals exact h.answer _ _ _ _
  all_goals exact h.acceptWait _ _ _ _

theorem execUnpark_still (t : Byte) (app : Nat) : Yields (Still s) (execUnpark t app s) := by
  refine Still.request _ _ fun d u h => h.appRequest _ _ _ _ fun a => ?_
  unfold State.unparkRequest; split
  any_goals exact h.answer _ _ _ _
  exact h.acceptWait _ _ _ _

theorem execKeepWetExpiry_still (a : Fin 6) : Yields (Still s) (execKeepWetExpiry a s) := by
  refine .next ?_
  show Still s (s.keepWetExpiry a)
  unfold State.keepWetExpiry; split
  · exact .refl s
  · exact (((Still.refl s).reach _).modUnit _ _).settle _ _

theorem execPrimeWindowAgeOut_still : Yields (Still s) (execPrimeWindowAgeOut s) := by
  refine .next ?_
  show Still s s.ageOut
  unfold State.ageOut; split
  · exact .refl s
  · exact (((Still.refl s).reach _).withApps _).settle _ _

/-! ## Board tracker -/

theorem Still.appendHistory (h : Still s0 s) (g : List Byte) (c p : Nat) (d : Disposition) (x : NumSet 16) (t : Nat) :
    Still s0 (s.appendHistory g c p d x t) := h.frame rfl rfl rfl rfl

theorem Still.setQueue (h : Still s0 s) (l : Fin 2) (q : List Nat) : Still s0 (s.setQueue l q) := h.frame rfl rfl rfl rfl

theorem Still.lowerUse (h : Still s0 s) (c : Nat) : Still s0 (s.lowerUse c) := h.frame rfl rfl rfl rfl

theorem Still.retire (h : Still s0 s) (q : Bool) (k : Nat) (d : Disposition) : Still s0 (s.retire q k d) := by
  unfold State.retire; split
  · exact h
  · have removed : ∀ u, Still s0 u → Still s0 (u.setBoard k none) := fun _ hu => hu.setBoard k none fun _ _ => nofun
    dsimp only; split
    · exact removed _ ((((h.appendHistory _ _ _ _ _ _).setQueue _ _).freeBayOf k).lowerUse _)
    · exact (removed _ ((((h.appendHistory _ _ _ _ _ _).setQueue _ _).freeBayOf k).lowerUse _)).post _

theorem execRetire_still (t : Byte) (slot : Nat) : Yields (Still s) (execRetire t slot s) := by
  refine Still.request _ _ fun d u h => h.unlessInit _ _ _ ?_
  repeat' split
  any_goals exact h.answer _ _ _ _
  exact ((h.retire _ _ _).answer _ _ _ _).settle _ _

theorem Still.create (h : Still s0 s) (k : Nat) (l : Fin 2) (g : List Byte) (c : Nat) (d : Side) :
    Still s0 (s.create k l g c d) := by
  have created := h.setBoard k (some (newBoard g c l d (min 2 (computedPass (s.newestOf g))) s.clock (s.cls c).siteList))
    fun _ x hx hl => by cases hx; cases hl
  unfold State.create; dsimp only; split
  · exact Still.raiseCore (by exact created.frame rfl rfl rfl rfl) _ _ _
  · exact created.frame rfl rfl rfl rfl

theorem execAnnounce_still (t : Byte) (lane : Nat) (g : List Byte) (c side : Nat) :
    Yields (Still s) (execAnnounce t lane g c side s) := by
  refine Still.request _ _ fun d u h => ?_
  dsimp only; repeat' split
  any_goals exact h.answer _ _ _ _
  exact (h.create _ _ _ _ _).answer _ _ _ _

theorem State.arrived_life (u : State) (b : Board) : (u.arrived b).life ≠ .spraying := by
  unfold State.arrived; split <;> nofun

theorem execLaneArrive_still (l : Fin 2) : Yields (Still s) (execLaneArrive l s) := by
  refine .next ((Still.refl s).discardInit _ ?_)
  unfold State.laneArrive; split
  · exact (Still.refl s).post _
  · split
    · exact (Still.refl s).post _
    · next k _ _ =>
        have g := (Still.refl s).modBoard k s.arrived fun b _ hl => absurd hl (s.arrived_life b)
        dsimp only; split
        · exact (g.requestBay _).settle _ _
        · exact (g.startTest _).settle _ _

theorem execLaneClear_still (l : Fin 2) : Yields (Still s) (execLaneClear l s) := by
  refine .next ((Still.refl s).discardInit _ ?_)
  unfold State.laneClear; split
  · exact (Still.refl s).post _
  · split
    · exact (Still.refl s).post _
    · next k _ _ _ n _ =>
        have moved := ((Still.refl s).modBoard k (fun b => { b with loc := .bay n }) (by simp)).setQueue l
        exact (((((moved _).withOven _ (by exact id)).withOven _ (by exact id))).testReady k).settle _ _

/-! ## Oven controller -/

theorem execFlashReadyReached_still (slot : Nat) : Yields (Still s) (execFlashReadyReached slot s) := by
  refine .next ?_
  show Still s (s.flashReached slot)
  unfold State.flashReached; split
  · exact .refl s
  · exact ((((Still.refl s).reach _).modBoardQuiet _ _ (by simp)).testReady _).settle _ _

theorem execOpenDeadlineExpiry_still (slot : Nat) : Yields (Still s) (execOpenDeadlineExpiry slot s) := by
  refine .next ?_
  show Still s (s.openReached slot)
  unfold State.openReached; repeat' split
  · exact .refl s
  · exact (Still.refl s).reach _
  · exact (((Still.refl s).reach _).openExpiry _).settle _ _

theorem execAdmitDeadline_still : Yields (Still s) (execAdmitDeadline s) := by
  refine .next ?_
  show Still s s.admitDeadline
  unfold State.admitDeadline; repeat' split
  · exact .refl s
  · exact (((Still.refl s).reach _).withdraw _).settle _ _
  · exact .refl s

theorem execDivertDeadline_still : Yields (Still s) (execDivertDeadline s) := by
  refine .next ?_
  show Still s s.divertDeadline
  unfold State.divertDeadline; repeat' split
  · exact .refl s
  · exact .refl s
  · exact (((((Still.refl s).reach _).clearShuttle).modBoard _ _ (by simp)).post _).settle _ _

theorem execOvenEnter_still : Yields (Still s) (execOvenEnter s) := by
  refine .next ((Still.refl s).discardInit _ ?_)
  unfold State.ovenEnter; repeat' split
  · exact (Still.refl s).post _
  · next o _ _ _ =>
      have board := (Still.refl s).modBoard o.slot s.entered fun _ _ => nofun
      exact (((board.withOven _ (by simp)).freeBay _).clearShuttle).settle _ _
  · exact (Still.refl s).post _

theorem execDivertPass_still : Yields (Still s) (execDivertPass s) := by
  refine .next ((Still.refl s).discardInit _ ?_)
  unfold State.divertPass; repeat' split
  · exact (Still.refl s).post _
  · exact (Still.refl s).post _
  · exact (((Still.refl s).clearShuttle).retire _ _ _).settle _ _

theorem execEntryWindowExpiry_still : Yields (Still s) (execEntryWindowExpiry s) := by
  refine .next ?_
  show Still s s.entryCeased
  unfold State.entryCeased; split
  · exact .refl s
  · exact (((Still.refl s).reach _).withOven _ (by simp)).settle _ _

theorem execEntryDrop_still : Yields (Still s) (execEntryDrop s) := by
  refine .next ?_
  show Still s s.entryDropped
  unfold State.entryDropped; split
  · exact .refl s
  · exact (((Still.refl s).reach _).withOven _ (by simp)).settle _ _

theorem Still.creditBoard (h : Still s0 s) (t k : Nat) : Still s0 (s.creditBoard t k) := by
  have g := h.modBoardQuiet k (s.credited t) fun _ _ => id
  unfold State.creditBoard; dsimp only; repeat' split
  · exact h
  · exact g.raise _ _
  · exact g

theorem Still.zoneSample (h : Still s0 s) (z : Nat) (x : BitVec 16) (f : Bool) : Still s0 (s.zoneSample z x f) := by
  have credit : ∀ n t u, Still s0 u → Still s0 (u.creditZone n t) := fun _ _ _ hu =>
    List.foldlRecOn _ _ hu fun _ hv _ _ => hv.creditBoard _ _
  have zone : ∀ i r, Still s0 (s.setZone i r) := fun _ _ => h.withOven _ (by simp)
  unfold State.zoneSample State.validSample; dsimp only; repeat' split
  · exact h.post _
  · exact h
  · exact (credit _ _ _ ((zone _ _).post _)).settle _ _
  · exact (credit _ _ _ (zone _ _)).settle _ _

theorem execZoneSample_still (z : Nat) (x : BitVec 16) (f : Bool) : Yields (Still s) (execZoneSample z x f s) :=
  .next ((Still.refl s).discardInit _ ((Still.refl s).zoneSample z x f))

theorem execZoneStale_still (z : Fin 4) : Yields (Still s) (execZoneStale z s) := by
  refine .next ?_
  show Still s (s.zoneStale z)
  unfold State.zoneStale; split
  · exact .refl s
  · exact (((((Still.refl s).reach _).withOven _ (by simp)).post _).withdrawAny).settle _ _

theorem execZoneChange_still (slot : Nat) : Yields (Still s) (execZoneChange slot s) := by
  refine .next ?_
  show Still s (s.zoneChange slot)
  unfold State.zoneChange; split
  · exact .refl s
  · exact ((Still.refl s).reach _).modBoardQuiet _ _ (by simp)

theorem execOverdueExpiry_still (slot : Nat) : Yields (Still s) (execOverdueExpiry slot s) := by
  refine .next ?_
  show Still s (s.overdue slot)
  unfold State.overdue; split
  · exact .refl s
  · exact ((((Still.refl s).reach _).modBoardQuiet _ _ (by simp)).raise _ _).settle _ _

theorem Still.judgeExit (h : Still s0 s) (k : Nat) (v : Verdict) : Still s0 (s.judgeExit k v) := by
  have g := h.modBoardQuiet k (fun b => { b with overdueArmed := false, verdict := some v }) (by simp)
  unfold State.judgeExit; dsimp only; split
  · exact g
  · exact g.raise _ _

theorem Still.exitBoard (h : Still s0 s) (k : Nat) (v : Verdict) : Still s0 (s.exitBoard k v) := by
  unfold State.exitBoard; split
  · exact h
  · exact (h.withOven _ (by simp)).retire _ _ _

theorem execOvenExit_still : Yields (Still s) (execOvenExit s) := by
  refine .next ((Still.refl s).discardInit _ ?_)
  unfold State.ovenExit; split
  · exact (Still.refl s).post _
  · next k rest _ =>
      have left := (Still.refl s).withOven { s.oven with occupancy := rest } (by simp)
      have gone := fun v => (left.judgeExit k v).exitBoard k v
      dsimp only; split
      · refine Still.settle ?_ _ _
        unfold State.applyStaged; split
        · exact gone _
        · exact ((gone _).withOven _ (by simp)).post _
      · exact (gone _).settle _ _

/-! ## Link port -/

theorem Still.intakeFrame (h : Still s0 s) (f : Frame) : Still s0 (s.intakeFrame f) := by
  have place : Still s0 (s.takePlace f.kind.toNat f.tag) := h.frame rfl rfl rfl rfl
  unfold State.intakeFrame State.admitFrame; repeat' split
  any_goals exact h
  · exact h.answer _ _ _ _
  any_goals exact place.answer _ _ _ _
  exact place.frame rfl rfl rfl rfl

theorem Still.frameIn (h : Still s0 s) (k : Link) (f : Frame) : Still s0 (s.frameIn k f) := by
  have field : ∀ k, Still s0 (s.fieldFrame k f) := fun k => by
    unfold State.fieldFrame; split
    · exact h.discardInit _ (h.headReply _ _ _)
    · exact h.discardInit _ (h.headReply _ _ _)
    · exact h.discardInit _ (h.zoneSample _ _ _)
    · exact h
  cases k with
  | message => exact h.intakeFrame f
  | head l => exact field _
  | ovenNode => exact field _

theorem Still.framesIn (h : Still s0 s) (k : Link) (fs : List Frame) : Still s0 (fs.foldl (fun u f => u.frameIn k f) s) :=
  List.foldlRecOn _ _ h fun _ hu f _ => hu.frameIn k f

theorem State.bytesIn_still (k : Link) (bs : List Byte) : Still s (s.bytesIn k bs) := Still.framesIn (by exact (Still.refl s).frame rfl rfl rfl rfl) k _

theorem execFrameTimeout_still (k : Link) : Yields (Still s) (execFrameTimeout k s) := by
  refine .next ?_
  show Still s (s.frameSilent k)
  unfold State.frameSilent; split
  · exact .refl s
  · exact Still.framesIn (by exact (Still.refl s).frame rfl rfl rfl rfl) k _

theorem State.replySend_still : Still s s.replySend := by
  unfold State.replySend; split <;> exact (Still.refl s).frame rfl rfl rfl rfl

theorem State.replySent_still : Still s s.replySent := by
  unfold State.replySent; split <;> exact (Still.refl s).frame rfl rfl rfl rfl

theorem State.noticeSend_still : Still s s.noticeSend := by
  unfold State.noticeSend; split <;> exact (Still.refl s).frame rfl rfl rfl rfl

theorem State.noticeSent_still : Still s s.noticeSent := by
  unfold State.noticeSent; split <;> exact (Still.refl s).frame rfl rfl rfl rfl

/-! ## Requests that only read -/

theorem execLineStatus_still (t : Byte) : Yields (Still s) (execLineStatus t s) :=
  Still.request _ _ fun _ _ h => h.answer _ _ _ _

theorem execOvenStatus_still (t : Byte) : Yields (Still s) (execOvenStatus t s) :=
  Still.request _ _ fun _ _ h => h.unlessInit _ _ _ (h.answer _ _ _ _)

theorem execClassRead_still (t : Byte) (c : Nat) : Yields (Still s) (execClassRead t c s) := by
  refine Still.request _ _ fun d u h => h.unlessInit _ _ _ ?_
  repeat' split
  all_goals exact h.answer _ _ _ _

theorem execMaterialRead_still (t : Byte) (m : Nat) : Yields (Still s) (execMaterialRead t m s) := by
  refine Still.request _ _ fun d u h => h.unlessInit _ _ _ ?_
  repeat' split
  all_goals exact h.answer _ _ _ _

theorem execRuleProbe_still (t : Byte) (c d x y : Nat) : Yields (Still s) (execRuleProbe t c d x y s) := by
  refine Still.request _ _ fun d u h => h.unlessInit _ _ _ ?_
  repeat' split
  all_goals exact h.answer _ _ _ _

theorem execCriterionRead_still (t : Byte) (i : Nat) : Yields (Still s) (execCriterionRead t i s) := by
  refine Still.request _ _ fun d u h => h.unlessInit _ _ _ ?_
  repeat' split
  all_goals exact h.answer _ _ _ _

theorem execRouteRead_still (t : Byte) (n : Nat) : Yields (Still s) (execRouteRead t n s) := by
  refine Still.request _ _ fun d u h => h.unlessInit _ _ _ ?_
  repeat' split
  all_goals exact h.answer _ _ _ _

theorem execStrokeRead_still (t : Byte) (lane first count : Nat) : Yields (Still s) (execStrokeRead t lane first count s) := by
  refine Still.request _ _ fun d u h => h.unlessInit _ _ _ ?_
  repeat' split
  all_goals exact h.answer _ _ _ _

theorem execApplicatorStatus_still (t : Byte) (app : Nat) : Yields (Still s) (execApplicatorStatus t app s) := by
  refine Still.request _ _ fun d u h => h.unlessInit _ _ _ ?_
  repeat' split
  all_goals exact h.answer _ _ _ _

theorem execBoardRead_still (t : Byte) (slot view : Nat) : Yields (Still s) (execBoardRead t slot view s) := by
  refine Still.request _ _ fun d u h => h.unlessInit _ _ _ ?_
  repeat' split
  all_goals exact h.answer _ _ _ _

theorem execBoardList_still (t : Byte) (lane life : Nat) : Yields (Still s) (execBoardList t lane life s) := by
  refine Still.request _ _ fun d u h => h.unlessInit _ _ _ ?_
  repeat' split
  all_goals exact h.answer _ _ _ _

theorem execHistoryRead_still (t : Byte) (start count : Nat) : Yields (Still s) (execHistoryRead t start count s) := by
  refine Still.request _ _ fun d u h => h.unlessInit _ _ _ ?_
  repeat' split
  all_goals exact h.answer _ _ _ _

theorem execHoldStatus_still (t : Byte) (slot first : Nat) : Yields (Still s) (execHoldStatus t slot first s) := by
  refine Still.request _ _ fun d u h => h.unlessInit _ _ _ ?_
  repeat' split
  all_goals exact h.answer _ _ _ _

/-! ## Every command -/

theorem Yields.startsNothing {o : Host.Outcome State Fault Refusal} (h : Yields (Still s) o) : Yields (StartsNothing s) o :=
  h.imp fun _ g => g.startsNothing

/-- No command that ends in HALTED or INITIALIZING has started anything. -/
theorem exec_startsNothing (i : Instr) (s : State) : Yields (StartsNothing s) (exec i s) := by
  cases i with
  | powerOn e => exact execPowerOn_startsNothing e
  | startUpEnd => exact execStartUpEnd_startsNothing
  | estopChange a => exact execEstopChange_startsNothing a
  | requestFrame bs => exact Yields.startsNothing (.next (State.bytesIn_still .message bs))
  | frameTimeout k => exact (execFrameTimeout_still k).startsNothing
  | replySend => exact Yields.startsNothing (.next State.replySend_still)
  | replySent => exact Yields.startsNothing (.next State.replySent_still)
  | noticeSend => exact Yields.startsNothing (.next State.noticeSend_still)
  | lineStatus t => exact (execLineStatus_still t).startsNothing
  | lineSet t f => exact (execLineSet_still t f).startsNothing
  | mode t m => exact (execMode_still t m).startsNothing
  | halt t => exact execHalt_startsNothing t
  | recover t => exact execRecover_startsNothing t
  | lineReset t => exact (execLineReset_still t).startsNothing
  | classWrite t c f => exact (execClassWrite_still t c f).startsNothing
  | classRead t c => exact (execClassRead_still t c).startsNothing
  | materialWrite t m f => exact (execMaterialWrite_still t m f).startsNothing
  | materialRead t m => exact (execMaterialRead_still t m).startsNothing
  | ruleWrite t i e => exact (execRuleWrite_still t i e).startsNothing
  | ruleRead t i c => exact (execRuleRead_still t i c).startsNothing
  | ruleFill t a b e => exact (execRuleFill_still t a b e).startsNothing
  | ruleMove t a b n => exact (execRuleMove_still t a b n).startsNothing
  | ruleProbe t c d x y => exact (execRuleProbe_still t c d x y).startsNothing
  | editStep => exact execEditStep_still.startsNothing
  | criterionWrite t i f => exact (execCriterionWrite_still t i f).startsNothing
  | criterionRead t i => exact (execCriterionRead_still t i).startsNothing
  | routeWrite t n f => exact (execRouteWrite_still t n f).startsNothing
  | routeRead t n => exact (execRouteRead_still t n).startsNothing
  | strokeLoad t l i rs => exact (execStrokeLoad_still t l i rs).startsNothing
  | strokeRead t l i n => exact (execStrokeRead_still t l i n).startsNothing
  | armLane t l c i n m a => exact (execArmLane_still t l c i n m a).startsNothing
  | disarm t l => exact (execDisarm_still t l).startsNothing
  | laneStatus t l c => exact (execLaneStatus_still t l c).startsNothing
  | prime t a m => exact (execPrime_still t a m).startsNothing
  | purge t a => exact (execPurge_still t a).startsNothing
  | park t a => exact (execPark_still t a).startsNothing
  | unpark t a => exact (execUnpark_still t a).startsNothing
  | applicatorStatus t a => exact (execApplicatorStatus_still t a).startsNothing
  | announce t l g c d => exact (execAnnounce_still t l g c d).startsNothing
  | boardRead t b v => exact (execBoardRead_still t b v).startsNothing
  | boardList t l f => exact (execBoardList_still t l f).startsNothing
  | retire t b => exact (execRetire_still t b).startsNothing
  | historyRead t n c => exact (execHistoryRead_still t n c).startsNothing
  | maskReport t b k v => exact (execMaskReport_still t b k v).startsNothing
  | finding t b k d x y => exact (execFinding_still t b k d x y).startsNothing
  | inspectDone t b => exact (execInspectDone_still t b).startsNothing
  | hold t b => exact (execHold_still t b).startsNothing
  | holdTake t => exact (execHoldTake_still t).startsNothing
  | holdRelease t b r v => exact (execHoldRelease_still t b r v).startsNothing
  | holdStatus t b f => exact (execHoldStatus_still t b f).startsNothing
  | ovenStatus t => exact (execOvenStatus_still t).startsNothing
  | laneArrive l => exact (execLaneArrive_still l).startsNothing
  | laneClear l => exact (execLaneClear_still l).startsNothing
  | maskWaitExpiry b => exact (execMaskWaitExpiry_still b).startsNothing
  | headDone l op => exact (execHeadDone_still l op).startsNothing
  | headFault l op k => exact (execHeadFault_still l op k).startsNothing
  | headDeadline l => exact (execHeadDeadline_still l).startsNothing
  | keepWetExpiry a => exact (execKeepWetExpiry_still a).startsNothing
  | primeWindowAgeOut => exact execPrimeWindowAgeOut_still.startsNothing
  | flashReadyReached b => exact (execFlashReadyReached_still b).startsNothing
  | openDeadlineExpiry b => exact (execOpenDeadlineExpiry_still b).startsNothing
  | admitDeadline => exact execAdmitDeadline_still.startsNothing
  | divertDeadline => exact execDivertDeadline_still.startsNothing
  | ovenEnter => exact execOvenEnter_still.startsNothing
  | divertPass => exact execDivertPass_still.startsNothing
  | entryWindowExpiry => exact execEntryWindowExpiry_still.startsNothing
  | entryDrop => exact execEntryDrop_still.startsNothing
  | zoneSample z x f => exact (execZoneSample_still z x f).startsNothing
  | zoneStale z => exact (execZoneStale_still z).startsNothing
  | zoneChange b => exact (execZoneChange_still b).startsNothing
  | overdueExpiry b => exact (execOverdueExpiry_still b).startsNothing
  | ovenExit => exact execOvenExit_still.startsNothing
  | noticeFrameSent => exact Yields.startsNothing (.next State.noticeSent_still)
  | headCommandSent l op => exact (execHeadCommandSent_still l op).startsNothing
  | fieldLinkFrameDiscard k bs => exact Yields.startsNothing (.next (State.bytesIn_still k bs))

/-- Settles O59: what a command that ends in HALTED or INITIALIZING leaves has been started before it. -/
theorem nothingStartsStopped : Obligations.NothingStartsStopped := by
  unfold Obligations.NothingStartsStopped
  intro i s t ht stopped
  have halted : t.line.mode.headsRun = false := by rcases stopped with hm | hm <;> rw [hm] <;> rfl
  have ⟨ops, shuttle, boards⟩ := (exec_startsNothing i s).of_next ht halted
  exact ⟨ops, shuttle, boards⟩

end Sys2Proof.Machine
end

section
/-! The applicator requests PRIME, PURGE, PARK and UNPARK (O8): the tests of R42 said once, then what the applicator's state
decides. -/

namespace Sys2Proof.Machine

variable {s : State}

/-! ## The tests of R42 -/

theorem LineMode.production_eq (m : LineMode) : m.production = decide (m = .config ∨ m = .run ∨ m = .drain) := by
  simp [LineMode.production, Bool.or_assoc]

theorem State.idle_eq (a : Fin 6) : (!s.queued a && (s.opOf a).isNone) = !s.busy a := by
  simp [State.busy, Option.not_isSome]

theorem appOf_of_val {n : Nat} {a : Fin 6} (h : a.val = n) : appOf n = some a := by
  subst h; exact dif_pos a.isLt

theorem appOf_isSome (n : Nat) : (appOf n).isSome = decide (n < 6) := by
  unfold appOf; split <;> simp_all

/-- The tests of R42, with one more that the applicator's state decides. -/
def State.appTests (s : State) (n : Nat) (takes : Fin 6 → Bool) : List (Bool × ResultCode) := [
  (decide (s.line.mode = .config ∨ s.line.mode = .run ∨ s.line.mode = .drain), .wrongMode),
  (decide (n < 6), .outOfRange),
  ((appOf n).any fun a => !s.queued a && (s.opOf a).isNone, .wrongState),
  ((appOf n).any takes, .wrongState)]

/-- A request of R42 that fails a test, where the applicators it does not take are refused. -/
theorem State.appRequest_refused {d : Header} {kind n : Nat} {f : Fin 6 → State} {takes : Fin 6 → Bool} {code : ResultCode}
    (h : firstFailure (s.appTests n takes) = some code)
    (hf : ∀ a, takes a = false → f a = s.refuse d kind .wrongState) : s.appRequest d kind n f = s.refuse d kind code := by
  rw [State.appTests, ← LineMode.production_eq, ← appOf_isSome, firstFailure_cons] at h
  unfold State.appRequest
  cases hm : s.line.mode.production with
  | false => rw [hm] at h; cases h; rfl
  | true =>
    rw [hm, if_pos rfl] at h
    cases ha : appOf n with
    | none => rw [ha] at h; cases h; rfl
    | some a =>
      simp only [ha, Option.isSome_some, firstFailure_passed, Option.any_some, State.idle_eq] at h
      cases hb : s.busy a with
      | true => rw [hb] at h; cases h; simp [hb]
      | false =>
        rw [hb, Bool.not_false, firstFailure_passed] at h
        cases ht : takes a with
        | true => rw [ht] at h; cases h
        | false => rw [ht] at h; cases h; simpa [hb] using hf a ht

/-- A request of R42 that passes the tests on its mode, its applicator and what is under way. -/
theorem State.appRequest_passed {d : Header} {kind n : Nat} {f : Fin 6 → State} {a : Fin 6} (hn : a.val = n)
    (hm : decide (s.line.mode = .config ∨ s.line.mode = .run ∨ s.line.mode = .drain) = true)
    (hi : (!s.queued a && (s.opOf a).isNone) = true) : s.appRequest d kind n f = f a := by
  have hb : s.busy a = false := by rwa [State.idle_eq, Bool.not_eq_true'] at hi
  simp [State.appRequest, LineMode.production_eq, hm, appOf_of_val hn, hb]

/-! ## What the applicator's state decides (R43 to R46) -/

theorem State.primeRequest_refused {d : Header} {a : Fin 6} {m : Nat} (hd : (s.unit a).state ≠ .idleDry)
    (hp : ¬((s.unit a).state = .primed ∧ (s.unit a).material = some m)) :
    s.primeRequest d a m = s.refuse d 0x28 .wrongState := by
  unfold State.primeRequest; split
  case h_1 hs => exact absurd hs hd
  case h_2 hs => exact if_neg fun hm => hp ⟨hs, hm⟩
  all_goals rfl

theorem State.purgeRequest_refused {d : Header} {a : Fin 6}
    (h : ¬((s.unit a).state = .idleDry ∨ (s.unit a).state = .primed ∨ (s.unit a).state = .fouled)) :
    s.purgeRequest d a = s.refuse d 0x29 .wrongState := by
  cases hs : (s.unit a).state <;> simp_all [State.purgeRequest]

theorem State.purgeRequest_accepted {d : Header} {a : Fin 6}
    (h : (s.unit a).state = .primed ∨ (s.unit a).state = .fouled) : s.purgeRequest d a =
      ((s.enqueue ⟨a, .purge, (s.unit a).material, .lineComputer⟩).answer d 0x29 .ok .accepted).settle false s := by
  rcases h with h | h <;> simp [State.purgeRequest, h]

theorem State.parkRequest_refused {d : Header} {a : Fin 6}
    (h : ¬((s.unit a).state = .primed ∨ (s.unit a).state = .idleDry ∨ (s.unit a).state = .capping ∨
      (s.unit a).state = .parked)) : s.parkRequest d a = s.refuse d 0x2A .wrongState := by
  cases hs : (s.unit a).state <;> simp_all [State.parkRequest]

theorem State.parkRequest_accepted {d : Header} {a : Fin 6}
    (h : (s.unit a).state = .primed ∨ (s.unit a).state = .idleDry) : s.parkRequest d a = s.acceptWait d 0x2A .cap a := by
  rcases h with h | h <;> simp [State.parkRequest, h]

theorem State.parkRequest_unchanged {d : Header} {a : Fin 6}
    (h : (s.unit a).state = .capping ∨ (s.unit a).state = .parked) : s.parkRequest d a = s.answer d 0x2A .ok .unchanged := by
  rcases h with h | h <;> simp [State.parkRequest, h]

theorem State.unparkRequest_refused {d : Header} {a : Fin 6}
    (h : ¬((s.unit a).state = .parked ∨ (s.unit a).state = .uncapping)) :
    s.unparkRequest d a = s.refuse d 0x2B .wrongState := by
  cases hs : (s.unit a).state <;> simp_all [State.unparkRequest]

/-! ## PRIME -/

/-- Where the material is valid, PRIME makes the tests of R42 alone. -/
theorem execPrime_of_valid {t : Byte} {n m : Nat} (h8 : m < 8) (hv : (s.mat m).valid = true) :
    execPrime t n m s = .next ((s.take (.prime t n m)).appRequest (s.header (.prime t n m)) 0x28 n fun a =>
      (s.take (.prime t n m)).primeRequest (s.header (.prime t n m)) a m) := by
  simp [execPrime, State.request, State.appRequest, h8, hv]

/-- Where it is not, the mode, then the applicator and the material. -/
theorem execPrime_of_invalid {t : Byte} {n m : Nat} {rest : List (Bool × ResultCode)} {code : ResultCode}
    (hv : ¬(m < 8 ∧ (s.mat m).valid = true))
    (h : firstFailure ((s.line.mode.production, .wrongMode) :: (decide (n < 6 ∧ m < 8), .outOfRange) ::
      ((s.mat m).valid, .notFound) :: rest) = some code) :
    execPrime t n m s = .next (s.replied (.prime t n m) 0x28 code .empty) := by
  have hmode : (s.take (.prime t n m)).line.mode = s.line.mode := rfl
  have hmat : (s.take (.prime t n m)).mat m = s.mat m := rfl
  refine congrArg Host.Outcome.next ?_
  simp only [hmode, hmat]
  rw [firstFailure_cons, firstFailure_cons, firstFailure_cons] at h
  split_ifs at h with hm hr hvalid
  · exact absurd ⟨(of_decide_eq_true hr).2, hvalid⟩ hv
  · obtain ⟨hn, h8⟩ := of_decide_eq_true hr
    cases h
    simp [hm, h8, appOf, hn, hvalid]
    rfl
  · cases h
    rw [decide_eq_true_iff, not_and_or] at hr
    rcases hr with hn | h8
    · simp [hm, appOf, hn]; rfl
    · by_cases hn : n < 6
      · simp [hm, appOf, hn, h8]; rfl
      · simp [hm, appOf, hn]; rfl
  · cases h; simp [hm]; rfl

theorem firstFailure_third_passed (p q : Bool × ResultCode) (c : ResultCode) (ts : List (Bool × ResultCode)) :
    firstFailure (p :: q :: (true, c) :: ts) = firstFailure (p :: q :: ts) := by
  obtain ⟨x, cx⟩ := p
  obtain ⟨y, cy⟩ := q
  simp [firstFailure_cons]

theorem execPrime_refused {t : Byte} {n m : Nat} {code : ResultCode} (h : firstFailure [
      (decide (s.line.mode = .config ∨ s.line.mode = .run ∨ s.line.mode = .drain), .wrongMode),
      (decide (n < 6 ∧ m < 8), .outOfRange), ((s.mat m).valid, .notFound),
      ((appOf n).any fun a => !s.queued a && (s.opOf a).isNone, .wrongState),
      ((appOf n).any fun a => decide ((s.unit a).state = .idleDry) ||
        decide ((s.unit a).state = .primed ∧ (s.unit a).material = some m), .wrongState)] = some code) :
    execPrime t n m s = .next (s.replied (.prime t n m) 0x28 code .empty) := by
  by_cases hv : m < 8 ∧ (s.mat m).valid = true
  · obtain ⟨h8, hvalid⟩ := hv
    rw [execPrime_of_valid h8 hvalid]
    simp only [h8, and_true, hvalid] at h
    refine congrArg Host.Outcome.next (State.appRequest_refused (s := s.take (.prime t n m)) (takes := fun a =>
      decide ((s.unit a).state = .idleDry) ||
        decide ((s.unit a).state = .primed ∧ (s.unit a).material = some m)) ?_ fun a ha => ?_)
    · rw [firstFailure_third_passed] at h
      exact h
    · rw [Bool.or_eq_false_iff, decide_eq_false_iff_not, decide_eq_false_iff_not] at ha
      exact State.primeRequest_refused ha.1 ha.2
  · rw [← LineMode.production_eq] at h
    exact execPrime_of_invalid hv h

/-! ## The obligation -/

/-- Settles O8: the tests by the tables of R42, the accepted requests by the applicator's state. -/
theorem applicatorRequests : Obligations.ApplicatorRequests := by
  unfold Obligations.ApplicatorRequests
  refine ⟨fun t n m s => ⟨fun code h => execPrime_refused h, fun code h => ?_, fun a hn hm hi => ⟨?_, ?_, ?_⟩⟩,
    fun t n s => ⟨fun code h => ?_, fun code h => ?_, fun a hn hm hi => ⟨?_, ?_, ?_, ?_⟩⟩⟩
  · refine congrArg Host.Outcome.next (State.appRequest_refused (s := s.take (.purge t n)) h fun a ha => ?_)
    exact State.purgeRequest_refused (of_decide_eq_false ha)
  · intro h8 hv
    have hprime := (execPrime_of_valid (t := t) (n := n) h8 hv).trans (congrArg Host.Outcome.next
      (State.appRequest_passed (s := s.take (.prime t n m)) hn hm hi))
    refine ⟨fun hd => hprime.trans ?_, fun hp hmat => hprime.trans ?_⟩
    · simp [State.primeRequest, hd]
    · simp [State.primeRequest, hp, hmat]; rfl
  · intro hd
    refine congrArg Host.Outcome.next ((State.appRequest_passed (s := s.take (.purge t n)) hn hm hi).trans ?_)
    simp [State.purgeRequest, hd]; rfl
  · intro hp
    exact congrArg Host.Outcome.next ((State.appRequest_passed (s := s.take (.purge t n)) hn hm hi).trans
      (State.purgeRequest_accepted hp))
  · refine congrArg Host.Outcome.next (State.appRequest_refused (s := s.take (.park t n)) h fun a ha => ?_)
    exact State.parkRequest_refused (of_decide_eq_false ha)
  · refine congrArg Host.Outcome.next (State.appRequest_refused (s := s.take (.unpark t n)) h fun a ha => ?_)
    exact State.unparkRequest_refused (of_decide_eq_false ha)
  · intro hp
    exact congrArg Host.Outcome.next ((State.appRequest_passed (s := s.take (.park t n)) hn hm hi).trans
      (State.parkRequest_accepted hp))
  · intro hp
    exact congrArg Host.Outcome.next ((State.appRequest_passed (s := s.take (.park t n)) hn hm hi).trans
      (State.parkRequest_unchanged hp))
  · intro hp
    refine congrArg Host.Outcome.next ((State.appRequest_passed (s := s.take (.unpark t n)) hn hm hi).trans ?_)
    simp [State.unparkRequest, hp]; rfl
  · intro hp
    refine congrArg Host.Outcome.next ((State.appRequest_passed (s := s.take (.unpark t n)) hn hm hi).trans ?_)
    simp [State.unparkRequest, hp]; rfl

end Sys2Proof.Machine
end

section
/-! LINE_SET (O48): the ranges of its two groups, then one equation per group of R172. -/

namespace Sys2Proof.Machine

variable {s : State}

/-! ## The two groups -/

/-- The application group within its ranges (R172). -/
abbrev LimitsInRange (l n el en : Nat) : Prop :=
  1 ≤ l ∧ l ≤ 8 ∧ 5 ≤ n ∧ n ≤ 120 ∧ 1 ≤ el ∧ el ≤ 8 ∧ 10 ≤ en ∧ en ≤ 600

/-- The oven group within its ranges, its zone end times strictly increasing (R172, R136). -/
abbrev OvenInRange (a b c d g : Nat) : Prop := 1 ≤ a ∧ a < b ∧ b < c ∧ c < d ∧ d ≤ 7200 ∧ 5 ≤ g ∧ g ≤ 300

theorem readLimits_eq (l n el en : Nat) :
    readLimits l n el en = if LimitsInRange l n el en then some ⟨l, n, el, en⟩ else none := by
  have ranges : (within 1 8 l && within 5 120 n && within 1 8 el && within 10 600 en) =
      decide (LimitsInRange l n el en) := by simp [Bool.and_assoc]
  rw [readLimits, ranges]
  simp

theorem readOvenSettings_eq (a b c d g : Nat) :
    readOvenSettings a b c d g = if OvenInRange a b c d g then some ⟨a, b, c, d, g⟩ else none := by
  have ranges : (within 1 7200 a && within 1 7200 b && within 1 7200 c && within 1 7200 d && decide (a < b) &&
      decide (b < c) && decide (c < d) && within 5 300 g) = decide (OvenInRange a b c d g) := by
    rw [Bool.eq_iff_iff]
    simp only [Bool.and_eq_true, decide_eq_true_eq]
    omega
  rw [readOvenSettings, ranges]
  simp

theorem State.setLimits_eq (m : Limits) (s : State) : s.setLimits m = { s with
    line := { s.line with limits := m }
    apps := { s.apps with startList := s.apps.startList.filter fun x => decide (s.clock < x + 1000 * m.windowLength) }
    oven := { s.oven with
      entryStart := s.oven.entryStart.map fun x => ⟨x.time, decide (x.time + 1000 * m.entryLength ≤ s.clock)⟩ } } := by
  have ceased (n : Nat) : (!decide (s.clock < n)) = decide (n ≤ s.clock) := by simp [← decide_not]
  simp only [State.setLimits, ceased]

theorem State.setOven_empty {v : OvenSettings} (h : s.oven.occupancy = []) :
    s.setOven v = { s with oven := { s.oven with settings := v } } := by
  rw [State.setOven, h]; rfl

theorem State.setOven_occupied {v : OvenSettings} (h : s.oven.occupancy ≠ []) :
    s.setOven v = if s.oven.staged = none then
      State.post .oven { s with oven := { s.oven with staged := some v } }
    else { s with oven := { s.oven with staged := some v } } := by
  have ho : s.oven.occupancy.isEmpty = false := by simpa using h
  simp only [State.setOven, ho, Option.isNone_iff_eq_none, Bool.false_eq_true, if_false]

/-! ## LINE_SET by its group -/

theorem execLineSet_application (t : Byte) (l n el en : Nat) :
    execLineSet t (.application l n el en) s =
      .next (if s.line.mode ≠ .config then s.replied (.lineSet t (.application l n el en)) 0x02 .wrongMode .empty
        else if LimitsInRange l n el en then
          (((s.take (.lineSet t (.application l n el en))).setLimits ⟨l, n, el, en⟩).answer
            (s.header (.lineSet t (.application l n el en))) 0x02 .ok .lineSetApplication).settle true
              (s.take (.lineSet t (.application l n el en)))
        else s.replied (.lineSet t (.application l n el en)) 0x02 .outOfRange .empty) := by
  rw [execLineSet, State.request_unlessInit]
  dsimp only
  rw [readLimits_eq]
  refine congrArg Host.Outcome.next ?_
  by_cases hi : s.line.mode = .initializing
  · simp [hi]
  · by_cases hr : LimitsInRange l n el en
    · rw [if_neg hi, if_pos hr, if_pos hr]; rfl
    · rw [if_neg hi, if_neg hr, if_neg hr]; rfl

theorem execLineSet_oven (t : Byte) (a b c d g : Nat) :
    execLineSet t (.oven a b c d g) s =
      .next (if s.line.mode = .initializing then s.replied (.lineSet t (.oven a b c d g)) 0x02 .wrongMode .empty
        else if OvenInRange a b c d g then
          ((s.take (.lineSet t (.oven a b c d g))).setOven ⟨a, b, c, d, g⟩).answer
            (s.header (.lineSet t (.oven a b c d g))) 0x02 .ok (.lineSetOven (!s.oven.occupancy.isEmpty))
        else s.replied (.lineSet t (.oven a b c d g)) 0x02 .outOfRange .empty) := by
  rw [execLineSet, State.request_unlessInit]
  dsimp only
  rw [readOvenSettings_eq]
  refine congrArg Host.Outcome.next ?_
  by_cases hr : OvenInRange a b c d g
  · rw [if_pos hr, if_pos hr]; rfl
  · rw [if_neg hr, if_neg hr]; rfl

theorem execLineSet_other (t : Byte) (n : Nat) :
    execLineSet t (.other n) s = .next (if s.line.mode = .initializing then
        s.replied (.lineSet t (.other n)) 0x02 .wrongMode .empty
      else s.replied (.lineSet t (.other n)) 0x02 .outOfRange .empty) := rfl

/-- The tests of R172 on the group that the request names, where one fails. -/
theorem execLineSet_refused {t : Byte} {f : SettingsFields} {code : ResultCode} (h : firstFailure [
      (decide (s.line.mode ≠ .initializing), .wrongMode),
      (match f with | .other _ => false | _ => true, .outOfRange),
      (match f with | .application .. => decide (s.line.mode = .config) | _ => true, .wrongMode),
      (match f with
        | .application l n el en =>
          decide (1 ≤ l ∧ l ≤ 8 ∧ 5 ≤ n ∧ n ≤ 120 ∧ 1 ≤ el ∧ el ≤ 8 ∧ 10 ≤ en ∧ en ≤ 600)
        | .oven a b c d g => decide (1 ≤ a ∧ a < b ∧ b < c ∧ c < d ∧ d ≤ 7200 ∧ 5 ≤ g ∧ g ≤ 300)
        | .other _ => true, .outOfRange)] = some code) :
    execLineSet t f s = .next (s.replied (.lineSet t f) 0x02 code .empty) := by
  rw [firstFailure_cons] at h
  cases f with
  | application l n el en =>
    rw [execLineSet_application]
    dsimp only at h
    simp only [firstFailure_cons, firstFailure_nil, decide_eq_true_eq, if_true] at h
    by_cases hc : s.line.mode = .config
    · have hi : s.line.mode ≠ .initializing := by rw [hc]; decide
      rw [if_pos hi, if_pos hc] at h
      split at h <;> simp_all
    · rw [if_neg hc] at h
      have : code = .wrongMode := by split at h <;> cases h <;> rfl
      rw [if_pos hc, this]
  | oven a b c d g =>
    rw [execLineSet_oven]
    dsimp only at h
    simp only [firstFailure_cons, firstFailure_nil, decide_eq_true_eq, if_true] at h
    split_ifs at h with hi hr
    · cases h; rw [if_neg hi, if_neg hr]
    · cases h; rw [if_pos (not_not.mp hi)]
  | other n =>
    rw [execLineSet_other]
    dsimp only at h
    simp only [firstFailure_failed, decide_eq_true_eq] at h
    split_ifs at h with hi
    · cases h; rw [if_neg hi]
    · cases h; rw [if_pos (not_not.mp hi)]

/-- Settles O48: the equation of the group, with its range test and what it writes. -/
theorem lineSet : Obligations.LineSet := by
  unfold Obligations.LineSet
  intro t f s
  refine ⟨fun code h => execLineSet_refused h, ?_, ?_⟩
  · rintro l n el en rfl hc h1 h2 h3 h4 h5 h6 h7 h8
    have hr : LimitsInRange l n el en := ⟨h1, h2, h3, h4, h5, h6, h7, h8⟩
    refine (execLineSet_application t l n el en).trans (congrArg Host.Outcome.next ?_)
    rw [if_neg (not_not.mpr hc), if_pos hr, State.setLimits_eq]
    rfl
  · rintro a b c d g rfl hi h1 h2 h3 h4 h5 h6 h7
    have hr : OvenInRange a b c d g := ⟨h1, h2, h3, h4, h5, h6, h7⟩
    have hset := execLineSet_oven (s := s) t a b c d g
    rw [if_neg hi, if_pos hr] at hset
    refine ⟨fun he => hset.trans (congrArg Host.Outcome.next ?_), fun ho => hset.trans (congrArg Host.Outcome.next ?_)⟩
    · rw [State.setOven_empty (s := s.take _) he, he]; rfl
    · have hoccupied : s.oven.occupancy.isEmpty = false := by simpa using ho
      rw [State.setOven_occupied (s := s.take _) ho, hoccupied]; rfl

end Sys2Proof.Machine
end

section
/-! The four status reads (O24): each is its tests and one answer. -/

namespace Sys2Proof.Machine

variable {s : State}

theorem laneOf_of_val {n : Nat} {l : Fin 2} (h : l.val = n) : laneOf n = some l := by
  subst h; exact dif_pos l.isLt

/-! ## Counts of boards by life state (R173) -/

/-- The number of boards in one of two disjoint kinds is the sum of the two numbers. -/
theorem countP_any_or {α β : Type} (f : α → Option β) {p q : β → Bool} (hpq : ∀ b, p b = true → q b = false)
    (xs : List α) : (xs.countP fun n => (f n).any fun b => p b || q b) =
      (xs.countP fun n => (f n).any p) + xs.countP fun n => (f n).any q := by
  induction xs with
  | nil => rfl
  | cons x xs ih =>
    simp only [List.countP_cons, ih]
    cases f x with
    | none => simp
    | some b =>
      by_cases hp : p b = true
      · simp [hp, hpq b hp]; omega
      · simp [hp]; omega

theorem State.count_beforeBuffer (s : State) : (s.boards.countP fun p => p.2.beforeBuffer) =
    ((List.range 32).countP fun n => (s.board n).any fun b => decide (b.life = .queued)) +
    ((List.range 32).countP fun n => (s.board n).any fun b => decide (b.life = .atSpray)) +
    ((List.range 32).countP fun n => (s.board n).any fun b => decide (b.life = .spraying)) := by
  rw [State.countP_boards]
  refine (countP_any_or s.board (q := fun b => decide (b.life = .spraying)) ?_ _).trans
    (congrArg (· + _) (countP_any_or s.board
      (p := fun b => decide (b.life = .queued)) (q := fun b => decide (b.life = .atSpray)) ?_ _))
  · intro b h
    rcases Bool.or_eq_true_iff.mp h with h | h <;> rw [of_decide_eq_true h] <;> rfl
  · intro b h
    rw [of_decide_eq_true h]; rfl

theorem State.lifeCounts_eq (s : State) : s.lifeCounts =
    [.queued, .atSpray, .spraying, .flashing, .ovenReady, .inOven].map fun k =>
      (List.range 32).countP fun n => (s.board n).any fun b => decide (b.life = k) :=
  List.map_congr_left fun _ _ => s.countP_boards _

/-! ## The reads -/

theorem execApplicatorStatus_eq (t : Byte) (n : Nat) : execApplicatorStatus t n s =
    .next (if s.line.mode = .initializing then s.replied (.applicatorStatus t n) 0x2C .wrongMode .empty
      else if n = 0xFF then s.replied (.applicatorStatus t n) 0x2C .ok (s.appBody allApps)
      else match appOf n with
        | none => s.replied (.applicatorStatus t n) 0x2C .outOfRange .empty
        | some a => s.replied (.applicatorStatus t n) 0x2C .ok (s.appBody [a])) := rfl

theorem execLaneStatus_refused {t : Byte} {n clear : Nat} (hi : s.line.mode ≠ .initializing)
    (hr : ¬(n < 2 ∧ clear < 2)) :
    execLaneStatus t n clear s = .next (s.replied (.laneStatus t n clear) 0x24 .outOfRange .empty) := by
  rw [execLaneStatus, State.request_unlessInit, if_neg hi]
  refine congrArg Host.Outcome.next ?_
  unfold laneOf
  by_cases hn : n < 2
  · have h0 : clear ≠ 0 := by omega
    have h1 : clear ≠ 1 := by omega
    simp only [hn, h0, h1, dite_true, if_false]; rfl
  · simp only [hn, dite_false]; rfl

theorem execLaneStatus_none {t : Byte} {n : Nat} {l : Fin 2} (hl : l.val = n) (hi : s.line.mode ≠ .initializing) :
    execLaneStatus t n 0 s = .next (s.replied (.laneStatus t n 0) 0x24 .ok (.laneStatus (s.laneView l))) := by
  rw [execLaneStatus, State.request_unlessInit, if_neg hi]
  simp only [laneOf_of_val hl]
  rfl

theorem execLaneStatus_late {t : Byte} {n : Nat} {l : Fin 2} (hl : l.val = n) (hi : s.line.mode ≠ .initializing) :
    execLaneStatus t n 1 s = .next (((s.take (.laneStatus t n 1)).setLane l { s.lane l with lateFlag := false }).answer
      (s.header (.laneStatus t n 1)) 0x24 .ok (.laneStatus (s.laneView l))) := by
  rw [execLaneStatus, State.request_unlessInit, if_neg hi]
  simp only [laneOf_of_val hl]
  rfl

theorem State.lineView_eq (s : State) : s.lineView = {
    clock := s.clock, line := s.line,
    clearLeft := if s.line.mode = .initializing then some (250 - s.clock) else none,
    settings := s.oven.settings, staged := s.oven.staged,
    counts := [.queued, .atSpray, .spraying, .flashing, .ovenReady, .inOven].map fun k =>
      (List.range 32).countP fun n => (s.board n).any fun b => decide (b.life = k),
    drainLeft := if s.line.mode = .drain then some
      (((List.range 32).countP fun n => (s.board n).any fun b => decide (b.life = .queued)) +
        ((List.range 32).countP fun n => (s.board n).any fun b => decide (b.life = .atSpray)) +
        ((List.range 32).countP fun n => (s.board n).any fun b => decide (b.life = .spraying))) else none } := by
  unfold State.lineView
  rw [State.lifeCounts_eq, State.count_beforeBuffer]
  rfl

theorem execOvenStatus_eq (t : Byte) : execOvenStatus t s =
    .next (if s.line.mode = .initializing then s.replied (.ovenStatus t) 0x3C .wrongMode .empty
      else s.replied (.ovenStatus t) 0x3C .ok (.ovenStatus s.ovenView)) := rfl

/-- Settles O24, read by read. -/
theorem statusReads : Obligations.StatusReads := by
  unfold Obligations.StatusReads
  refine ⟨fun t n s => ⟨fun hi => ?_, fun hi h6 hall => ?_, fun hi hall => ?_, fun a ha hi => ?_⟩,
    fun t n clear s => ⟨fun hi => if_pos hi |> congrArg Host.Outcome.next, fun hi hr => execLaneStatus_refused hi hr,
      fun l hl hi => ⟨?_, ?_⟩⟩, fun t s => ⟨?_, fun hi => ?_, fun hi => ?_⟩⟩
  · exact (execApplicatorStatus_eq t n).trans (congrArg Host.Outcome.next (if_pos hi))
  · refine (execApplicatorStatus_eq t n).trans (congrArg Host.Outcome.next ?_)
    have hnone : appOf n = none := dif_neg (by omega)
    rw [if_neg hi, if_neg hall, hnone]
  · refine (execApplicatorStatus_eq t n).trans (congrArg Host.Outcome.next ?_)
    rw [if_neg hi, if_pos hall]
    rfl
  · refine (execApplicatorStatus_eq t n).trans (congrArg Host.Outcome.next ?_)
    have hone : n ≠ 0xFF := by have := a.isLt; omega
    rw [if_neg hi, if_neg hone, appOf_of_val ha]
    rfl
  · rintro rfl
    exact execLaneStatus_none hl hi
  · rintro rfl
    exact execLaneStatus_late hl hi
  · refine congrArg (fun v => Host.Outcome.next (s.replied (.lineStatus t) 0x01 .ok (.lineStatus v))) ?_
    exact s.lineView_eq
  · exact (execOvenStatus_eq t).trans (congrArg Host.Outcome.next (if_pos hi))
  · exact (execOvenStatus_eq t).trans (congrArg Host.Outcome.next (if_neg hi))

end Sys2Proof.Machine
end

section
/-! ARM_LANE (O22): the tests of R87 in order, the first stroke that fails, and the arming. -/

namespace Sys2Proof.Machine

variable {s : State}

/-! ## The check of one stroke and of a range (R87) -/

/-- The least and the greatest swath of an applicator's kind (R38). -/
abbrev swathsOf (a : Fin 6) : Nat × Nat := match a.val % 3 with | 0 => (2, 8) | 1 => (1, 4) | _ => (1, 1)

theorem allows_eq (a : Fin 6) (w : Nat) :
    (appKind a).allows w = decide ((swathsOf a).1 ≤ w ∧ w ≤ (swathsOf a).2) := by
  obtain h | h | h : a.val % 3 = 0 ∨ a.val % 3 = 1 ∨ a.val % 3 = 2 := by omega
  · simp [appKind, AppKind.allows, swathsOf, h]
  · simp [appKind, AppKind.allows, swathsOf, h]
  · simp only [appKind, AppKind.allows, swathsOf, h, decide_eq_decide]
    omega

/-- The first check that a stroke fails, in the figures of R38 and R87. -/
theorem Stroke.failing_eq (st : Stroke) (l : Fin 2) (c : ClassRecord) : st.failing l c =
    if st.applicator.val / 3 ≠ l.val then some StrokeCheck.lane
    else if c.names st.material = false then some .material
    else if ¬((swathsOf st.applicator).1 ≤ st.swath ∧ st.swath ≤ (swathsOf st.applicator).2) then some .swathKind
    else if 1023 < st.fixed + st.swath - 1 then some .swathGrid
    else none := by
  have lanes : (appLane st.applicator ≠ l) = (st.applicator.val / 3 ≠ l.val) := by
    simp [appLane, Fin.ext_iff]
  have grid : (1024 < st.fixed + st.swath) = (1023 < st.fixed + st.swath - 1) := by
    rw [eq_iff_iff]; omega
  simp only [Stroke.failing, lanes, grid, allows_eq, Bool.not_eq_true', decide_eq_false_iff_not]

/-- The first hit of a search over a range. -/
theorem findSome?_range'_first {α : Type} {f : Nat → Option α} {first n k : Nat} {x : α} (hk : k < n)
    (before : ∀ j, j < k → f (first + j) = none) (hit : f (first + k) = some x) :
    (List.range' first n).findSome? f = some x := by
  refine List.findSome?_eq_some_iff.mpr ⟨List.range' first k, first + k, List.range' (first + k + 1) (n - k - 1), ?_, hit,
    fun i hi => ?_⟩
  · rw [← List.range'_succ, show n - k - 1 + 1 = n - k by omega]
    simp [show k + (n - k) = n by omega]
  · rw [List.mem_range'_1] at hi
    simpa [show first + (i - first) = i by omega] using before (i - first) (by omega)

theorem State.rangeFault_first {l : Fin 2} {c : ClassRecord} {first n k : Nat} {x : StrokeCheck} (hk : k < n)
    (before : ∀ j, j < k → ((s.lane l).stroke (first + j)).failing l c = none)
    (hit : ((s.lane l).stroke (first + k)).failing l c = some x) : s.rangeFault l c first n = some (first + k, x) :=
  findSome?_range'_first hk (fun j hj => by rw [before j hj]; rfl) (by rw [hit]; rfl)

theorem State.rangeFault_none {l : Fin 2} {c : ClassRecord} {first n : Nat}
    (sound : ∀ k, k < n → ((s.lane l).stroke (first + k)).failing l c = none) : s.rangeFault l c first n = none := by
  refine List.findSome?_eq_none_iff.mpr fun i hi => ?_
  rw [List.mem_range'_1] at hi
  have h := sound (i - first) (by omega)
  rw [show first + (i - first) = i by omega] at h
  rw [h]; rfl

/-! ## The request -/

theorem armModeOf_of_lt {n : Nat} (h : n < 2) : armModeOf n = some (if n = 1 then .chain else .once) := by
  interval_cases n <;> rfl

theorem armModeOf_of_ge {n : Nat} (h : ¬n < 2) : armModeOf n = none := by
  unfold armModeOf
  split
  · omega
  · omega
  · rfl

/-- The operands of ARM_LANE within their ranges (R87). -/
abbrev ArmInRange (lane c first n chain auto : Nat) : Prop :=
  lane < 2 ∧ 1 ≤ c ∧ c ≤ 48 ∧ first < 512 ∧ 1 ≤ n ∧ n ≤ 512 ∧ first + n ≤ 512 ∧ chain < 2 ∧ auto < 2

/-- The arming that ARM_LANE writes. -/
abbrev armingOf (c first n chain auto : Nat) : Arming :=
  ⟨some c, first, n, if chain = 1 then .chain else .once, first, n, decide (auto = 1)⟩

variable {t : Byte} {lane c first n chain auto : Nat}

theorem execArmLane_wrongMode (hm : s.line.mode.production = false) :
    execArmLane t lane c first n chain auto s =
      .next (s.replied (.armLane t lane c first n chain auto) 0x22 .wrongMode .empty) := by
  refine congrArg Host.Outcome.next ?_
  simp only [State.take_fields, hm]
  rfl

theorem execArmLane_outOfRange (hm : s.line.mode.production = true) (hr : ¬ArmInRange lane c first n chain auto) :
    execArmLane t lane c first n chain auto s =
      .next (s.replied (.armLane t lane c first n chain auto) 0x22 .outOfRange .empty) := by
  refine congrArg Host.Outcome.next ?_
  simp only [State.take_fields, hm, Bool.not_true, Bool.false_eq_true, if_false]
  split
  next l m a hl hc ha =>
    have hlane : lane < 2 := of_decide_eq_true (by rw [← laneOf_isSome, hl]; rfl)
    have hchain : chain < 2 := by
      by_contra h; rw [armModeOf_of_ge h] at hc; cases hc
    have hauto : auto < 2 := by
      by_contra h; rw [flagOf_of_ge h] at ha; cases ha
    have range : (classOk c && decide (first < 512) && within 1 512 n && decide (first + n ≤ 512)) = false := by
      rw [Bool.eq_false_iff]
      intro h
      simp only [Bool.and_eq_true, decide_eq_true_eq] at h
      omega
    rw [range]
    rfl
  next => rfl

theorem execArmLane_inRange {l : Fin 2} (hl : l.val = lane) (hm : s.line.mode.production = true)
    (hr : ArmInRange lane c first n chain auto) : execArmLane t lane c first n chain auto s =
      .next (if (s.lane l).status ≠ .idle then s.replied (.armLane t lane c first n chain auto) 0x22 .wrongState .empty
        else if !(s.cls c).valid then s.replied (.armLane t lane c first n chain auto) 0x22 .notFound .empty
        else match s.rangeFault l (s.cls c) first n with
          | some (i, k) => s.replied (.armLane t lane c first n chain auto) 0x22 .strokeInvalid (.strokeInvalid i k)
          | none => (((((s.take (.armLane t lane c first n chain auto)).setLane l
              { s.lane l with status := .armed, arming := armingOf c first n chain auto }).answer
                (s.header (.armLane t lane c first n chain auto)) 0x22 .ok
                  (.armed l.val (armingOf c first n chain auto))).startTest l).settle false
                    (s.take (.armLane t lane c first n chain auto)))) := by
  obtain ⟨-, h1, h2, h3, h4, h5, h6, hchain, hauto⟩ := hr
  have range : (classOk c && decide (first < 512) && within 1 512 n && decide (first + n ≤ 512)) = true := by
    simp only [Bool.and_eq_true, decide_eq_true_eq]
    omega
  subst hl
  refine congrArg Host.Outcome.next ?_
  simp only [State.take_fields, hm, Bool.not_true, Bool.false_eq_true, if_false, laneOf_of_val (l := l) rfl,
    armModeOf_of_lt hchain, flagOf_of_lt hauto, range]
  rfl

theorem execArmLane_refused {code : ResultCode} (h : firstFailure [
      (decide (s.line.mode = .config ∨ s.line.mode = .run ∨ s.line.mode = .drain), .wrongMode),
      (decide (ArmInRange lane c first n chain auto), .outOfRange),
      ((laneOf lane).any fun l => decide ((s.lane l).status = .idle), .wrongState),
      ((s.cls c).valid, .notFound)] = some code) : execArmLane t lane c first n chain auto s =
      .next (s.replied (.armLane t lane c first n chain auto) 0x22 code .empty) := by
  simp only [← LineMode.production_eq, firstFailure_cons, firstFailure_nil, decide_eq_true_eq] at h
  split_ifs at h with hm hr hs hv
  · have hl := laneOf_of_val (n := lane) (l := ⟨lane, hr.1⟩) rfl
    rw [hl] at hs
    rw [execArmLane_inRange (l := ⟨lane, hr.1⟩) rfl hm hr, if_neg (not_not.mpr (of_decide_eq_true hs)),
      if_pos (by simpa using hv), Option.some.inj h]
  · have hl := laneOf_of_val (n := lane) (l := ⟨lane, hr.1⟩) rfl
    rw [hl] at hs
    rw [execArmLane_inRange (l := ⟨lane, hr.1⟩) rfl hm hr, if_pos (by simpa using hs), Option.some.inj h]
  · rw [execArmLane_outOfRange hm hr, Option.some.inj h]
  · rw [execArmLane_wrongMode (by simpa using hm), Option.some.inj h]

/-- Settles O22: the tests up to the class one by one, then the range of strokes by its first failing stroke. -/
theorem armLane : Obligations.ArmLane := by
  unfold Obligations.ArmLane
  intro t lane c first n chain auto s
  refine ⟨fun code h => execArmLane_refused h, ?_⟩
  intro l hl check hmode hc1 hc2 hf hn1 hn2 hfn hchain hauto hidle hvalid
  have hm : s.line.mode.production = true := by rw [LineMode.production_eq]; exact decide_eq_true hmode
  have hr : ArmInRange lane c first n chain auto := ⟨by omega, hc1, hc2, hf, hn1, hn2, hfn, hchain, hauto⟩
  have hcheck (k : Nat) : ((s.lane l).stroke (first + k)).failing l (s.cls c) = check k := Stroke.failing_eq _ _ _
  have step := execArmLane_inRange (t := t) hl hm hr
  rw [if_neg (not_not.mpr hidle), hvalid, Bool.not_true, if_neg Bool.false_ne_true] at step
  refine ⟨fun k x hk before hit => step.trans ?_, fun sound => step.trans ?_⟩
  · rw [State.rangeFault_first hk (fun j hj => (hcheck j).trans (before j hj)) ((hcheck k).trans hit)]
  · rw [State.rangeFault_none fun k hk => (hcheck k).trans (sound k hk)]

end Sys2Proof.Machine
end

section
/-! The keep-wet expiry, the prime window's age-out and the two expiries of the entry start list (O10). -/

namespace Sys2Proof.Machine

variable {s : State}

theorem execKeepWetExpiry_stopped {a : Fin 6} (h : (s.unit a).keepWet = none) : execKeepWetExpiry a s = .next s := by
  simp only [execKeepWetExpiry, State.keepWetExpiry, h]

theorem execKeepWetExpiry_some {a : Fin 6} {d : Nat} (h : (s.unit a).keepWet = some d) :
    execKeepWetExpiry a s = .next (((s.reach d).modUnit a (s.dried d)).settle false s) := by
  simp only [execKeepWetExpiry, State.keepWetExpiry, h]

theorem State.dried_eq (d : Nat) : s.dried d = fun r => if r.debt < 4 then
      { r with debt := r.debt + 1, keepWet := r.material.map fun m => d + 1000 * (s.mat m).keepWetS }
    else { r with state := .fouled, debt := 0, keepWet := none, foulCause := some .keepWet } := by
  funext r
  unfold State.dried Config.debtLimit
  by_cases h : r.debt < 4
  · rw [if_pos h, if_neg (by omega)]
  · rw [if_neg h, if_pos (by omega)]; rfl

/-- The first entry that still counts is the one that ceases to. -/
theorem ceaseFirst_append {before after : List EntryStart} {e : EntryStart} (hb : ∀ x ∈ before, x.ceased = true)
    (he : e.ceased = false) : ceaseFirst (before ++ e :: after) = before ++ { e with ceased := true } :: after := by
  induction before with
  | nil => simp [ceaseFirst, he]
  | cons x xs ih =>
    obtain ⟨hx, hxs⟩ := List.forall_mem_cons.mp hb
    simp [ceaseFirst, hx, ih hxs]

theorem execEntryWindowExpiry_none (h : ∀ e ∈ s.oven.entryStart, e.ceased = true) : execEntryWindowExpiry s = .next s := by
  have hfind : (s.oven.entryStart.find? fun e => !e.ceased) = none := by simpa using h
  simp only [execEntryWindowExpiry, State.entryCeased, hfind]

theorem execEntryWindowExpiry_some {before after : List EntryStart} {e : EntryStart}
    (h : s.oven.entryStart = before ++ e :: after) (hb : ∀ x ∈ before, x.ceased = true) (he : e.ceased = false) :
    execEntryWindowExpiry s = .next (State.settle true { s with
      clock := max s.clock (e.time + 1000 * s.line.limits.entryLength)
      oven := { s.oven with entryStart := before ++ { e with ceased := true } :: after } } s) := by
  have hfind : (s.oven.entryStart.find? fun e => !e.ceased) = some e := by
    rw [List.find?_eq_some_iff_append, h]
    exact ⟨by simp [he], before, after, rfl, by simpa using hb⟩
  have hcease : ceaseFirst s.oven.entryStart = _ := h ▸ ceaseFirst_append hb he
  simp only [execEntryWindowExpiry, State.entryCeased, hfind, State.reach, hcease]

/-- Settles O10, timer by timer. -/
theorem applicatorAndEntryTimers : Obligations.ApplicatorAndEntryTimers := by
  unfold Obligations.ApplicatorAndEntryTimers
  refine ⟨fun a s => ⟨execKeepWetExpiry_stopped, fun d hd => ?_⟩, fun s => ⟨fun h => ?_, fun g rest h => ?_⟩,
    fun s => ⟨execEntryWindowExpiry_none, fun h => ?_, fun before e after h hb he => execEntryWindowExpiry_some h hb he,
      fun e after h => ?_⟩⟩
  · exact (execKeepWetExpiry_some hd).trans (by rw [State.dried_eq])
  · exact congrArg Host.Outcome.next (by simp only [State.ageOut, h])
  · exact congrArg Host.Outcome.next (by simp only [State.ageOut, h, State.reach])
  · exact congrArg Host.Outcome.next (by simp only [State.entryDropped, h])
  · exact congrArg Host.Outcome.next (by simp only [State.entryDropped, h, State.reach]; rfl)

end Sys2Proof.Machine
end

section
/-! The end of a prime, purge, spit, cap or uncap (O9): what the table of R41 makes of the applicator, then the step of each
end. -/

namespace Sys2Proof.Machine

variable {s : State}

/-! ## The table of R41 -/

/-- An operation that fouls its applicator; an uncap ends parked-wet and the cap time. -/
theorem Applicator.failed_eq (k : OpKind) (c : FoulCause) (r : Applicator) : r.failed k c =
    { r with state := .fouled, debt := 0, keepWet := none, foulCause := some c,
             parkedWet := if k = .uncap then false else r.parkedWet,
             capTime := if k = .uncap then none else r.capTime } := by
  unfold Applicator.failed
  split <;> rfl

theorem State.endUnit_fault {k : OpKind} {f : FaultKind} (hk : k ≠ .stroke) (r : Applicator) :
    s.endUnit k (.fault f) r = if r.state = .fouled then r else r.failed k (.fault f) := by
  simp only [State.endUnit, hk, false_and, if_false]

theorem State.endUnit_deadline {k : OpKind} (hk : k ≠ .stroke) (r : Applicator) :
    s.endUnit k .deadline r = if r.state = .fouled then r else r.failed k .deadline := by
  simp only [State.endUnit, hk, if_false]

/-- A cap that ends well. -/
theorem State.doneUnit_cap (r : Applicator) : s.doneUnit .cap r = { r with
    state := .parked, parkedWet := r.material.isSome,
    capTime := if r.material.isSome then some s.clock else none } := by
  cases h : r.material <;> simp [State.doneUnit, Applicator.unparked, h]

/-- What a HEAD_DONE of an operation other than a stroke makes of an applicator that has not fouled (R41, R47). -/
theorem State.doneUnit_eq (k : OpKind) (r : Applicator) : k ≠ .stroke → s.doneUnit k r =
    match k with
    | .prime => { r with state := .primed, keepWet := s.timerFrom r, debt := 0 }
    | .purge => { r with state := .idleDry, material := none, debt := 0, keepWet := none, foulCause := none,
                         parkedWet := false, capTime := none }
    | .spit => { r with state := .primed, debt := r.debt - 1 }
    | .cap => { r with state := .parked, parkedWet := r.material.isSome,
                       capTime := if r.material.isSome then some s.clock else none }
    | .uncap =>
      match r.material with
      | none => { r with state := .idleDry, parkedWet := false, capTime := none }
      | some m =>
        if s.clock - r.capTime.getD s.clock ≤ (s.mat m).capMaxMin * 60000 then
          { r with state := .primed, keepWet := s.timerFrom r, parkedWet := false, capTime := none }
        else { r with state := .fouled, debt := 0, keepWet := none, parkedWet := false, capTime := none,
                      foulCause := some .capExpired }
    | .stroke => r := by
  intro hk
  cases k with
  | cap => exact State.doneUnit_cap r
  | stroke => exact absurd rfl hk
  | _ => rfl

/-! ## The step -/

/-- The end of an operation other than a stroke: the head is free, the applicator changes, and a spit's end makes the start
test. -/
theorem State.opEnd_plain {l : Fin 2} {o : HeadOp} (hs : o.stroke = none) (e : OpEnd) : s.opEnd l o e =
    (if o.kind = .spit then
      ((s.modLane l fun r => { r with op := none }).modUnit o.app (s.endUnit o.kind e)).startTest l
    else (s.modLane l fun r => { r with op := none }).modUnit o.app (s.endUnit o.kind e)) := by
  simp only [State.opEnd, hs]; rfl

theorem State.headReply_matched {l : Fin 2} {o : HeadOp} {n : Nat} (ho : (s.lane l).op = some o) (hn : n = o.opId)
    (e : OpEnd) : s.headReply l n e = (s.opEnd l o e).settle false s := by
  simp only [State.headReply, ho, hn, if_true]

theorem execHeadDone_matched {l : Fin 2} {o : HeadOp} {op : Byte} (hi : s.line.mode ≠ .initializing)
    (ho : (s.lane l).op = some o) (hn : op.toNat = o.opId) :
    execHeadDone l op s = .next ((s.opEnd l o .done).settle false s) := by
  rw [execHeadDone, State.discardInit, if_neg hi, State.headReply_matched ho hn]

theorem execHeadFault_matched {l : Fin 2} {o : HeadOp} {op : Byte} (kind : Nat) (hi : s.line.mode ≠ .initializing)
    (ho : (s.lane l).op = some o) (hn : op.toNat = o.opId) :
    execHeadFault l op kind s = .next ((s.opEnd l o (.fault (faultOf kind))).settle false s) := by
  rw [execHeadFault, State.discardInit, if_neg hi, State.headReply_matched ho hn]

theorem execHeadDeadline_expired {l : Fin 2} {o : HeadOp} {d : Nat} (ho : (s.lane l).op = some o)
    (hd : o.deadline = some d) : execHeadDeadline l s = .next (((s.reach d).opEnd l o .deadline).settle false s) := by
  simp only [execHeadDeadline, State.headDeadline, ho, hd]

/-- Settles O9: the step of each end with the table of R41 put in. -/
theorem operationEnds : Obligations.OperationEnds := by
  unfold Obligations.OperationEnds
  intro l op kind s o ho hs hk freed close foul timer done
  have hdone : s.endUnit o.kind .done = done := funext fun r =>
    congrArg (ite (r.state = .fouled) r) (State.doneUnit_eq o.kind r hk)
  have hfault : s.endUnit o.kind (.fault (faultOf kind)) = foul (.fault (faultOf kind)) := funext fun r =>
    (State.endUnit_fault hk r).trans (congrArg (ite (r.state = .fouled) r) (r.failed_eq o.kind _))
  have hdeadline (d : Nat) : (s.reach d).endUnit o.kind .deadline = foul .deadline := funext fun r =>
    (State.endUnit_deadline hk r).trans (congrArg (ite (r.state = .fouled) r) (r.failed_eq o.kind _))
  refine ⟨fun hi hn => ⟨(execHeadDone_matched hi ho hn).trans ?_, (execHeadFault_matched kind hi ho hn).trans ?_⟩,
    fun d hd => (execHeadDeadline_expired ho hd).trans ?_⟩
  · rw [State.opEnd_plain hs, hdone]
  · rw [State.opEnd_plain hs, hfault]
  · rw [State.opEnd_plain hs, hdeadline]

end Sys2Proof.Machine
end

section
/-! The lane and the board at the end of a spraying: STOPPED, the lane's mode at terminal count and at abandonment, and the
departure of a disarmed board (R95, R99, R100, R101). -/

namespace Sys2Proof.Machine

variable {s : State}

/-! ## Updates of one lane and notices -/

theorem State.setLane_setLane (s : State) (l : Fin 2) (r r' : Lane) : (s.setLane l r).setLane l r' = s.setLane l r' := by
  simp only [State.setLane, Vector.set_set]

theorem State.post_setLane (s : State) (n : Notice) (l : Fin 2) (r : Lane) :
    (s.post n).setLane l r = (s.setLane l r).post n := by
  unfold State.post
  split
  · rename_i h; exact (if_pos h).symm
  · rename_i h; exact (if_neg h).symm

theorem State.requestBay_lane (s : State) (k : Nat) (l : Fin 2) : (s.requestBay k).lane l = s.lane l := by
  unfold State.requestBay
  split
  · rw [State.reserve_eq]; rfl
  · rfl

theorem State.requestBay_unit (s : State) (k : Nat) (a : Fin 6) : (s.requestBay k).unit a = s.unit a := by
  unfold State.requestBay
  split
  · rw [State.reserve_eq]; rfl
  · rfl

theorem State.post_unit (s : State) (n : Notice) (a : Fin 6) : (s.post n).unit a = s.unit a := by
  rw [State.post_record]; rfl

/-- A change of a lane's record with one of its status to another state is one change, with the LANE notice. -/
theorem State.setStatus_modLane {l : Fin 2} {st : LaneStatus} (h : (s.lane l).status ≠ st) (f : Lane → Lane) :
    (s.setStatus l st).modLane l f = (s.setLane l (f { s.lane l with status := st })).post (.lane l) := by
  rw [State.setStatus_new h, State.modLane, State.post_lane, State.setLane_lane, if_pos rfl, State.post_setLane,
    State.setLane_setLane]

/-! ## STOPPED, and the lane as its mode has it (R95, R99, R100) -/

/-- The need of the current stroke's applicator ends without a notice. -/
theorem State.clearNeed_eq (s : State) (l : Fin 2) : s.clearNeed l =
    s.setUnit (s.currentStroke l).applicator { s.unit (s.currentStroke l).applicator with need := none } := by
  simp [State.clearNeed, State.modUnit, Applicator.noticed]

theorem State.stopLane_eq {l : Fin 2} (h : (s.lane l).status ≠ .stopped) : s.stopLane l =
    ((s.clearNeed l).setLane l { s.lane l with status := .stopped }).post (.lane l) := by
  have hlane : (s.clearNeed l).lane l = s.lane l := by rw [State.clearNeed_eq]; rfl
  rw [State.stopLane, State.setStatus_new (by rw [hlane]; exact h), hlane]

/-- The lane's record at terminal count and at abandonment. -/
def Lane.over (r : Lane) : Lane :=
  match r.arming.mode with
  | .once => { r with status := .idle, arming := clearedArming }
  | .chain =>
    { r with status := .armed, arming := { r.arming with current := r.arming.first, remaining := r.arming.count } }

theorem State.stopWaiting_lane (s : State) (l : Fin 2) : (s.stopWaiting l).lane l = s.lane l := by
  unfold State.stopWaiting
  split
  · rw [State.clearNeed_eq]; rfl
  · rfl

theorem State.laneOver_eq {l : Fin 2} (hi : (s.lane l).status ≠ .idle) (ha : (s.lane l).status ≠ .armed) :
    s.laneOver l = ((s.stopWaiting l).setLane l (s.lane l).over).post (.lane l) := by
  have hlane := s.stopWaiting_lane l
  rw [← hlane] at hi ha
  unfold State.laneOver Lane.over
  dsimp only
  cases hm : (s.lane l).arming.mode with
  | once => simp only [hlane, hm, State.setStatus_modLane hi]
  | chain => simp only [hlane, hm, State.setStatus_modLane ha]

/-! ## A board that leaves SPRAYING (R95, R100, R101) -/

theorem State.toFlashing_spraying {slot : Nat} {b : Board} (hb : s.board slot = some b) (hl : b.life = .spraying)
    (f : Board → Board) : s.toFlashing slot f =
      ((s.setBoard slot (some { f b with life := .flashing })).post (.board slot)).requestBay slot := by
  rw [State.toFlashing, s.modBoard_noticed hb (Board.noticed_of_life (by rw [hl]; exact LifeState.noConfusion))]

/-- After a board has become FLASHING, its lane and the applicators are as they were. -/
theorem State.toFlashing_lane {slot : Nat} {b : Board} (hb : s.board slot = some b) (hl : b.life = .spraying)
    (f : Board → Board) (l : Fin 2) : (s.toFlashing slot f).lane l = s.lane l := by
  rw [State.toFlashing_spraying hb hl, State.requestBay_lane, State.post_lane]; rfl

theorem State.toFlashing_unit {slot : Nat} {b : Board} (hb : s.board slot = some b) (hl : b.life = .spraying)
    (f : Board → Board) (a : Fin 6) : (s.toFlashing slot f).unit a = s.unit a := by
  rw [State.toFlashing_spraying hb hl, State.requestBay_unit, State.post_unit]; rfl

/-- The end of a spraying at the lane, after its board has become FLASHING. -/
theorem State.toFlashing_laneOver {slot : Nat} {b : Board} {l : Fin 2} (hb : s.board slot = some b)
    (hl : b.life = .spraying) (f : Board → Board) (hi : (s.lane l).status ≠ .idle) (ha : (s.lane l).status ≠ .armed) :
    (s.toFlashing slot f).laneOver l =
      ((if (s.lane l).status = .waitApplicator then (s.toFlashing slot f).setUnit (s.currentStroke l).applicator
          { s.unit (s.currentStroke l).applicator with need := none }
        else s.toFlashing slot f).setLane l (s.lane l).over).post (.lane l) := by
  have hlane := State.toFlashing_lane hb hl f l
  have hstroke : (s.toFlashing slot f).currentStroke l = s.currentStroke l := by
    rw [State.currentStroke, hlane]; rfl
  rw [State.laneOver_eq (by rw [hlane]; exact hi) (by rw [hlane]; exact ha), State.stopWaiting, State.clearNeed_eq, hlane,
    hstroke, State.toFlashing_unit hb hl]

/-- R101: what lets a disarmed board leave SPRAYING. -/
theorem State.departDisarmed_stays {slot : Nat} {b : Board} (hb : s.board slot = some b)
    (h : b.life ≠ .spraying ∨ b.disarmed = false ∨ s.strokeInFlight slot b.lane = true) : s.departDisarmed slot = s := by
  simp only [State.departDisarmed, hb]
  rw [if_neg]
  rintro ⟨hl, hd, hf⟩
  rcases h with h | h | h
  · exact h hl
  · rw [h] at hd; cases hd
  · rw [h] at hf; cases hf

theorem State.departDisarmed_leaves {slot : Nat} {b : Board} (hb : s.board slot = some b) (hl : b.life = .spraying)
    (hd : b.disarmed = true) (hf : s.strokeInFlight slot b.lane = false) : s.departDisarmed slot =
      if b.mark.isSome then ((s.setBoard slot (some { b with
        life := .flashing, interrupted := true, disarmed := false, sprayEnd := some s.clock })).post
          (.board slot)).requestBay slot
      else if s.blocked b then s
      else ((s.setBoard slot (some { b with life := .atSpray, disarmed := false })).post (.board slot)).startTest b.lane := by
  have flashing := State.toFlashing_spraying hb hl fun b =>
    { b with interrupted := true, disarmed := false, sprayEnd := some s.clock }
  have departs := s.modBoard_noticed (slot := slot) (f := fun b => { b with life := .atSpray, disarmed := false }) hb
    (Board.noticed_of_life (by rw [hl]; exact LifeState.noConfusion))
  simp only [State.departDisarmed, hb]
  rw [if_pos ⟨hl, hd, by rw [hf]; rfl⟩, departs, State.abandonBoard, flashing]

/-! ## A stroke that ends with a fault or at its deadline (R98) -/

/-- What such an end makes of the applicator. -/
theorem State.endUnit_strokeFault (f : FaultKind) (r : Applicator) : s.endUnit .stroke (.fault f) r =
    if r.state = .fouled then r
    else if some f = some .clog then { r with
      state := .fouled, debt := 0, keepWet := none, foulCause := some (.fault .clog) }
    else { r with state := .primed } := by
  cases f <;> rfl

theorem State.endUnit_strokeDeadline (r : Applicator) : s.endUnit .stroke .deadline r =
    if r.state = .fouled then r else { r with state := .primed } := rfl

theorem State.modUnit_clock (s : State) (a : Fin 6) (f : Applicator → Applicator) : (s.modUnit a f).clock = s.clock := by
  rw [State.modUnit_rest]

/-- The head freed and the applicator changed, then the path engine's part. -/
theorem State.opEnd_stroke {l : Fin 2} {o : HeadOp} {r : StrokeRef} (hr : o.stroke = some r) (hk : o.kind = .stroke)
    (e : OpEnd) : s.opEnd l o e =
      (if e = .done ∧ r.lastUse = true then
        ((s.modLane l fun x => { x with op := none }).modUnit o.app (s.endUnit .stroke e)).autoPurge o.app
      else (s.modLane l fun x => { x with op := none }).modUnit o.app (s.endUnit .stroke e)).strokeEnd l r e := by
  simp only [State.opEnd, hr, hk]; rfl

/-- The fault of a stroke recorded after the head is free and the applicator changed. -/
theorem State.opEnd_strokeFailed {l : Fin 2} {o : HeadOp} {r : StrokeRef} (hr : o.stroke = some r)
    (hk : o.kind = .stroke) {e : OpEnd} (he : e ≠ .done) {f : Applicator → Applicator}
    (hf : s.endUnit .stroke e = f) : s.opEnd l o e =
      (let failed := (((s.modLane l fun x => { x with op := none }).modUnit o.app f).modLane l fun x =>
        { x with lastFault := some ⟨e.faultKind, r.index, s.clock⟩ }).post (.lane l)
      if r.detached then failed.departDisarmed r.slot
      else (failed.raiseCore false r.slot 5).judge l r.slot id) := by
  rw [State.opEnd_stroke hr hk, if_neg fun h => he h.1, hf, State.strokeEnd, State.detachedEnd, if_neg he, if_neg he,
    State.strokeFailed, State.recordFault, State.modUnit_clock]
  rfl

/-- Settles O29: the step of each end, then the departure of a disarmed board, STOPPED and abandonment by the lemmas
above. -/
theorem strokeFaults : Obligations.StrokeFaults := by
  unfold Obligations.StrokeFaults
  refine ⟨fun l op kind s o r ho hk hr => ⟨fun hi hn => ?_, fun d hd => ?_⟩, fun slot s b hb => ⟨fun h => ?_,
    fun hl hd hf => ?_⟩, fun l slot s b hb hl => ⟨fun h => ?_, fun h => ?_⟩⟩
  · refine (execHeadFault_matched kind hi ho hn.symm).trans ?_
    rw [State.opEnd_strokeFailed hr hk OpEnd.noConfusion (funext (State.endUnit_strokeFault _))]
    rfl
  · refine (execHeadDeadline_expired ho hd).trans ?_
    rw [State.opEnd_strokeFailed hr hk OpEnd.noConfusion (funext State.endUnit_strokeDeadline)]
    rfl
  · exact State.departDisarmed_stays hb (h.imp_right (Or.imp_right State.strokeInFlight_iff.mpr))
  · have leaves := State.departDisarmed_leaves hb hl hd (Bool.eq_false_iff.mpr (mt State.strokeInFlight_iff.mp hf))
    refine ⟨fun hm => ?_, fun hm hk => ?_, fun hm hk => ?_⟩
    · rw [leaves, if_pos (Option.isSome_iff_ne_none.mpr hm)]
    · rw [leaves, hm, Option.isSome_none, if_neg Bool.false_ne_true, if_pos hk]
    · rw [leaves, hm, Option.isSome_none, if_neg Bool.false_ne_true, if_neg (Bool.eq_false_iff.mp hk)]
  · have status : (s.lane l).status ≠ .stopped := by
      rcases h with h | h <;> rw [h] <;> exact LaneStatus.noConfusion
    rw [State.stopLane_eq status, State.clearNeed_eq]
    rfl
  · have awake : (s.lane l).status ≠ .idle ∧ (s.lane l).status ≠ .armed := by
      rcases h with h | h | h <;> rw [h] <;> exact ⟨LaneStatus.noConfusion, LaneStatus.noConfusion⟩
    rw [State.abandon, State.abandonBoard, State.toFlashing_laneOver hb hl _ awake.1 awake.2,
      State.toFlashing_spraying hb hl]
    rfl

end Sys2Proof.Machine
end

section
/-! HEAD_DONE of a stroke and terminal count (O28). -/

namespace Sys2Proof.Machine

variable {s : State}

/-! ## The spray-end times (R123) -/

theorem smallest_eq_min? (xs : List Nat) : smallest xs = xs.min? := by cases xs <;> rfl

theorem largest_eq_max? (xs : List Nat) : largest xs = xs.max?.getD 0 := by
  cases xs with
  | nil => rfl
  | cons x xs => rw [largest, List.foldl_cons, Nat.zero_max, List.max?_cons', Option.getD_some]

/-- The largest of a list is its member that no other exceeds. -/
theorem largest_map_eq {α : Type} {xs : List α} {f : α → Nat} {n : Nat} (bound : ∀ x ∈ xs, f x ≤ n)
    (empty : xs = [] → n = 0) (attained : xs ≠ [] → ∃ x ∈ xs, f x = n) : largest (xs.map f) = n := by
  rw [largest_eq_max?]
  by_cases hx : xs = []
  · rw [hx, empty hx]; rfl
  · rw [List.max?_eq_some_iff.mpr ⟨by simpa using attained hx, by simpa using bound⟩, Option.getD_some]

theorem smallest_map_eq {α : Type} {xs : List α} {f : α → Nat} {n : Option Nat} (absent : n = none ↔ xs = [])
    (least : ∀ x, n = some x → (∃ m ∈ xs, f m = x) ∧ ∀ m ∈ xs, x ≤ f m) : smallest (xs.map f) = n := by
  rw [smallest_eq_min?]
  cases n with
  | none => rw [absent.mp rfl]; rfl
  | some x =>
    obtain ⟨attained, bound⟩ := least x rfl
    exact List.min?_eq_some_iff.mpr ⟨by simpa using attained, by simpa using bound⟩

theorem State.sprayTimes_eq {b : Board} {flash : Nat} {opens : Option Nat}
    (hf : largest (b.used.members.map fun m => (s.mat m).flashMinS) = flash)
    (ho : smallest (b.used.members.map fun m => (s.mat m).openMaxS) = opens) : s.sprayTimes b =
      if b.mark = none then { b with
        flashReady := some (s.clock + 1000 * flash), openDeadline := opens.map fun x => s.clock + 1000 * x,
        flashArmed := true, openArmed := opens.isSome } else b := by
  unfold State.sprayTimes
  cases hm : b.mark with
  | none => simp [hf, ho]
  | some m => rfl

/-- Terminal count of a RUNNING lane (R95). -/
theorem State.terminal_eq {l : Fin 2} {slot : Nat} {b : Board} (hb : s.board slot = some b) (hl : b.life = .spraying)
    (hr : (s.lane l).status = .running) : s.terminal l slot =
      ((((s.setBoard slot (some { s.sprayTimes { b with sprayEnd := some s.clock } with life := .flashing })).post
        (.board slot)).requestBay slot).setLane l (s.lane l).over).post (.lane l) := by
  rw [State.terminal, State.toFlashing_laneOver hb hl _ (by rw [hr]; exact LaneStatus.noConfusion)
    (by rw [hr]; exact LaneStatus.noConfusion), if_neg (by rw [hr]; exact LaneStatus.noConfusion),
    State.toFlashing_spraying hb hl]

/-! ## The end of a stroke (R94, R101) -/

/-- R94: a stroke of a board that is in the table is counted; then terminal count or the loop goes on. -/
theorem State.strokeDone_eq {l : Fin 2} {r : StrokeRef} {b : Board} (hb : s.board r.slot = some b) : s.strokeDone l r =
    (let u := (s.setBoard r.slot (some { b with
        strokesDone := b.strokesDone + 1, used := b.used.join r.material })).modLane l fun x =>
      { x with arming := { x.arming with current := x.arming.current + 1, remaining := x.arming.remaining - 1 } }
    if (s.lane l).arming.remaining ≤ 1 then u.terminal l r.slot
    else if b.mark.isSome then u.abandon l r.slot
    else if s.blocked b then u.stopLane l
    else u) := by
  rw [State.strokeDone, State.modBoardQuiet_some hb, State.afterAdvance, State.advance]
  dsimp only
  have last : ((State.modLane l (fun x => { x with arming := { x.arming with
        current := x.arming.current + 1, remaining := x.arming.remaining - 1 } })
      (s.setBoard r.slot (some { b with
        strokesDone := b.strokesDone + 1, used := b.used.join r.material }))).lane l).arming.remaining = 0 ↔
      (s.lane l).arming.remaining ≤ 1 := by
    rw [State.modLane_lane, if_pos rfl]
    exact Nat.sub_eq_zero_iff_le
  have board : (State.modLane l (fun x => { x with arming := { x.arming with
        current := x.arming.current + 1, remaining := x.arming.remaining - 1 } })
      (s.setBoard r.slot (some { b with
        strokesDone := b.strokesDone + 1, used := b.used.join r.material }))).board r.slot = some { b with
        strokesDone := b.strokesDone + 1, used := b.used.join r.material } :=
    (s.setBoard_board r.slot r.slot _).trans (if_pos rfl)
  simp only [last, State.judge, board]
  rfl

/-- The automatic purge of a last-use stroke, where no entry of the applicator is queued. -/
theorem State.autoPurge_of_lastUse (s : State) (a : Fin 6) (lastUse : Bool) :
    (if lastUse = true then s.autoPurge a else s) =
      if lastUse = true ∧ s.queued a = false then s.enqueue ⟨a, .purge, (s.unit a).material, .automatic⟩ else s := by
  cases lastUse <;> cases h : s.queued a <;> simp [State.autoPurge, h]

/-- The applicator's part of a completed stroke (R41). -/
theorem State.opEnd_strokeDone {l : Fin 2} {o : HeadOp} {r : StrokeRef} (hr : o.stroke = some r)
    (hk : o.kind = .stroke) : s.opEnd l o .done =
      (let freed := (s.modLane l fun x => { x with op := none }).modUnit o.app fun x =>
        if x.state = .fouled then x else { x with state := .primed, debt := 0, keepWet := s.timerFrom x }
      (if r.lastUse = true ∧ freed.queued o.app = false then
        freed.enqueue ⟨o.app, .purge, (freed.unit o.app).material, .automatic⟩ else freed).strokeEnd l r .done) := by
  rw [State.opEnd_stroke hr hk]
  simp only [true_and]
  rw [State.autoPurge_of_lastUse]
  rfl

/-- The head freed, the applicator changed and its purge queued: what the path engine reads of it. -/
structure State.SameWork (l : Fin 2) (s t : State) : Prop where
  tracker : t.tracker = s.tracker
  hold : t.hold = s.hold
  arming : (t.lane l).arming = (s.lane l).arming

theorem State.SameWork.freed (s : State) (l : Fin 2) (a : Fin 6) (f : Applicator → Applicator) :
    State.SameWork l s ((s.modLane l fun x => { x with op := none }).modUnit a f) := by
  have lane := s.modLane_lane l l fun x => { x with op := none }
  rw [if_pos rfl] at lane
  have arming := congrArg Lane.arming lane
  rw [State.modUnit_rest]
  exact ⟨rfl, rfl, arming⟩

theorem State.SameWork.enqueue {l : Fin 2} {t : State} (h : State.SameWork l s t) (e : PrimeEntry) :
    State.SameWork l s (t.enqueue e) := ⟨h.tracker, h.hold, h.arming⟩

theorem State.SameWork.board {l : Fin 2} {t : State} (h : State.SameWork l s t) (k : Nat) : t.board k = s.board k := by
  rw [State.board, h.tracker]; rfl

theorem State.SameWork.blocked {l : Fin 2} {t : State} (h : State.SameWork l s t) (b : Board) :
    t.blocked b = s.blocked b := by
  simp only [State.blocked, State.route, h.hold]

/-- Settles O28: the end of a stroke at the applicator and at the path engine, then terminal count. -/
theorem strokeDone : Obligations.StrokeDone := by
  unfold Obligations.StrokeDone
  refine ⟨?_, ?_⟩
  · intro l op s o r b hi ho hn hk hr hb freed purged u
    have step := execHeadDone_matched hi ho hn.symm
    have applicator : s.opEnd l o .done = purged.strokeEnd l r .done := State.opEnd_strokeDone hr hk
    have work : State.SameWork l s purged := by
      have h := State.SameWork.freed s l o.app fun x => if x.state = .fouled then x
        else { x with state := .primed, debt := 0, keepWet := x.material.map fun m => s.clock + 1000 * (s.mat m).keepWetS }
      change State.SameWork l s (ite _ _ _)
      split
      · exact h.enqueue _
      · exact h
    have board : purged.board r.slot = some b := (work.board r.slot).trans hb
    refine ⟨fun hd => step.trans ?_, fun hd => step.trans ?_⟩
    · rw [applicator, State.strokeEnd, hd, if_neg Bool.false_ne_true, if_pos rfl, State.strokeDone_eq board, work.arming,
        work.blocked]
    · rw [applicator, State.strokeEnd, if_pos hd, State.detachedEnd, if_pos rfl, State.modBoardQuiet_some board]
  · intro l slot flash opens s b hb hl hr used bound empty attained absent least b1 b2 u
    have times : s.sprayTimes { b with sprayEnd := some s.clock } = _ :=
      State.sprayTimes_eq (largest_map_eq bound empty attained) (smallest_map_eq absent least)
    have board : ({ s.sprayTimes { b with sprayEnd := some s.clock } with life := .flashing } : Board) = b2 := by
      rw [times]
      by_cases hm : b.mark = none
      · exact (congrArg (fun x : Board => { x with life := .flashing }) (if_pos hm)).trans (if_pos hm).symm
      · exact (congrArg (fun x : Board => { x with life := .flashing }) (if_neg hm)).trans (if_neg hm).symm
    rw [State.terminal_eq hb hl hr, board]
    rfl

end Sys2Proof.Machine
end

section
/-! What a lane chooses (R52, R56): the applicator that spits, and the waiting command that goes first. -/

namespace Sys2Proof.Machine

variable {s : State} {l : Fin 2}

/-! ## The applicators of a lane -/

theorem mem_laneApps (l : Fin 2) (a : Fin 6) : a ∈ laneApps l ↔ appLane a = l := by
  revert l a; decide

theorem laneApps_sorted (l : Fin 2) : (laneApps l).Pairwise (· < ·) := by
  revert l; decide

/-! ## The spit (R52) -/

/-- Whether an applicator owes a spit. -/
abbrev State.Owes (s : State) (a : Fin 6) : Prop := (s.unit a).state = .primed ∧ 0 < (s.unit a).debt

/-- One step of the search for the applicator that spits. -/
def State.moreDebt (s : State) (best : Option (Fin 6)) (a : Fin 6) : Option (Fin 6) :=
  if s.Owes a then
    match best with
    | none => some a
    | some c => if (s.unit c).debt < (s.unit a).debt then some a else some c
  else best

/-- An applicator of the list that owes a spit, none owing more and none before it as much. -/
structure State.OwesMost (s : State) (as : List (Fin 6)) (a : Fin 6) : Prop where
  mem : a ∈ as
  owes : s.Owes a
  most : ∀ c ∈ as, s.Owes c → (s.unit c).debt ≤ (s.unit a).debt ∧ ((s.unit c).debt = (s.unit a).debt → a ≤ c)

/-- What the search finds in an ascending list. -/
def State.FindsDebt (s : State) (as : List (Fin 6)) : Option (Fin 6) → Prop
  | none => ∀ c ∈ as, ¬s.Owes c
  | some a => s.OwesMost as a

/-- One more applicator, of a higher id than those searched. -/
theorem State.FindsDebt.concat {as : List (Fin 6)} {best : Option (Fin 6)} (h : s.FindsDebt as best) {x : Fin 6}
    (hx : ∀ c ∈ as, c < x) : s.FindsDebt (as ++ [x]) (s.moreDebt best x) := by
  unfold State.moreDebt
  cases best with
  | none =>
    by_cases ho : s.Owes x
    · rw [if_pos ho]
      refine ⟨by simp, ho, fun c hc oc => ?_⟩
      rcases List.mem_append.mp hc with hc | hc
      · exact absurd oc (h c hc)
      · rw [List.mem_singleton.mp hc]; exact ⟨le_rfl, fun _ => le_rfl⟩
    · rw [if_neg ho]
      intro c hc
      rcases List.mem_append.mp hc with hc | hc
      · exact h c hc
      · rw [List.mem_singleton.mp hc]; exact ho
  | some a =>
    by_cases ho : s.Owes x
    · rw [if_pos ho]
      dsimp only
      split
      next more =>
        refine ⟨by simp, ho, fun c hc oc => ?_⟩
        rcases List.mem_append.mp hc with hc | hc
        · have bound := (h.most c hc oc).1
          exact ⟨by omega, fun he => by omega⟩
        · rw [List.mem_singleton.mp hc]; exact ⟨le_rfl, fun _ => le_rfl⟩
      next less =>
        refine ⟨List.mem_append_left _ h.mem, h.owes, fun c hc oc => ?_⟩
        rcases List.mem_append.mp hc with hc | hc
        · exact h.most c hc oc
        · rw [List.mem_singleton.mp hc]; exact ⟨by omega, fun _ => (hx a h.mem).le⟩
    · rw [if_neg ho]
      refine ⟨List.mem_append_left _ h.mem, h.owes, fun c hc oc => ?_⟩
      rcases List.mem_append.mp hc with hc | hc
      · exact h.most c hc oc
      · rw [List.mem_singleton.mp hc] at oc; exact absurd oc ho

theorem State.findsDebt_foldl {as : List (Fin 6)} (hs : as.Pairwise (· < ·)) :
    s.FindsDebt as (as.foldl s.moreDebt none) := by
  induction as using List.reverseRecOn with
  | nil => intro c hc; cases hc
  | append_singleton as x ih =>
    obtain ⟨sorted, -, below⟩ := List.pairwise_append.mp hs
    rw [List.foldl_append, List.foldl_cons, List.foldl_nil]
    exact (ih sorted).concat fun c hc => below c hc x (List.mem_singleton.mpr rfl)

theorem State.spitChoice_spraying (h : s.laneSpraying l = true) : s.spitChoice l = none := if_pos h

theorem State.spitChoice_eq (h : s.laneSpraying l = false) : s.spitChoice l = (laneApps l).foldl s.moreDebt none :=
  if_neg (by rw [h]; exact Bool.false_ne_true)

theorem State.spitChoice_finds (h : s.laneSpraying l = false) : s.FindsDebt (laneApps l) (s.spitChoice l) := by
  rw [State.spitChoice_eq h]
  exact State.findsDebt_foldl (laneApps_sorted l)

theorem State.spitChoice_some {a : Fin 6} (h : s.spitChoice l = some a) : s.OwesMost (laneApps l) a := by
  cases hs : s.laneSpraying l with
  | true => rw [State.spitChoice_spraying hs] at h; cases h
  | false =>
    have finds := State.spitChoice_finds hs
    rw [h] at finds
    exact finds

theorem State.spitChoice_none (hs : s.laneSpraying l = false) (h : s.spitChoice l = none) :
    ∀ c ∈ laneApps l, ¬s.Owes c := by
  have finds := State.spitChoice_finds hs
  rw [h] at finds
  exact finds

/-! ## The waiting command that goes first (R56) -/

/-- One step of the search for the earliest accepted. -/
def acceptedFirst (best : Option (Fin 6 × Nat)) (c : Fin 6 × Nat) : Option (Fin 6 × Nat) :=
  match best with
  | none => some c
  | some d => if c.2 < d.2 then some c else some d

theorem foldl_acceptedFirst_some (xs : List (Fin 6 × Nat)) (d : Fin 6 × Nat) :
    ∃ e, xs.foldl acceptedFirst (some d) = some e ∧ (e = d ∨ e ∈ xs) ∧ e.2 ≤ d.2 ∧ ∀ c ∈ xs, e.2 ≤ c.2 := by
  induction xs generalizing d with
  | nil => exact ⟨d, rfl, .inl rfl, le_rfl, by simp⟩
  | cons x xs ih =>
    rw [List.foldl_cons]
    by_cases hx : x.2 < d.2
    · obtain ⟨e, he, hmem, hle, hmin⟩ := ih x
      refine ⟨e, ?_, .inr ?_, by omega, List.forall_mem_cons.mpr ⟨hle, hmin⟩⟩
      · rw [← he, acceptedFirst, if_pos hx]
      · exact List.mem_cons.mpr hmem
    · obtain ⟨e, he, hmem, hle, hmin⟩ := ih d
      refine ⟨e, ?_, hmem.imp_right (List.mem_cons_of_mem x), hle, List.forall_mem_cons.mpr ⟨by omega, hmin⟩⟩
      rw [← he, acceptedFirst, if_neg hx]

/-- The search over a list that holds something finds an earliest accepted member. -/
theorem foldl_acceptedFirst_of_mem {xs : List (Fin 6 × Nat)} {c : Fin 6 × Nat} (hc : c ∈ xs) :
    ∃ e ∈ xs, xs.foldl acceptedFirst none = some e ∧ ∀ c ∈ xs, e.2 ≤ c.2 := by
  cases xs with
  | nil => cases hc
  | cons x xs =>
    obtain ⟨e, he, hmem, hle, hmin⟩ := foldl_acceptedFirst_some xs x
    exact ⟨e, List.mem_cons.mpr hmem, he, List.forall_mem_cons.mpr ⟨hle, hmin⟩⟩

/-- The waiting commands of a lane that `p` picks, each with its acceptance number. -/
def State.waits (s : State) (l : Fin 2) (p : WaitCommand → Bool) : List (Fin 6 × Nat) :=
  (laneApps l).filterMap fun a => (s.unit a).waiting.bind fun w => if p w then some (a, w.order) else none

theorem State.mem_waits {p : WaitCommand → Bool} {c : Fin 6 × Nat} : c ∈ s.waits l p ↔
    appLane c.1 = l ∧ ∃ w, (s.unit c.1).waiting = some w ∧ p w = true ∧ w.order = c.2 := by
  obtain ⟨a, n⟩ := c
  simp only [State.waits, List.mem_filterMap, Option.bind_eq_some_iff, Option.ite_none_right_eq_some, Option.some.injEq,
    Prod.mk.injEq, mem_laneApps]
  constructor
  · rintro ⟨b, hb, w, hw, hp, rfl, rfl⟩
    exact ⟨hb, w, hw, hp, rfl⟩
  · rintro ⟨ha, w, hw, hp, rfl⟩
    exact ⟨a, ha, w, hw, hp, rfl, rfl⟩

theorem State.firstWaiting_eq (s : State) (l : Fin 2) (p : WaitCommand → Bool) :
    s.firstWaiting l p = ((s.waits l p).foldl acceptedFirst none).map (·.1) := rfl

theorem State.firstWaiting_none {p : WaitCommand → Bool} :
    s.firstWaiting l p = none ↔ ∀ a w, appLane a = l → (s.unit a).waiting = some w → p w = false := by
  rw [State.firstWaiting_eq, Option.map_eq_none_iff]
  constructor
  · intro h a w ha hw
    by_contra hp
    obtain ⟨e, -, he, -⟩ := foldl_acceptedFirst_of_mem
      (State.mem_waits.mpr ⟨ha, w, hw, Bool.eq_true_of_not_eq_false hp, rfl⟩ : (a, w.order) ∈ s.waits l p)
    rw [h] at he
    cases he
  · intro h
    have empty : s.waits l p = [] := List.eq_nil_iff_forall_not_mem.mpr fun c hc => by
      obtain ⟨ha, w, hw, hp, -⟩ := State.mem_waits.mp hc
      rw [h c.1 w ha hw] at hp
      cases hp
    rw [empty]
    rfl

/-- The command accepted before every other is the one that goes first. -/
theorem State.firstWaiting_first {p : WaitCommand → Bool} {a : Fin 6} {w : WaitCommand} (ha : appLane a = l)
    (hw : (s.unit a).waiting = some w) (hp : p w = true)
    (first : ∀ c x, appLane c = l → c ≠ a → (s.unit c).waiting = some x → p x = true → w.order < x.order) :
    s.firstWaiting l p = some a := by
  have mem : (a, w.order) ∈ s.waits l p := State.mem_waits.mpr ⟨ha, w, hw, hp, rfl⟩
  obtain ⟨e, hmem, he, hmin⟩ := foldl_acceptedFirst_of_mem mem
  rw [State.firstWaiting_eq, he, Option.map_some, Option.some.injEq]
  obtain ⟨hl, x, hx, hpx, horder⟩ := State.mem_waits.mp hmem
  by_contra hne
  have before := first e.1 x hl hne hx hpx
  have least := hmin _ mem
  dsimp only at least
  omega

theorem WaitCommand.ofLine_eq_false {w : WaitCommand} : w.ofLine = false ↔ w.origin = .automatic := by
  unfold WaitCommand.ofLine
  cases w.origin <;> decide

/-- A lane ready for a grant: its head free and no command of the line computer waiting. -/
theorem State.grantReady_iff : s.grantReady l = true ↔ (s.lane l).op = none ∧
    ∀ a w, appLane a = l → (s.unit a).waiting = some w → w.origin = .automatic := by
  simp only [State.grantReady, State.headFree, Bool.and_eq_true, Option.isNone_iff_eq_none, State.firstWaiting_none,
    WaitCommand.ofLine_eq_false]

end Sys2Proof.Machine
end

section
/-! The grant decision (R55): what one grant changes, what a decision leaves, and its first grant. -/

namespace Sys2Proof.Machine

variable {s : State}

/-! ## One grant -/

/-- What a grant changes of the prime window and the queue. -/
theorem State.grant_window (s : State) (e : PrimeEntry) : (s.grant e).line = s.line ∧ (s.grant e).clock = s.clock ∧
    (s.grant e).apps.queue = s.apps.queue.erase e ∧ (s.grant e).apps.startList = s.apps.startList ++ [s.clock] := by
  unfold State.grant
  dsimp only
  split
  · rw [State.modUnit_rest]; exact ⟨rfl, rfl, rfl, rfl⟩
  · rw [State.modUnit_rest]
    split <;> exact ⟨rfl, rfl, rfl, rfl⟩

/-- An entry that a grant takes from the queue, its time on the start list. -/
abbrev State.taken (s : State) (queue : List PrimeEntry) : State :=
  { s with apps := { s.apps with queue := queue, startList := s.apps.startList ++ [s.clock] } }

/-- An operation sent, its deadline to begin with the command's last byte. -/
abbrev State.sending (s : State) (l : Fin 2) (k : OpKind) (a : Fin 6) (span : Nat) (c : HeadCommand) : State :=
  s.modLane l fun r => { r with
    op := some ⟨r.nextOp, k, a, span, none, none⟩
    nextOp := if r.nextOp = 255 then 1 else r.nextOp + 1, command := some (r.nextOp, c) }

theorem State.grant_prime {e : PrimeEntry} {m : Nat} (hk : e.kind = .prime) (hm : e.material = some m) :
    s.grant e = ((s.taken (s.apps.queue.erase e)).modUnit e.app fun r =>
      { r with state := .priming, material := some m, keepWet := none }).sending (appLane e.app) .prime e.app
        ((s.mat m).primeMs + 5000) (.prime e.app m (s.mat m).primeMs) := by
  unfold State.grant
  rw [hk, hm]
  rfl

theorem State.grant_purge {e : PrimeEntry} {m : Nat} (hk : e.kind = .purge) (hm : (s.unit e.app).material = some m) :
    s.grant e = ((s.taken (s.apps.queue.erase e)).modUnit e.app fun r =>
      { r with state := .purging, keepWet := none }).sending (appLane e.app) .purge e.app
        ((s.mat m).purgeMs + 5000) (.purge e.app (s.mat m).purgeMs) := by
  have unit : ((s.taken (s.apps.queue.erase e)).unit e.app).material = some m := hm
  simp only [State.grant, hk, unit]
  rfl

theorem State.grant_purgeDry {e : PrimeEntry} (hk : e.kind = .purge) (hm : (s.unit e.app).material = none) :
    s.grant e = ((s.taken (s.apps.queue.erase e)).modUnit e.app fun r =>
      { r with state := .purging, keepWet := none }).sending (appLane e.app) .purge e.app 10000
        (.purge e.app 5000) := by
  have unit : ((s.taken (s.apps.queue.erase e)).unit e.app).material = none := hm
  simp only [State.grant, hk, unit]
  rfl

/-! ## A decision -/

/-- What a run of at most `n` grants leaves. -/
structure State.Granted (s u : State) (n : Nat) : Prop where
  line : u.line = s.line
  starts : ∃ k, u.apps.startList = s.apps.startList ++ List.replicate k s.clock ∧
    s.apps.queue.length = u.apps.queue.length + k
  queue : u.apps.queue.Sublist s.apps.queue
  bound : u.apps.startList.length ≤ max s.apps.startList.length s.line.limits.windowLimit
  done : s.apps.queue.length ≤ n → u.apps.startList.length < s.line.limits.windowLimit →
    ∀ e ∈ u.apps.queue, u.grantReady (appLane e.app) = false

/-- No grant is made where none of the queue is ready, or the start list is full. -/
theorem State.Granted.none {n : Nat} (h : s.apps.startList.length < s.line.limits.windowLimit →
    s.apps.queue.length ≤ n → ∀ e ∈ s.apps.queue, s.grantReady (appLane e.app) = false) : State.Granted s s n where
  line := rfl
  starts := ⟨0, by simp, rfl⟩
  queue := List.Sublist.refl _
  bound := le_max_left _ _
  done := fun hn hl => h hl hn

/-- One grant before a run of others. -/
theorem State.Granted.step {e : PrimeEntry} {u : State} {n : Nat} (he : e ∈ s.apps.queue)
    (room : s.apps.startList.length < s.line.limits.windowLimit) (h : State.Granted (s.grant e) u n) :
    State.Granted s u (n + 1) := by
  obtain ⟨hline, hclock, hqueue, hstarts⟩ := s.grant_window e
  have length := List.length_erase_add_one he
  have bound := h.bound
  rw [hstarts, hline, List.length_append, List.length_singleton] at bound
  refine ⟨h.line.trans hline, ?_, ?_, by omega, fun hn hl => ?_⟩
  · obtain ⟨k, hk, hlen⟩ := h.starts
    refine ⟨k + 1, ?_, ?_⟩
    · rw [hk, hstarts, hclock, List.append_assoc, List.replicate_succ, List.singleton_append]
    · rw [hqueue] at hlen; omega
  · exact h.queue.trans (hqueue ▸ List.erase_sublist)
  · exact h.done (by rw [hqueue]; omega) (by rw [hline]; exact hl)

theorem State.granted_grants (s : State) (n : Nat) : State.Granted s (s.grants n) n := by
  induction n generalizing s with
  | zero =>
    refine State.Granted.none fun _ hn e he => ?_
    rw [List.length_eq_zero_iff.mp (Nat.le_zero.mp hn)] at he
    cases he
  | succ n ih =>
    rw [State.grants]
    split
    next room =>
      split
      next e he => exact (ih _).step (List.mem_of_find?_eq_some he) room
      next none => exact State.Granted.none fun _ _ e he => by simpa using List.find?_eq_none.mp none e he
    next full => exact State.Granted.none fun room => absurd room full

theorem LineMode.headsRun_iff (m : LineMode) : m.headsRun = true ↔ m ≠ .halted ∧ m ≠ .initializing := by
  simp [LineMode.headsRun]

theorem State.grantDecision_runs (h : s.line.mode ≠ .halted) (hi : s.line.mode ≠ .initializing) :
    s.grantDecision = s.grants s.apps.queue.length := if_pos ((LineMode.headsRun_iff _).mpr ⟨h, hi⟩)

theorem State.grantDecision_stopped (h : s.line.mode = .halted ∨ s.line.mode = .initializing) : s.grantDecision = s := by
  refine if_neg fun runs => ?_
  obtain ⟨hh, hi⟩ := (LineMode.headsRun_iff _).mp runs
  exact h.elim hh hi

/-- A decision that grants nothing. -/
theorem State.grantDecision_none (h : s.line.limits.windowLimit ≤ s.apps.startList.length ∨
    ∀ e ∈ s.apps.queue, ¬s.grantReady (appLane e.app) = true) : s.grantDecision = s := by
  unfold State.grantDecision
  split
  · cases s.apps.queue.length with
    | zero => rfl
    | succ n =>
      rw [State.grants]
      split
      next room =>
        have none : s.apps.queue.find? (fun e => s.grantReady (appLane e.app)) = none :=
          List.find?_eq_none.mpr (h.resolve_left (Nat.not_le.mpr room))
        rw [none]
      next => rfl
  · rfl

/-- The first grant of a decision: the oldest entry whose lane is ready. -/
theorem State.grantDecision_first {before after : List PrimeEntry} {e : PrimeEntry}
    (hq : s.apps.queue = before ++ e :: after) (hb : ∀ x ∈ before, ¬s.grantReady (appLane x.app) = true)
    (he : s.grantReady (appLane e.app) = true) (room : s.apps.startList.length < s.line.limits.windowLimit)
    (hh : s.line.mode ≠ .halted) (hi : s.line.mode ≠ .initializing) : s.grantDecision = (s.grant e).grantDecision := by
  obtain ⟨hline, -, hqueue, -⟩ := s.grant_window e
  have mem : e ∈ s.apps.queue := by rw [hq]; simp
  have find : s.apps.queue.find? (fun e => s.grantReady (appLane e.app)) = some e := by
    rw [List.find?_eq_some_iff_append, hq]
    exact ⟨he, before, after, rfl, by simpa using hb⟩
  have length : s.apps.queue.length = (s.grant e).apps.queue.length + 1 := by
    rw [hqueue, List.length_erase_add_one mem]
  rw [State.grantDecision_runs hh hi, length, State.grants, if_pos room, find,
    State.grantDecision_runs (by rw [hline]; exact hh) (by rw [hline]; exact hi)]

/-- The entry granted leaves the others as they stood. -/
theorem erase_append_cons {α : Type} [BEq α] [LawfulBEq α] {before after : List α} {e : α} (h : e ∉ before) :
    (before ++ e :: after).erase e = before ++ after := by
  rw [List.erase_append_right _ h, List.erase_cons_head]

end Sys2Proof.Machine
end

section
/-! The steps of a waiting lane and the order in which a free head takes work (R56, R57, R90, R96), and the choices of the
heads (O11). -/

namespace Sys2Proof.Machine

variable {s : State} {l : Fin 2}

/-! ## A waiting lane (R90, R57) -/

theorem State.ready_iff {a : Fin 6} {m : Nat} : s.ready a m = true ↔
    (s.unit a).state = .primed ∧ (s.unit a).material = some m ∧ ∀ e ∈ s.apps.queue, e.app ≠ a := by
  simp [State.ready, State.queued, and_assoc]

theorem State.wake_awake (h : (s.lane l).status ≠ .waitApplicator) : s.wake l = s := if_neg h

theorem State.wake_ready (h : (s.lane l).status = .waitApplicator)
    (hr : s.ready (s.currentStroke l).applicator (s.currentStroke l).material = true) : s.wake l =
      ((s.setUnit (s.currentStroke l).applicator { s.unit (s.currentStroke l).applicator with need := none }).setLane l
        { s.lane l with status := .running }).post (.lane l) := by
  have lane : (s.clearNeed l).lane l = s.lane l := by rw [State.clearNeed_eq]; rfl
  simp only [State.wake, h, hr, if_true]
  rw [State.setStatus_new (by rw [lane, h]; exact LaneStatus.noConfusion), lane, State.clearNeed_eq]

theorem State.wake_notReady (h : (s.lane l).status = .waitApplicator)
    (hr : ¬s.ready (s.currentStroke l).applicator (s.currentStroke l).material = true) :
    s.wake l = s.autoStep (s.currentStroke l).applicator := by
  simp only [State.wake, h, hr, if_true]
  rfl

section AutoStep
variable {a : Fin 6} {m : Nat}

theorem State.autoStep_noNeed (h : (s.unit a).need = none) : s.autoStep a = s := by
  simp only [State.autoStep, h]

theorem State.autoStep_queued (h : (s.unit a).need = some m) (hq : s.queued a = true) : s.autoStep a = s := by
  simp only [State.autoStep, h, hq, if_true]

/-- The step of an applicator with a need and no entry queued, by its state. -/
theorem State.autoStep_eq (h : (s.unit a).need = some m) (hq : s.queued a = false) : s.autoStep a =
    match (s.unit a).state with
    | .parked => (s.modUnit a fun r => r.awaiting .uncap .automatic s.clock s.apps.accepted).nextOrder
    | .primed => if (s.unit a).material = some m then s else s.enqueue ⟨a, .purge, (s.unit a).material, .automatic⟩
    | .fouled => if (s.opOf a).isSome then s else s.enqueue ⟨a, .purge, (s.unit a).material, .automatic⟩
    | .idleDry => s.enqueue ⟨a, .prime, some m, .automatic⟩
    | _ => s := by
  simp only [State.autoStep, h, hq, Bool.false_eq_true, if_false]
  cases (s.unit a).state <;> rfl

/-- An automatic uncap accepted, with its APPLICATOR notice. -/
theorem State.modUnit_awaiting_parked {o : Origin} {time order : Nat} (h : (s.unit a).state = .parked) :
    s.modUnit a (Applicator.awaiting .uncap o time order) =
      (s.setUnit a { s.unit a with state := .uncapping, waiting := some ⟨.uncap, o, time, order⟩ }).post
        (.applicator a) := by
  have noticed : (s.unit a).noticed ((s.unit a).awaiting .uncap o time order) = true := by
    simp [Applicator.noticed, Applicator.awaiting, h]
  rw [State.modUnit, if_pos noticed]
  rfl

theorem State.autoStep_parked (h : (s.unit a).need = some m) (hq : s.queued a = false)
    (hs : (s.unit a).state = .parked) : s.autoStep a = ((s.setUnit a { s.unit a with
      state := .uncapping, waiting := some ⟨.uncap, .automatic, s.clock, s.apps.accepted⟩ }).post
        (.applicator a)).nextOrder := by
  rw [State.autoStep_eq h hq, hs]
  exact congrArg State.nextOrder (State.modUnit_awaiting_parked hs)

end AutoStep

/-! ## The order of a free head (R56, R96) -/

theorem State.headFree_of {s : State} (h : (s.lane l).op = none) : s.headFree l = true := by
  rw [State.headFree, h]; rfl

theorem State.headFree_busy {s : State} (h : (s.lane l).op ≠ none) : s.headFree l = false := by
  rw [State.headFree, Option.isNone_eq_false_iff]
  exact Option.isSome_iff_ne_none.mpr h

/-- A waiting cap or uncap sent. -/
theorem State.sendWaiting_eq {a : Fin 6} {w : WaitCommand} (h : (s.unit a).waiting = some w) : s.sendWaiting l a =
    if w.kind = .cap then (s.setUnit a { s.unit a with waiting := none }).sending l .cap a 5000 (.cap a)
    else (s.setUnit a { s.unit a with waiting := none }).sending l .uncap a 5000 (.uncap a) := by
  have quiet : (s.modUnit a fun r => { r with waiting := none }) = s.setUnit a { s.unit a with waiting := none } := by
    simp [State.modUnit, Applicator.noticed]
  simp only [State.sendWaiting, h, quiet]
  cases w.kind <;> rfl

theorem State.serve_busy {n : Nat} (h : (s.wake l).line.mode = .halted ∨ (s.wake l).line.mode = .initializing ∨
    ((s.wake l).lane l).op ≠ none) : s.serve (n + 1) l = s.wake l := by
  rw [State.serve]
  refine if_pos ?_
  rw [Bool.or_eq_true, Bool.not_eq_true', Bool.not_eq_true']
  rcases h with h | h | h
  · exact .inl (by rw [h]; rfl)
  · exact .inl (by rw [h]; rfl)
  · exact .inr (State.headFree_busy h)

/-- The heads run and the head of the lane is free. -/
structure State.TakesWork (s : State) (l : Fin 2) : Prop where
  notHalted : s.line.mode ≠ .halted
  started : s.line.mode ≠ .initializing
  free : (s.lane l).op = none

theorem State.serve_free {n : Nat} (h : (s.wake l).TakesWork l) : s.serve (n + 1) l =
    match (s.wake l).firstWaiting l WaitCommand.ofLine with
    | some a => (s.wake l).sendWaiting l a
    | none =>
      let g := (s.wake l).grantDecision
      if !g.headFree l then g
      else
        match g.firstWaiting l WaitCommand.autoUncap with
        | some a => g.sendWaiting l a
        | none =>
          if (g.lane l).status = .running then (g.takeStroke l).serve n l
          else match g.spitChoice l with
            | some a => g.sendSpit l a
            | none => g := by
  have runs := (LineMode.headsRun_iff _).mpr ⟨h.notHalted, h.started⟩
  rw [State.serve]
  refine if_neg ?_
  rw [runs, State.headFree_of h.free]
  exact Bool.false_ne_true

/-- First a cap or an uncap of the line computer. -/
theorem State.serve_line {n : Nat} {a : Fin 6} (h : (s.wake l).TakesWork l)
    (hw : (s.wake l).firstWaiting l WaitCommand.ofLine = some a) : s.serve (n + 1) l = (s.wake l).sendWaiting l a := by
  rw [State.serve_free h, hw]

/-- Then the grants, which may take the head. -/
theorem State.serve_granted {n : Nat} (h : (s.wake l).TakesWork l)
    (hw : (s.wake l).firstWaiting l WaitCommand.ofLine = none) (hb : ((s.wake l).grantDecision.lane l).op ≠ none) :
    s.serve (n + 1) l = (s.wake l).grantDecision := by
  simp only [State.serve_free h, hw, State.headFree_busy hb, Bool.not_false, if_true]

/-- Then an automatic uncap. -/
theorem State.serve_uncap {n : Nat} {a : Fin 6} (h : (s.wake l).TakesWork l)
    (hw : (s.wake l).firstWaiting l WaitCommand.ofLine = none) (hf : ((s.wake l).grantDecision.lane l).op = none)
    (ha : (s.wake l).grantDecision.firstWaiting l WaitCommand.autoUncap = some a) :
    s.serve (n + 1) l = (s.wake l).grantDecision.sendWaiting l a := by
  simp only [State.serve_free h, hw, State.headFree_of hf, ha, Bool.not_true, Bool.false_eq_true, if_false]

/-- Then the current stroke, after which the order is applied again, or a spit. -/
theorem State.serve_last {n : Nat} (h : (s.wake l).TakesWork l)
    (hw : (s.wake l).firstWaiting l WaitCommand.ofLine = none) (hf : ((s.wake l).grantDecision.lane l).op = none)
    (ha : (s.wake l).grantDecision.firstWaiting l WaitCommand.autoUncap = none) : s.serve (n + 1) l =
      let g := (s.wake l).grantDecision
      if (g.lane l).status = .running then (g.takeStroke l).serve n l
      else match g.spitChoice l with
        | some a => g.sendSpit l a
        | none => g := by
  simp only [State.serve_free h, hw, State.headFree_of hf, ha, Bool.not_true, Bool.false_eq_true, if_false]

theorem WaitCommand.ofLine_iff {w : WaitCommand} : w.ofLine = true ↔ w.origin = .lineComputer := decide_eq_true_iff

theorem WaitCommand.autoUncap_iff {w : WaitCommand} : w.autoUncap = true ↔ w.origin = .automatic ∧ w.kind = .uncap := by
  simp [WaitCommand.autoUncap]

/-! ## The obligation, part by part -/

/-- What a decision leaves. -/
theorem grantDecision_leaves (s : State) :
    (∃ k, s.grantDecision.apps.startList = s.apps.startList ++ List.replicate k s.clock ∧
      s.apps.queue.length = s.grantDecision.apps.queue.length + k) ∧
    s.grantDecision.apps.queue.Sublist s.apps.queue ∧
    s.grantDecision.apps.startList.length ≤ max s.apps.startList.length s.line.limits.windowLimit ∧
    (s.line.mode ≠ .halted → s.line.mode ≠ .initializing →
      s.grantDecision.apps.startList.length < s.line.limits.windowLimit →
      ∀ e ∈ s.grantDecision.apps.queue, s.grantDecision.grantReady (appLane e.app) = false) ∧
    (s.line.mode = .halted ∨ s.line.mode = .initializing → s.grantDecision = s) := by
  by_cases h : s.line.mode = .halted ∨ s.line.mode = .initializing
  · rw [State.grantDecision_stopped h]
    exact ⟨⟨0, by simp, rfl⟩, List.Sublist.refl _, le_max_left _ _, fun hh hi => absurd h (not_or.mpr ⟨hh, hi⟩), fun _ => rfl⟩
  · obtain ⟨hh, hi⟩ := not_or.mp h
    have granted := s.granted_grants s.apps.queue.length
    rw [State.grantDecision_runs hh hi]
    exact ⟨granted.starts, granted.queue, granted.bound, fun _ _ => granted.done le_rfl, fun h' => absurd h' h⟩

/-- Settles O11, part by part: what a decision leaves, the spit, the first grant, a waiting lane, the automatic step and the
order of a free head. -/
theorem headChoices : Obligations.HeadChoices := by
  unfold Obligations.HeadChoices
  refine ⟨grantDecision_leaves, fun s l => ⟨State.spitChoice_spraying, fun a h => ?_, fun hs h c hc hp => ?_⟩, ?_, ?_, ?_, ?_⟩
  · have most := State.spitChoice_some h
    refine ⟨(mem_laneApps l a).mp most.mem, most.owes.1, most.owes.2, fun c hc hp => ?_⟩
    by_cases hd : 0 < (s.unit c).debt
    · exact most.most c ((mem_laneApps l c).mpr hc) ⟨hp, hd⟩
    · have owed := most.owes.2
      exact ⟨by omega, fun he => by omega⟩
  · have owes := State.spitChoice_none hs h c ((mem_laneApps l c).mpr hc)
    by_contra hd
    exact owes ⟨hp, Nat.pos_of_ne_zero hd⟩
  · intro s ready
    have lanes (l : Fin 2) : s.grantReady l = true ↔ ready l := State.grantReady_iff
    refine ⟨fun h => State.grantDecision_none (h.imp_right fun none e he => mt (lanes _).mp (none e he)), ?_⟩
    intro before e after hq hb he room hh hi u sent purging
    have first := State.grantDecision_first hq (fun x hx => mt (lanes _).mp (hb x hx)) ((lanes _).mpr he) room hh hi
    have queue : s.apps.queue.erase e = before ++ after := by
      rw [hq, erase_append_cons fun mem => hb e mem he]
    refine ⟨fun m hk hm => first.trans ?_, fun m hk hm => first.trans ?_, fun hk hm => first.trans ?_⟩
    · rw [State.grant_prime hk hm, queue]
    · rw [State.grant_purge hk hm, queue]
    · rw [State.grant_purgeDry hk hm, queue]
  · intro s l st a ready
    have isReady : s.ready a st.material = true ↔ ready := State.ready_iff
    exact ⟨State.wake_awake, fun h hr => State.wake_ready h (isReady.mpr hr),
      fun h hr => State.wake_notReady h (mt isReady.mp hr)⟩
  · intro s a m r inFlight
    refine ⟨State.autoStep_noNeed, fun hn hq => State.autoStep_queued hn ?_, fun hn hq => ?_⟩
    · simpa [State.queued] using hq
    · have free : s.queued a = false := by simpa [State.queued] using hq
      have step := State.autoStep_eq hn free
      refine ⟨State.autoStep_parked hn free, fun hs => ?_, fun hs hf => ?_, fun hs hf => ?_, fun hs => ?_, fun hs => ?_⟩
      · rw [step, hs]
      · rw [step, hs]; exact if_pos (State.opOf_isSome.mpr hf)
      · rw [step, hs]; exact if_neg (mt State.opOf_isSome.mp hf)
      · rw [step, hs]
      · rw [step]
        rcases hs with hs | hs | hs | hs | hs | hs <;> rw [hs]
  · intro s l n u g ofLine ofAuto none_ first sent takes
    refine ⟨rfl, State.serve_busy, fun hh hi hf => ?_⟩
    have work : (s.wake l).TakesWork l := ⟨hh, hi, hf⟩
    have noLine (h : none_ u ofLine) : u.firstWaiting l WaitCommand.ofLine = none :=
      State.firstWaiting_none.mpr fun a w ha hw => Bool.eq_false_iff.mpr (mt WaitCommand.ofLine_iff.mp (h a w ha hw))
    refine ⟨fun a w ⟨ha, hw, hp, hfirst⟩ => ?_, fun h hb => State.serve_granted work (noLine h) hb, fun h hg => ⟨?_, ?_⟩⟩
    · have chosen := State.firstWaiting_first ha hw (WaitCommand.ofLine_iff.mpr hp) fun c x hc hne hx hpx =>
        hfirst c x hc hne hx (WaitCommand.ofLine_iff.mp hpx)
      exact (State.serve_line work chosen).trans (State.sendWaiting_eq hw)
    · rintro a w ⟨ha, hw, hp, hfirst⟩
      have chosen := State.firstWaiting_first ha hw (WaitCommand.autoUncap_iff.mpr hp) fun c x hc hne hx hpx =>
        hfirst c x hc hne hx (WaitCommand.autoUncap_iff.mp hpx)
      exact (State.serve_uncap work (noLine h) hg chosen).trans (State.sendWaiting_eq hw)
    · intro hauto
      have noUncap : g.firstWaiting l WaitCommand.autoUncap = none := State.firstWaiting_none.mpr fun a w ha hw =>
        Bool.eq_false_iff.mpr (mt WaitCommand.autoUncap_iff.mp (hauto a w ha hw))
      have last := State.serve_last (n := n) work (noLine h) hg noUncap
      refine ⟨fun hr => last.trans (if_pos hr), fun hr => ⟨fun a ha => ?_, fun hnone => ?_⟩⟩
      · exact (last.trans (if_neg hr)).trans (by rw [ha]; rfl)
      · exact (last.trans (if_neg hr)).trans (by rw [hnone])

end Sys2Proof.Machine
end

section
/-! SUPPORT. What every command does to the guards of a keep-out edit and to the reply queue, said as one relation: `Acts rs s t`
holds where `t` comes from `s` with the replies `rs` produced and with the guards kept: no SPRAYING board under an edit (R79), no
spit beside a SPRAYING board (R96), and edit steps within their affected class set (R73). It is shown for each shared operation
from the updates that the operation is made of. -/

namespace Sys2Proof.Machine

/-- The three guards that hold in `s` hold in `t`. -/
structure Guards (s t : State) : Prop where
  spared : s.EditsSpareSprayed → t.EditsSpareSprayed
  spits : s.NoSpitWhileSpraying → t.NoSpitWhileSpraying
  sound : s.EditSound → t.EditSound

theorem Guards.trans {a b c : State} (h : Guards a b) (g : Guards b c) : Guards a c where
  spared := g.spared ∘ h.spared
  spits := g.spits ∘ h.spits
  sound := g.sound ∘ h.sound

/-- A board that is SPRAYING after a change was so before it, of the same class and on the same lane. -/
def Board.NotStarted (b b' : Board) : Prop := b'.life = .spraying → b.life = .spraying ∧ b.cls = b'.cls ∧ b.lane = b'.lane

/-- Where the update becomes known only with the whole chain of updates, the proof is given as `by exact`, which waits for it. -/
theorem Board.NotStarted.same {b b' : Board} (hl : b'.life = b.life) (hc : b.cls = b'.cls) (hlane : b.lane = b'.lane) :
    b.NotStarted b' := fun h => ⟨hl.symm.trans h, hc, hlane⟩

theorem Board.NotStarted.of_life {b b' : Board} (h : b'.life ≠ .spraying) : b.NotStarted b' := fun hl => absurd hl h

/-- A spit is the head operation of a lane. -/
def Lane.spits (r : Lane) : Bool := r.op.any fun o => decide (o.kind = .spit)

/-- An update that the guards do not read, or by which only less is SPRAYING, spitting or named by an entry. -/
structure Calm (s t : State) : Prop where
  edit : t.keepOut.edit = s.keepOut.edit
  names : ∀ i c, (t.entry i).names c = true → (s.entry i).names c = true
  boards : ∀ k b, t.board k = some b → b.life = .spraying → ∃ b', s.board k = some b' ∧ b'.NotStarted b
  spits : ∀ l, (t.lane l).spits = true → (s.lane l).spits = true

variable {rs : List Reply} {s0 s t : State}

theorem Calm.of_names (edit : t.keepOut.edit = s.keepOut.edit)
    (names : ∀ i c, (t.entry i).names c = true → (s.entry i).names c = true) (hb : t.board = s.board) (hl : t.lane = s.lane) :
    Calm s t where
  edit := edit
  names := names
  boards _ b h _ := ⟨b, hb ▸ h, .same rfl rfl rfl⟩
  spits _ h := hl ▸ h

theorem Calm.of_boards (hk : t.keepOut = s.keepOut)
    (boards : ∀ k b, t.board k = some b → b.life = .spraying → ∃ b', s.board k = some b' ∧ b'.NotStarted b)
    (spits : ∀ l, (t.lane l).spits = true → (s.lane l).spits = true) : Calm s t where
  edit := by rw [hk]
  names i _ h := by rwa [State.entry, hk] at h
  boards := boards
  spits := spits

theorem Calm.of_lanes (hk : t.keepOut = s.keepOut) (hb : t.board = s.board)
    (spits : ∀ l, (t.lane l).spits = true → (s.lane l).spits = true) : Calm s t :=
  .of_boards hk (fun _ b h _ => ⟨b, hb ▸ h, .same rfl rfl rfl⟩) spits

/-- An update of what the guards do not read. -/
theorem Calm.of_eq (hk : t.keepOut = s.keepOut) (hb : t.board = s.board) (hl : t.lane = s.lane) : Calm s t :=
  .of_lanes hk hb fun _ h => hl ▸ h

theorem State.laneSpraying_iff {l : Fin 2} : s.laneSpraying l = true ↔
    ∃ k b, k < Config.slots ∧ s.board k = some b ∧ b.lane = l ∧ b.life = .spraying := by
  simp only [State.laneSpraying, List.any_eq_true, State.mem_boards, Bool.and_eq_true, decide_eq_true_eq, Prod.exists]
  exact ⟨fun ⟨k, b, ⟨hk, hb⟩, hl⟩ => ⟨k, b, hk, hb, hl⟩, fun ⟨k, b, hk, hb, hl⟩ => ⟨k, b, ⟨hk, hb⟩, hl⟩⟩

theorem State.noSpit_iff : s.NoSpitWhileSpraying ↔ ∀ l, (s.lane l).spits = true → s.laneSpraying l = false := by
  simp only [State.NoSpitWhileSpraying, Lane.spits, Option.any_eq_true, decide_eq_true_eq]
  exact ⟨fun h l ⟨o, ho, hk⟩ => h l o ho hk, fun h l o ho hk => h l ⟨o, ho, hk⟩⟩

/-- What an edit step asks of the entries it touches, for a class outside the edit's set (R73). -/
def State.StepSpares (s : State) (c : Nat) : EditStep → Prop
  | .write i x => x.names c = false ∧ (s.entry i).names c = false
  | .copy i j => (s.entry i).names c = false ∧ (s.entry j).names c = false
  | .clear i => (s.entry i).names c = false

theorem State.editSound_iff : s.EditSound ↔ ∀ e, s.keepOut.edit = some e → ∀ c, 1 ≤ c → c ≤ 48 →
    e.affected.has (c - 1) = false → ∀ st ∈ e.steps, s.StepSpares c st := by
  refine forall₂_congr fun e _ => forall₄_congr fun c _ _ _ => forall₂_congr fun st _ => ?_
  cases st <;> rfl

theorem State.StepSpares.mono {c : Nat} {st : EditStep} (h : s.StepSpares c st)
    (hn : ∀ i, (t.entry i).names c = true → (s.entry i).names c = true) : t.StepSpares c st := by
  have less : ∀ i, (s.entry i).names c = false → (t.entry i).names c = false := fun i hi => by
    by_contra ht
    rw [hn i (by simpa using ht)] at hi
    cases hi
  cases st with
  | write i x => exact ⟨h.1, less i h.2⟩
  | copy i j => exact ⟨less i h.1, less j h.2⟩
  | clear i => exact less i h

/-- The steps of an edit are read of the keep-out table alone. -/
theorem State.EditSound.of_keepOut (h : s.EditSound) (hk : t.keepOut = s.keepOut) : t.EditSound := by
  have entry : ∀ i, t.entry i = s.entry i := fun i => by rw [State.entry, State.entry, hk]
  rw [State.editSound_iff] at h ⊢
  intro e he c h1 h48 hc st hst
  exact (h e (hk ▸ he) c h1 h48 hc st hst).mono fun i hn => by rwa [entry] at hn

theorem Calm.guards (h : Calm s t) : Guards s t where
  spared g e he p hp hl := by
    rw [State.mem_boards] at hp
    obtain ⟨b', hb', same⟩ := h.boards _ _ hp.2 hl
    obtain ⟨hl', hc, -⟩ := same hl
    exact hc ▸ g e (h.edit ▸ he) (p.1, b') (State.mem_boards.2 ⟨hp.1, hb'⟩) hl'
  spits g := by
    rw [State.noSpit_iff] at g ⊢
    intro l hs
    by_contra ht
    obtain ⟨k, b, hk, hb, hbl, hl⟩ := State.laneSpraying_iff.1 (by simpa using ht)
    obtain ⟨b', hb', same⟩ := h.boards _ _ hb hl
    obtain ⟨hl', -, hlane⟩ := same hl
    have : s.laneSpraying l = true := State.laneSpraying_iff.2 ⟨k, b', hk, hb', hlane.trans hbl, hl'⟩
    rw [g l (h.spits l hs)] at this
    cases this
  sound g := by
    rw [State.editSound_iff] at g ⊢
    exact fun e he c h1 h48 hc st hst => (g e (h.edit ▸ he) c h1 h48 hc st hst).mono fun i => h.names i c

/-! ## The relation -/

/-- `t` comes from `s` with the replies `rs` produced and the guards kept. -/
structure Acts (rs : List Reply) (s t : State) : Prop extends Guards s t where
  replies : t.link.replies = s.link.replies ++ rs

theorem Acts.refl : Acts [] s s where
  spared := id
  spits := id
  sound := id
  replies := (List.append_nil _).symm

theorem Acts.guards (h : Acts rs s0 s) (g : Guards s t) (hr : t.link.replies = s.link.replies) : Acts rs s0 t where
  toGuards := h.toGuards.trans g
  replies := hr.trans h.replies

theorem Acts.calm (h : Acts rs s0 s) (c : Calm s t) (hr : t.link.replies = s.link.replies) : Acts rs s0 t :=
  h.guards c.guards hr

/-- An update of what neither the guards nor the reply queue is. -/
theorem Acts.same (h : Acts rs s0 s) (hk : t.keepOut = s.keepOut) (hb : t.board = s.board) (hl : t.lane = s.lane)
    (hr : t.link.replies = s.link.replies) : Acts rs s0 t := h.calm (.of_eq hk hb hl) hr

/-! ## The updates -/

theorem Acts.post (h : Acts rs s0 s) (n : Notice) : Acts rs s0 (s.post n) := by
  rw [State.post_record]; exact h.same rfl rfl rfl rfl

theorem Acts.take (h : Acts rs s0 s) (i : Instr) : Acts rs s0 (s.take i) := h.same rfl rfl rfl rfl

theorem Acts.reach (h : Acts rs s0 s) (n : Nat) : Acts rs s0 (s.reach n) := h.same rfl rfl rfl rfl

theorem Acts.withApps (h : Acts rs s0 s) (x : AppManager) : Acts rs s0 { s with apps := x } := h.same rfl rfl rfl rfl

theorem Acts.withOven (h : Acts rs s0 s) (x : Oven) : Acts rs s0 { s with oven := x } := h.same rfl rfl rfl rfl

theorem Acts.withLine (h : Acts rs s0 s) (x : Line) : Acts rs s0 { s with line := x } := h.same rfl rfl rfl rfl

theorem Acts.withHold (h : Acts rs s0 s) (x : Hold) : Acts rs s0 { s with hold := x } := h.same rfl rfl rfl rfl

theorem Acts.withRecipe (h : Acts rs s0 s) (x : Recipe) : Acts rs s0 { s with recipe := x } := h.same rfl rfl rfl rfl

theorem Acts.answer (h : Acts [] s0 s) (d : Header) (k : Nat) (c : ResultCode) (b : Body) :
    Acts [⟨(k + 0x80) % 0x100, d.tag, c, b, d.place⟩] s0 (s.answer d k c b) where
  toGuards := h.toGuards.trans (Calm.guards (.of_eq rfl rfl rfl))
  replies := by rw [State.answer_replies, h.replies, List.append_nil]

theorem Acts.setBoard (h : Acts rs s0 s) (k : Nat) (x : Option Board)
    (hx : ∀ b', x = some b' → b'.life = .spraying → ∃ b, s.board k = some b ∧ b.NotStarted b') :
    Acts rs s0 (s.setBoard k x) := by
  refine h.calm (.of_boards rfl (fun j b hb hl => ?_) fun _ h => h) rfl
  rw [State.setBoard_board] at hb
  split at hb
  · next e => exact e ▸ hx b hb hl
  · exact ⟨b, hb, .same rfl rfl rfl⟩

theorem Acts.modBoardQuiet (h : Acts rs s0 s) (k : Nat) (f : Board → Board)
    (hf : ∀ b : Board, b.NotStarted (f b)) : Acts rs s0 (s.modBoardQuiet k f) := by
  unfold State.modBoardQuiet; split
  · exact h
  · next b hb => exact h.setBoard k _ fun b' e _ => ⟨b, hb, Option.some.inj e ▸ hf b⟩

theorem Acts.modBoard (h : Acts rs s0 s) (k : Nat) (f : Board → Board)
    (hf : ∀ b : Board, b.NotStarted (f b)) : Acts rs s0 (s.modBoard k f) := by
  have g := h.modBoardQuiet k f hf
  unfold State.modBoardQuiet at g
  unfold State.modBoard
  split at g
  · exact g
  · dsimp only; split
    · exact g.post _
    · exact g

theorem Acts.modUnit (h : Acts rs s0 s) (a : Fin 6) (f : Applicator → Applicator) : Acts rs s0 (s.modUnit a f) := by
  rw [State.modUnit_rest]; exact h.same rfl rfl rfl rfl

theorem Acts.setLane (h : Acts rs s0 s) (l : Fin 2) (r : Lane) (hr : r.spits = true → (s.lane l).spits = true) :
    Acts rs s0 (s.setLane l r) := by
  refine h.calm (.of_lanes rfl rfl fun k hk => ?_) rfl
  rw [State.setLane_lane] at hk
  split at hk
  · next e => exact e ▸ hr hk
  · exact hk

theorem Acts.modLane (h : Acts rs s0 s) (l : Fin 2) (f : Lane → Lane)
    (hf : ∀ r : Lane, (f r).spits = true → r.spits = true) : Acts rs s0 (s.modLane l f) :=
  h.setLane l _ (hf _)

theorem Acts.setStatus (h : Acts rs s0 s) (l : Fin 2) (st : LaneStatus) : Acts rs s0 (s.setStatus l st) := by
  have g := h.modLane l (fun r => { r with status := st }) fun _ h => h
  unfold State.setStatus; dsimp only; split
  · exact g
  · exact g.post _

/-- An operation sent that is no spit. -/
theorem Acts.sendOp (h : Acts rs s0 s) (l : Fin 2) (k : OpKind) (a : Fin 6) (n : Nat) (x : Option StrokeRef)
    (c : HeadCommand) (hk : k ≠ .spit) : Acts rs s0 (s.sendOp l k a n x c) :=
  h.modLane l _ fun _ hs => absurd (by simpa [Lane.spits] using hs) hk

theorem Acts.advance (h : Acts rs s0 s) (l : Fin 2) : Acts rs s0 (s.advance l) := h.modLane l _ fun _ h => h

theorem Acts.enqueue (h : Acts rs s0 s) (e : PrimeEntry) : Acts rs s0 (s.enqueue e) := h.withApps _

theorem Acts.nextOrder (h : Acts rs s0 s) : Acts rs s0 s.nextOrder := h.withApps _

theorem Acts.setMode (h : Acts rs s0 s) (m : LineMode) (c : ChangeCause) : Acts rs s0 (s.setMode m c) := h.withLine _

theorem resetEntry_names (c : Nat) : resetEntry.names c = false := rfl

end Sys2Proof.Machine
end

section
/-! SUPPORT. The shared operations over boards, heads and the shuttle as `Acts` has them: a board becomes SPRAYING only by a
start test that found no edit of its class and no spit on its lane, and a spit is sent only beside no SPRAYING board. -/

namespace Sys2Proof.Machine

variable {rs : List Reply} {s0 s : State}

/-! ## Counting hits -/

/-- Whether a table lists a number. -/
def Table.lists {α : Type} (t : Table α) (i : Nat) : Bool := t.any fun p => decide (p.1 = i)

theorem Table.read_map_at {α : Type} (d : Nat → α) (f : Nat → α → α) (i : Nat) (t : Table α) :
    Table.read d (t.map fun p => (p.1, f p.1 p.2)) i = if Table.lists t i then f i (Table.read d t i) else Table.read d t i := by
  induction t with
  | nil => rfl
  | cons p t ih =>
    obtain ⟨j, v⟩ := p
    by_cases h : j = i
    · subst h; simp [Table.read, Table.lists]
    · have rest : Table.lists ((j, v) :: t) i = Table.lists t i := by simp [Table.lists, h]
      rw [List.map_cons, Table.read, Table.read, if_neg (Ne.symm h), if_neg (Ne.symm h), rest, ih]

/-- An unlisted number reads as its reset record. -/
theorem Table.read_unlisted {α : Type} (d : Nat → α) {i : Nat} {t : Table α} (h : Table.lists t i = false) :
    Table.read d t i = d i := by
  induction t with
  | nil => rfl
  | cons p t ih =>
    simp only [Table.lists, List.any_cons, Bool.or_eq_false_iff, decide_eq_false_iff_not] at h
    rw [Table.read, if_neg (Ne.symm h.1)]
    exact ih h.2

/-- The hits counted (R69): an entry that is listed and decided a cell has one hit more. -/
theorem State.countHits_entry (cols : List (Nat × List Cell)) (i : Nat) : (s.countHits cols).entry i =
    if Table.lists s.keepOut.entries i then (if decidedBy cols i then (s.entry i).hit else s.entry i) else s.entry i := by
  have mapped : (s.countHits cols).keepOut.entries =
      s.keepOut.entries.map fun p => (p.1, if decidedBy cols p.1 then p.2.hit else p.2) :=
    List.map_congr_left fun p _ => by split <;> rfl
  rw [State.entry, mapped]
  exact Table.read_map_at _ (fun i (e : KeepOutEntry) => if decidedBy cols i then e.hit else e) i _

theorem Acts.countHits (h : Acts rs s0 s) (cols : List (Nat × List Cell)) : Acts rs s0 (s.countHits cols) := by
  refine h.calm (.of_names rfl (fun i c hn => ?_) rfl rfl) rfl
  rw [State.countHits_entry] at hn
  repeat' split at hn
  all_goals exact hn

/-! ## Bays, raises and the shuttle -/

theorem Acts.requestBay (h : Acts rs s0 s) (k : Nat) : Acts rs s0 (s.requestBay k) := by
  rw [State.requestBay_rest]; exact h.withOven _

theorem Acts.freeBay (h : Acts rs s0 s) (n : Fin 8) : Acts rs s0 (s.freeBay n) := by
  rw [State.freeBay_record]; exact h.withOven _

theorem Acts.freeBayOf (h : Acts rs s0 s) (k : Nat) : Acts rs s0 (s.freeBayOf k) := by
  rw [State.freeBayOf_record]; exact h.withOven _

theorem Acts.raiseCore (h : Acts rs s0 s) (q : Bool) (k n : Nat) : Acts rs s0 (s.raiseCore q k n) := by
  unfold State.raiseCore; dsimp only; repeat' split
  · exact h
  · exact h.modBoardQuiet _ _ (by exact fun _ => .same rfl rfl rfl)
  · exact h.modBoardQuiet _ _ (by exact fun _ => .same rfl rfl rfl)
  · exact h.modBoard _ _ (by exact fun _ => .same rfl rfl rfl)
  · exact h
  · exact (h.modBoardQuiet _ _ (by exact fun _ => .same rfl rfl rfl)).post _

theorem Acts.leaveReady (h : Acts rs s0 s) (k : Nat) : Acts rs s0 (s.leaveReady k) := by
  unfold State.leaveReady; repeat' split
  · exact h
  · exact h.modBoard _ _ fun _ => .of_life (by simp)
  · exact h

theorem Acts.testReady (h : Acts rs s0 s) (k : Nat) : Acts rs s0 (s.testReady k) := by
  unfold State.testReady; repeat' split
  · exact h
  · exact h.modBoard _ _ fun _ => .of_life (by simp)
  · exact h

theorem Acts.openExpiry (h : Acts rs s0 s) (k : Nat) : Acts rs s0 (s.openExpiry k) :=
  ((h.modBoardQuiet _ _ (by exact fun _ => .same rfl rfl rfl)).raiseCore _ _ _).leaveReady _

theorem Acts.heldOver (h : Acts rs s0 s) (k : Nat) : Acts rs s0 (s.heldOver k) := by
  unfold State.heldOver; repeat' split
  · exact h
  · exact h.openExpiry _
  · exact h

theorem Acts.clearShuttle (h : Acts rs s0 s) : Acts rs s0 s.clearShuttle := h.withOven _

theorem Acts.withdraw (h : Acts rs s0 s) (k : Nat) : Acts rs s0 (s.withdraw k) := (h.clearShuttle.post _).heldOver _

theorem Acts.withdrawAny (h : Acts rs s0 s) : Acts rs s0 s.withdrawAny := by
  unfold State.withdrawAny; repeat' split
  · exact h
  · exact h.withdraw _
  · exact h

theorem Acts.abandonShuttle (h : Acts rs s0 s) : Acts rs s0 s.abandonShuttle := by
  unfold State.abandonShuttle; repeat' split
  · exact h
  · exact h.clearShuttle.heldOver _
  · exact h.clearShuttle.modBoard _ _ (by exact fun _ => .same rfl rfl rfl)

theorem Acts.decideShuttle (h : Acts rs s0 s) : Acts rs s0 s.decideShuttle := by
  unfold State.decideShuttle; repeat' split
  · exact h
  · exact Acts.modBoard (h.withOven _) _ _ (by exact fun _ => .same rfl rfl rfl)
  · exact h.withOven _
  · exact h
  · exact h

/-! ## Applicators and lanes -/

theorem Acts.autoPurge (h : Acts rs s0 s) (a : Fin 6) : Acts rs s0 (s.autoPurge a) := by
  unfold State.autoPurge; split
  · exact h
  · exact h.enqueue _

theorem Acts.lastUse (h : Acts rs s0 s) (st : Stroke) : Acts rs s0 (s.lastUse st) := by
  unfold State.lastUse; split
  · exact h.autoPurge _
  · exact h

theorem Acts.autoStep (h : Acts rs s0 s) (a : Fin 6) : Acts rs s0 (s.autoStep a) := by
  unfold State.autoStep; split
  · exact h
  · split
    · exact h
    · split
      case h_1 => exact (h.modUnit _ _).nextOrder
      case h_2 => split; exacts [h, h.enqueue _]
      case h_3 => split; exacts [h, h.enqueue _]
      case h_4 => exact h.enqueue _
      all_goals exact h

theorem Acts.sendWaiting (h : Acts rs s0 s) (l : Fin 2) (a : Fin 6) : Acts rs s0 (s.sendWaiting l a) := by
  unfold State.sendWaiting; dsimp only; repeat' split
  · exact h
  · exact (h.modUnit _ _).sendOp _ _ _ _ _ _ nofun
  · exact (h.modUnit _ _).sendOp _ _ _ _ _ _ nofun

theorem State.spitChoice_laneSpraying {l : Fin 2} {a : Fin 6} (h : s.spitChoice l = some a) : s.laneSpraying l = false := by
  by_contra hs
  rw [State.spitChoice_spraying (by simpa using hs)] at h
  cases h

/-- A spit is sent beside no SPRAYING board of its lane (R52, R96). -/
theorem Acts.sendSpit (h : Acts rs s0 s) {l : Fin 2} {a : Fin 6} (hc : s.spitChoice l = some a) :
    Acts rs s0 (s.sendSpit l a) := by
  have free : s.laneSpraying l = false := State.spitChoice_laneSpraying hc
  unfold State.sendSpit
  rw [State.modUnit_rest]
  refine h.guards { spared := id, spits := fun g => ?_, sound := id } rfl
  rw [State.noSpit_iff] at g ⊢
  intro k hk
  by_cases e : k = l
  · exact e ▸ free
  · refine g k ?_
    rw [State.sendOp, State.modLane_lane, if_neg e] at hk
    exact hk

theorem Acts.grant (h : Acts rs s0 s) (e : PrimeEntry) : Acts rs s0 (s.grant e) := by
  unfold State.grant; dsimp only; repeat' split
  all_goals exact ((h.withApps _).modUnit _ _).sendOp _ _ _ _ _ _ nofun

theorem Acts.grants (h : Acts rs s0 s) (n : Nat) : Acts rs s0 (s.grants n) := by
  induction n generalizing s with
  | zero => exact h
  | succ n ih =>
    unfold State.grants; repeat' split
    · exact ih (h.grant _)
    · exact h
    · exact h

theorem Acts.grantDecision (h : Acts rs s0 s) : Acts rs s0 s.grantDecision := by
  unfold State.grantDecision; split
  · exact h.grants _
  · exact h

theorem Acts.clearNeed (h : Acts rs s0 s) (l : Fin 2) : Acts rs s0 (s.clearNeed l) := h.modUnit _ _

theorem Acts.stopLane (h : Acts rs s0 s) (l : Fin 2) : Acts rs s0 (s.stopLane l) := (h.clearNeed l).setStatus _ _

theorem Acts.stopWaiting (h : Acts rs s0 s) (l : Fin 2) : Acts rs s0 (s.stopWaiting l) := by
  unfold State.stopWaiting; split
  · exact h.clearNeed l
  · exact h

theorem Acts.laneOver (h : Acts rs s0 s) (l : Fin 2) : Acts rs s0 (s.laneOver l) := by
  unfold State.laneOver; dsimp only; split <;> exact ((h.stopWaiting l).setStatus _ _).modLane _ _ (by exact fun _ h => h)

theorem Acts.toFlashing (h : Acts rs s0 s) (k : Nat) (f : Board → Board) : Acts rs s0 (s.toFlashing k f) :=
  (h.modBoard _ _ fun _ => .of_life (by simp)).requestBay _

theorem Acts.terminal (h : Acts rs s0 s) (l : Fin 2) (k : Nat) : Acts rs s0 (s.terminal l k) := (h.toFlashing _ _).laneOver _

theorem Acts.abandonBoard (h : Acts rs s0 s) (k : Nat) : Acts rs s0 (s.abandonBoard k) := h.toFlashing _ _

theorem Acts.abandon (h : Acts rs s0 s) (l : Fin 2) (k : Nat) : Acts rs s0 (s.abandon l k) := (h.abandonBoard _).laneOver _

theorem Acts.judge (h : Acts rs s0 s) (l : Fin 2) (k : Nat) (f : State → State) (hf : Acts rs s0 (f s)) :
    Acts rs s0 (s.judge l k f) := by
  unfold State.judge; repeat' split
  · exact h
  · exact h.abandon _ _
  · exact h.stopLane _
  · exact hf

theorem Acts.afterAdvance (h : Acts rs s0 s) (l : Fin 2) (k : Nat) (f : State → State) (hf : Acts rs s0 (f s)) :
    Acts rs s0 (s.afterAdvance l k f) := by
  unfold State.afterAdvance; split
  · exact h.terminal _ _
  · exact hf

/-! ## The start of a board (R88, R89) -/

/-- What the start test finds of the two guards (conditions 8 and 9 of R88). -/
theorem State.withhold_none {l : Fin 2} {b : Board} (h : s.withhold l b = none) :
    (∀ e, s.keepOut.edit = some e → e.affected.has (b.cls - 1) = false) ∧ (s.lane l).spits = false := by
  unfold State.withhold at h
  repeat' split at h
  all_goals try cases h
  next noEdit noSpit =>
  refine ⟨fun e he => ?_, by simpa [State.spitting, Lane.spits] using noSpit⟩
  simpa [he] using noEdit

theorem State.startBoard_board {l : Fin 2} {k : Nat} {b : Board} (hb : s.board k = some b) (j : Nat) :
    (s.startBoard l k).board j =
      if j = k then some { b with life := .spraying, strokesDone := 0, gated := 0 } else s.board j := by
  have started := s.modBoard_board k j fun b => { b with life := .spraying, strokesDone := 0, gated := 0 }
  rw [hb] at started
  rw [State.startBoard, State.setStatus_rest]
  exact started

theorem State.startBoard_spits (l m : Fin 2) (k : Nat) : ((s.startBoard l k).lane m).spits = (s.lane m).spits := by
  rw [State.startBoard, State.modLane_lane, State.setStatus_lane, State.setStatus_lane, State.modBoard_rest]
  split
  · next e => rw [e, if_pos rfl]; rfl
  · rfl

theorem State.startBoard_rest (l : Fin 2) (k : Nat) :
    (s.startBoard l k).keepOut = s.keepOut ∧ (s.startBoard l k).link = s.link := by
  rw [State.startBoard, State.setStatus_rest, State.modBoard_rest]
  exact ⟨rfl, rfl⟩

/-- A board is started under no edit of its class (R79) and beside no spit of its lane (R96). -/
theorem Acts.startBoard (h : Acts rs s0 s) {l : Fin 2} {k : Nat} {b : Board} (hb : s.board k = some b) (hl : b.lane = l)
    (hw : s.withhold l b = none) : Acts rs s0 (s.startBoard l k) := by
  obtain ⟨noEdit, noSpit⟩ := State.withhold_none hw
  obtain ⟨hk, hlink⟩ := s.startBoard_rest l k
  have board := State.startBoard_board (s := s) (l := l) hb
  refine h.guards { spared := fun g e he p hp hs => ?_, spits := fun g => ?_, sound := fun g => ?_ } (by rw [hlink])
  · rw [hk] at he
    rw [State.mem_boards, board] at hp
    obtain ⟨hslot, hp⟩ := hp
    split at hp
    · rw [← Option.some.inj hp]; exact noEdit e he
    · exact g e he p (State.mem_boards.2 ⟨hslot, hp⟩) hs
  · rw [State.noSpit_iff] at g ⊢
    intro m hm
    rw [State.startBoard_spits] at hm
    by_contra hs
    obtain ⟨j, x, hj, hx, hxl, hxs⟩ := State.laneSpraying_iff.1 (by simpa using hs)
    rw [board] at hx
    split at hx
    · have lane : m = l := by rw [← hxl, ← Option.some.inj hx]; exact hl
      rw [lane, noSpit] at hm
      cases hm
    · have before := State.laneSpraying_iff.2 ⟨j, x, hj, hx, hxl, hxs⟩
      rw [g m hm] at before
      cases before
  · exact g.of_keepOut hk

theorem Acts.startTest (h : Acts rs s0 s) (l : Fin 2) : Acts rs s0 (s.startTest l) := by
  unfold State.startTest; split
  · exact h
  · next hb =>
      obtain ⟨-, board, lane, -⟩ := (State.sprayBoard_eq_some _ l _ _).1 hb
      split
      · split
        case h_1 hw => exact h.startBoard board lane hw
        case h_2 => exact h.post _
        all_goals exact h
      · exact h

theorem Acts.departDisarmed (h : Acts rs s0 s) (k : Nat) : Acts rs s0 (s.departDisarmed k) := by
  unfold State.departDisarmed; repeat' split
  · exact h
  · exact h.abandonBoard _
  · exact h
  · exact (h.modBoard _ _ fun _ => .of_life (by simp)).startTest _
  · exact h

/-! ## A head that takes work -/

theorem Acts.fragmented (h : Acts rs s0 s) (l : Fin 2) (k : Nat) (st : Stroke) : Acts rs s0 (s.fragmented l k st) := by
  have g := h.raiseCore false k 4
  have g' := (g.lastUse st).advance l
  exact g.judge _ _ _ (g'.afterAdvance _ _ _ g')

theorem Acts.skipStroke (h : Acts rs s0 s) (l : Fin 2) (k : Nat) (st : Stroke) (cols : List (Nat × List Cell)) :
    Acts rs s0 (s.skipStroke l k st cols) := by
  have counted := (h.countHits cols).modBoardQuiet k (fun b => { b with strokesDone := b.strokesDone + 1 }) fun _ =>
    .same rfl rfl rfl
  have g := (counted.lastUse st).advance l
  exact g.afterAdvance _ _ _ (g.judge _ _ _ g)

theorem Acts.sendStroke (h : Acts rs s0 s) (l : Fin 2) (k : Nat) (b : Board) (st : Stroke)
    (cols : List (Nat × List Cell)) : Acts rs s0 (s.sendStroke l k b st cols) :=
  (((h.countHits _).modBoardQuiet _ _ (by exact fun _ => .same rfl rfl rfl)).modUnit _ _).sendOp _ _ _ _ _ _ nofun

theorem Acts.addGated (h : Acts rs s0 s) (k : Nat) (b : Board) (n : Nat) : Acts rs s0 (s.addGated k b n) := by
  unfold State.addGated; dsimp only; split
  · exact (h.modBoardQuiet _ _ (by exact fun _ => .same rfl rfl rfl)).raiseCore _ _ _
  · exact h.modBoardQuiet _ _ (by exact fun _ => .same rfl rfl rfl)

theorem Acts.resolveStroke (h : Acts rs s0 s) (l : Fin 2) (k : Nat) (b : Board) (st : Stroke) :
    Acts rs s0 (s.resolveStroke l k b st) := by
  have gated := h.addGated k b (closedColumns (s.resolve b st))
  unfold State.resolveStroke; dsimp only; split
  · exact h.fragmented _ _ _
  · refine gated.judge _ _ _ ?_
    split
    · exact gated.skipStroke _ _ _ _
    · exact gated.sendStroke _ _ _ _ _

theorem Acts.awaitApp (h : Acts rs s0 s) (l : Fin 2) (st : Stroke) : Acts rs s0 (s.awaitApp l st) := by
  unfold State.awaitApp; dsimp only; split
  · exact ((h.setStatus _ _).modUnit _ _).autoStep _
  · exact h.setStatus _ _

theorem Acts.takeStroke (h : Acts rs s0 s) (l : Fin 2) : Acts rs s0 (s.takeStroke l) := by
  unfold State.takeStroke; dsimp only; repeat' split
  · exact h
  · exact h.resolveStroke _ _ _ _
  · exact h.awaitApp _ _

theorem Acts.wake (h : Acts rs s0 s) (l : Fin 2) : Acts rs s0 (s.wake l) := by
  unfold State.wake; dsimp only; repeat' split
  · exact (h.clearNeed _).setStatus _ _
  · exact h.autoStep _
  · exact h

theorem Acts.serve (h : Acts rs s0 s) (n : Nat) (l : Fin 2) : Acts rs s0 (s.serve n l) := by
  induction n generalizing s with
  | zero => exact h
  | succ n ih =>
    have hw := h.wake l
    have hg := hw.grantDecision
    unfold State.serve; dsimp only; repeat' split
    · exact hw
    · exact hw.sendWaiting _ _
    · exact hg
    · exact hg.sendWaiting _ _
    · exact ih (hg.takeStroke _)
    · next hc => exact hg.sendSpit hc
    · exact hg

/-! ## The end of a head operation -/

theorem Acts.recordFault (h : Acts rs s0 s) (l : Fin 2) (k : Option FaultKind) (i : Nat) : Acts rs s0 (s.recordFault l k i) :=
  (h.modLane l _ (by exact fun _ h => h)).post _

theorem Acts.strokeEnd (h : Acts rs s0 s) (l : Fin 2) (r : StrokeRef) (e : OpEnd) : Acts rs s0 (s.strokeEnd l r e) := by
  unfold State.strokeEnd; repeat' split
  · unfold State.detachedEnd
    refine Acts.departDisarmed ?_ _
    split
    · exact h.modBoardQuiet _ _ (by exact fun _ => .same rfl rfl rfl)
    · exact h.recordFault _ _ _
  · have g := (h.modBoardQuiet r.slot (fun b =>
      { b with strokesDone := b.strokesDone + 1, used := b.used.join r.material }) fun _ => .same rfl rfl rfl).advance l
    exact g.afterAdvance _ _ _ (g.judge _ _ _ g)
  · have g := (h.recordFault l e.faultKind r.index).raiseCore false r.slot 5
    exact g.judge _ _ _ g

theorem Acts.opEnd (h : Acts rs s0 s) (l : Fin 2) (o : HeadOp) (e : OpEnd) : Acts rs s0 (s.opEnd l o e) := by
  have g := (h.modLane l (fun r => { r with op := none }) fun _ => nofun).modUnit o.app
    ((s.modLane l fun r => { r with op := none }).endUnit o.kind e)
  unfold State.opEnd; dsimp only; split
  · split
    · exact g.startTest _
    · exact g
  · refine Acts.strokeEnd ?_ _ _ _
    split
    · exact g.autoPurge _
    · exact g

/-! ## Reports and the close of a step -/

theorem Acts.reactAtSpray (h : Acts rs s0 s) (k : Nat) (b : Board) (w : Bool) : Acts rs s0 (s.reactAtSpray k b w) := by
  unfold State.reactAtSpray; repeat' split
  · exact h.toFlashing _ _
  · exact h.startTest _
  · exact h

theorem Acts.reactSpraying (h : Acts rs s0 s) (k : Nat) (b : Board) : Acts rs s0 (s.reactSpraying k b) := by
  unfold State.reactSpraying; repeat' split
  · exact h
  · exact h.departDisarmed _
  · exact h.abandon _ _
  · exact h.stopLane _
  · exact h
  · exact h.setStatus _ _
  · exact h

theorem Acts.reactBuffered (h : Acts rs s0 s) (k : Nat) (w : Bool) : Acts rs s0 (s.reactBuffered k w) := by
  have g := h.leaveReady k
  unfold State.reactBuffered; dsimp only; split <;> split
  · exact (g.withdraw _).testReady _
  · exact g.withdraw _
  · exact g.testReady _
  · exact g

theorem Acts.react (h : Acts rs s0 s) (k : Nat) (w : Bool) : Acts rs s0 (s.react k w) := by
  unfold State.react; repeat' split
  · exact h
  · exact h
  · exact h.reactAtSpray _ _ _
  · exact h.reactSpraying _ _
  · exact h.reactBuffered _ _
  · exact h.reactBuffered _ _
  · exact h

theorem Acts.raise (h : Acts rs s0 s) (n k : Nat) : Acts rs s0 (s.raise n k) := (h.raiseCore _ _ _).react _ _

theorem Acts.drainEnd (h : Acts rs s0 s) (a : State) : Acts rs s0 (s.drainEnd a) := by
  unfold State.drainEnd; split
  · exact (h.setMode _ _).post _
  · exact h

theorem Acts.settle (h : Acts rs s0 s) (p : Bool) (a : State) : Acts rs s0 (s.settle p a) := by
  have g : Acts rs s0 (((s.serveLane 0).serveLane 1).drainEnd a) := ((h.serve _ 0).serve _ 1).drainEnd a
  unfold State.settle; dsimp only; split
  · exact g.decideShuttle
  · exact g

end Sys2Proof.Machine
end

section
/-! SUPPORT. The commands, block by block, as `Acts` has them: an event that produces no reply, and a request that produces one,
of its kind and tag. -/

namespace Sys2Proof.Machine

/-- `t` comes from `s` with one reply to the request of header `d` and kind `k`, and with the guards kept. -/
def Replies (d : Header) (k : Nat) (s t : State) : Prop :=
  ∃ c b, Acts [⟨(k + 0x80) % 0x100, d.tag, c, b, d.place⟩] s t

variable {s0 s : State}

/-! ## Requests and events -/

theorem Acts.replied (h : Acts [] s0 s) (d : Header) (k : Nat) (c : ResultCode) (b : Body) :
    Replies d k s0 (s.answer d k c b) := ⟨c, b, h.answer d k c b⟩

theorem Replies.request (i : Instr) (k : Nat) (f : Header → State → State)
    (hf : ∀ d u, Acts [] s u → Replies d k s (f d u)) : Yields (Replies (s.header i) k s) (s.request i f) :=
  .next (hf _ _ (Acts.refl.take i))

theorem Replies.unlessInit (h : Acts [] s0 s) {d : Header} {k : Nat} {f : State → State} (hf : Replies d k s0 (f s)) :
    Replies d k s0 (s.unlessInit d k f) := by
  unfold State.unlessInit; split
  · exact h.replied _ _ _ _
  · exact hf

theorem Acts.discardInit {f : State → State} (hf : Acts [] s (f s)) : Acts [] s (s.discardInit f) := by
  unfold State.discardInit; split
  · exact .refl
  · exact hf

/-! ## Line control -/

theorem execPowerOn_guards (e : Bool) : Yields (Guards s) (execPowerOn e s) := by
  have lane : ∀ l, ({ State.powerOn e with pending := s.pending } : State).lane l = resetLane := fun l => by
    simp [State.lane, State.powerOn, Vector.get_eq_getElem]
  have noOp : ∀ l, (({ State.powerOn e with pending := s.pending } : State).lane l).op = none := fun l =>
    congrArg Lane.op (lane l)
  exact .next {
    spared := fun _ _ => nofun
    spits := fun _ l o ho => nomatch (noOp l).symm.trans ho
    sound := fun _ _ => nofun }

theorem execStartUpEnd_acts : Yields (Acts [] s) (execStartUpEnd s) := by
  refine .next ?_
  show Acts [] s s.startUpEnd
  unfold State.startUpEnd; dsimp only; repeat' split
  · exact ((Acts.refl.reach _).setMode _ _).post _
  · exact ((Acts.refl.reach _).setMode _ _).post _
  · exact .refl

theorem Acts.haltLane (h : Acts [] s0 s) (l : Fin 2) : Acts [] s0 (s.haltLane l) := by
  have freed := h.modLane l (fun r => { r with op := none }) fun _ => nofun
  have idle : Acts [] s0 (s.idleLane l) := (freed.setStatus l _).modLane l _ fun _ h => h
  show Acts [] s0 ((s.idleLane l).haltBoard l)
  unfold State.haltBoard; repeat' split
  · exact idle
  · exact idle.abandonBoard _
  · exact (idle.modBoard _ _ fun _ => .of_life (by simp)).raise _ _
  · exact idle

theorem Acts.enterHalted (h : Acts [] s0 s) (c : ChangeCause) : Acts [] s0 (s.enterHalted c) := by
  have units : Acts [] s0 ((s.setMode .halted c).eachUnit fun a r => (s.setMode .halted c).haltUnit a r) :=
    List.foldlRecOn _ _ (h.setMode _ _) fun _ hu a _ => hu.modUnit a _
  exact ((((units.withApps _).haltLane 0).haltLane 1).abandonShuttle).settle _ _

theorem execEstopChange_acts (a : Bool) : Yields (Acts [] s) (execEstopChange a s) := by
  refine .next ?_
  show Acts [] s (s.estopChange a)
  have input : Acts [] s { s with line := { s.line with estop := a } } := Acts.refl.withLine _
  have entered := (input.enterHalted .estop).post .line
  unfold State.estopChange; dsimp only; repeat' split
  · exact .refl
  · exact input
  · exact entered
  · exact input.post _
  · exact entered
  · exact input.post _
  · exact entered
  · exact input.post _
  · exact input.post _

theorem execLineStatus_replies (t : Byte) : Yields (Replies (s.header (.lineStatus t)) 0x01 s) (execLineStatus t s) :=
  Replies.request _ _ _ fun _ _ h => h.replied _ _ _ _

theorem execLineSet_replies (t : Byte) (f : SettingsFields) :
    Yields (Replies (s.header (.lineSet t f)) 0x02 s) (execLineSet t f s) := by
  refine Replies.request _ _ _ fun d u h => .unlessInit h ?_
  have limits : ∀ m, Acts [] s (u.setLimits m) := fun m => h.same rfl rfl rfl rfl
  have oven : ∀ v, Acts [] s (u.setOven v) := fun v => by
    unfold State.setOven; dsimp only; repeat' split
    · exact h.withOven _
    · exact Acts.post (h.withOven _) _
    · exact h.withOven _
  split
  · repeat' split
    · exact h.replied _ _ _ _
    · exact h.replied _ _ _ _
    · exact ⟨_, _, ((limits _).answer _ _ _ _).settle _ _⟩
  · split
    · exact h.replied _ _ _ _
    · exact (oven _).replied _ _ _ _
  · exact h.replied _ _ _ _

theorem Acts.modeChange (h : Acts [] s0 s) (m : LineMode) {u : State} (hu : s.modeChange m = some u) : Acts [] s0 u := by
  unfold State.modeChange at hu
  split at hu <;> cases hu
  case h_1 => exact h
  case h_2 => exact ((h.setMode _ _).startTest _).startTest _
  case h_3 => exact h.setMode _ _
  case h_4 => exact h
  case h_5 =>
    unfold State.enterDrain; dsimp only; split
    · exact (h.setMode _ _).setMode _ _
    · exact h.setMode _ _
  case h_6 => exact h.setMode _ _
  case h_7 => exact h

theorem execMode_replies (t : Byte) (m : Nat) : Yields (Replies (s.header (.mode t m)) 0x03 s) (execMode t m s) := by
  refine Replies.request _ _ _ fun d u h => .unlessInit h ?_
  repeat' split
  · exact h.replied _ _ _ _
  · exact h.replied _ _ _ _
  · next hm => exact ⟨_, _, ((h.modeChange _ hm).answer _ _ _ _).settle _ _⟩

theorem execHalt_replies (t : Byte) : Yields (Replies (s.header (.halt t)) 0x04 s) (execHalt t s) := by
  refine Replies.request _ _ _ fun d u h => .unlessInit h ?_
  split
  · exact h.replied _ _ _ _
  · exact (h.enterHalted _).replied _ _ _ _

theorem execRecover_replies (t : Byte) : Yields (Replies (s.header (.recover t)) 0x05 s) (execRecover t s) := by
  refine Replies.request _ _ _ fun d u h => .unlessInit h ?_
  repeat' split
  · exact h.replied _ _ _ _
  · exact h.replied _ _ _ _
  · exact ⟨_, _, ((h.setMode _ _).answer _ _ _ _).settle _ _⟩

theorem execLineReset_replies (t : Byte) : Yields (Replies (s.header (.lineReset t)) 0x06 s) (execLineReset t s) := by
  refine Replies.request _ _ _ fun d u h => .unlessInit h ?_
  split
  · have reset : Acts [] s u.lineReset := h.calm (.of_boards rfl (fun _ _ => nofun)
      fun l hl => by rw [State.lineReset_lane] at hl; cases hl) rfl
    exact reset.replied _ _ _ _
  · exact h.replied _ _ _ _

/-! ## Recipe store, criteria, routing -/

theorem execClassWrite_replies (t : Byte) (c : Nat) (f : ClassFields) :
    Yields (Replies (s.header (.classWrite t c f)) 0x08 s) (execClassWrite t c f s) := by
  refine Replies.request _ _ _ fun d u h => .unlessInit h ?_
  split
  · exact h.replied _ _ _ _
  · exact Acts.replied (h.withRecipe _) _ _ _ _

theorem execClassRead_replies (t : Byte) (c : Nat) :
    Yields (Replies (s.header (.classRead t c)) 0x09 s) (execClassRead t c s) := by
  refine Replies.request _ _ _ fun d u h => .unlessInit h ?_
  split <;> exact h.replied _ _ _ _

theorem execMaterialWrite_replies (t : Byte) (m : Nat) (f : MaterialFields) :
    Yields (Replies (s.header (.materialWrite t m f)) 0x0A s) (execMaterialWrite t m f s) := by
  refine Replies.request _ _ _ fun d u h => .unlessInit h ?_
  split
  · exact h.replied _ _ _ _
  · exact Acts.replied (h.withRecipe _) _ _ _ _

theorem execMaterialRead_replies (t : Byte) (m : Nat) :
    Yields (Replies (s.header (.materialRead t m)) 0x0B s) (execMaterialRead t m s) := by
  refine Replies.request _ _ _ fun d u h => .unlessInit h ?_
  split <;> exact h.replied _ _ _ _

theorem Acts.mapBoards (h : Acts [] s0 s) (f : Board → Board) (hf : ∀ b : Board, b.NotStarted (f b)) :
    Acts [] s0 (s.mapBoards f) := by
  refine h.calm (.of_boards rfl (fun k x hx hl => ?_) fun _ h => h) rfl
  rw [State.mapBoards_board, Option.map_eq_some_iff] at hx
  obtain ⟨b, hb, rfl⟩ := hx
  exact ⟨b, hb, hf b⟩

theorem execCriterionWrite_replies (t : Byte) (i : Nat) (f : CriterionFields) :
    Yields (Replies (s.header (.criterionWrite t i f)) 0x18 s) (execCriterionWrite t i f s) := by
  refine Replies.request _ _ _ fun d u h => .unlessInit h ?_
  repeat' split
  · exact h.replied _ _ _ _
  · next c _ _ =>
      have criterion : Acts [] s (u.setCriterion i c) := h.same rfl rfl rfl rfl
      exact (criterion.mapBoards (Board.setTally i 0) fun _ hl => ⟨hl, rfl, rfl⟩).replied _ _ _ _
  · exact h.replied _ _ _ _

theorem execCriterionRead_replies (t : Byte) (i : Nat) :
    Yields (Replies (s.header (.criterionRead t i)) 0x19 s) (execCriterionRead t i s) := by
  refine Replies.request _ _ _ fun d u h => .unlessInit h ?_
  split <;> exact h.replied _ _ _ _

theorem Acts.divertAll (h : Acts [] s0 s) (n : Nat) : Acts [] s0 (s.divertAll n) := by
  have divert : ∀ b : Board, b.NotStarted (b.divertFor n) := fun b hl =>
    ⟨(b.divertFor_life n).symm.trans hl, (Board.Kept.divertFor n b).cls.symm, (Board.Kept.divertFor n b).lane.symm⟩
  have marked : Acts [] s0 (s.markAll n) := List.foldlRecOn _ _ h fun _ hu k _ => hu.modBoard k _ divert
  unfold State.divertAll; split
  · refine List.foldlRecOn _ _ marked fun u hu k _ => ?_
    split
    · exact hu.toFlashing _ _
    · exact hu
  · exact h

theorem Acts.reportAll (h : Acts [] s0 s) (a : State) : Acts [] s0 (reportAll a s) := by
  refine List.foldlRecOn _ _ h fun u hu k _ => ?_
  split
  · exact hu.react _ _
  · exact hu

theorem Acts.routeWrite (h : Acts [] s0 s) (n : Nat) (r : RouteEntry) : Acts [] s0 (s.routeWrite n r) := by
  have route : Acts [] s0 (s.setRoute n r) := h.withHold _
  have g := (route.divertAll n).reportAll s
  unfold State.routeWrite; dsimp only; split
  · exact g.post _
  · exact g

theorem execRouteWrite_replies (t : Byte) (n : Nat) (f : RouteFields) :
    Yields (Replies (s.header (.routeWrite t n f)) 0x1A s) (execRouteWrite t n f s) := by
  refine Replies.request _ _ _ fun d u h => .unlessInit h ?_
  repeat' split
  · exact h.replied _ _ _ _
  · exact ⟨_, _, ((h.routeWrite _ _).answer _ _ _ _).settle _ _⟩
  · exact h.replied _ _ _ _

theorem execRouteRead_replies (t : Byte) (n : Nat) :
    Yields (Replies (s.header (.routeRead t n)) 0x1B s) (execRouteRead t n s) := by
  refine Replies.request _ _ _ fun d u h => .unlessInit h ?_
  split <;> exact h.replied _ _ _ _

/-! ## Path engine -/

theorem execStrokeLoad_replies (t : Byte) (lane first : Nat) (xs : List StrokeFields) :
    Yields (Replies (s.header (.strokeLoad t lane first xs)) 0x20 s) (execStrokeLoad t lane first xs s) := by
  refine Replies.request _ _ _ fun d u h => .unlessInit h ?_
  repeat' split
  any_goals exact h.replied _ _ _ _
  exact (h.modLane _ _ (by exact fun _ h => h)).replied _ _ _ _

theorem execStrokeRead_replies (t : Byte) (lane first n : Nat) :
    Yields (Replies (s.header (.strokeRead t lane first n)) 0x21 s) (execStrokeRead t lane first n s) := by
  refine Replies.request _ _ _ fun d u h => .unlessInit h ?_
  repeat' split
  all_goals exact h.replied _ _ _ _

theorem execArmLane_replies (t : Byte) (lane c first n chain auto : Nat) :
    Yields (Replies (s.header (.armLane t lane c first n chain auto)) 0x22 s) (execArmLane t lane c first n chain auto s) := by
  refine Replies.request _ _ _ fun d u h => ?_
  dsimp only; repeat' split
  any_goals exact h.replied _ _ _ _
  exact ⟨_, _, (((h.modLane _ _ (by exact fun _ h => h)).answer _ _ _ _).startTest _).settle _ _⟩

/-- A stroke detached keeps its operation's kind. -/
theorem Lane.detached_spits (r : Lane) : Lane.spits { r with op := r.op.map fun o =>
    { o with stroke := o.stroke.map fun x => { x with detached := true } } } = r.spits := by
  rw [Lane.spits, Lane.spits, Option.any_map]

theorem Acts.disarmBoard (h : Acts [] s0 s) (l : Fin 2) : Acts [] s0 (s.disarmBoard l) := by
  unfold State.disarmBoard; repeat' split
  · exact h
  · exact ((h.modLane _ _ fun r hr => r.detached_spits ▸ hr).modBoardQuiet _ _ (by exact fun _ => .same rfl rfl rfl)).raise _ _
  · exact h

theorem Acts.clearArming (h : Acts [] s0 s) (l : Fin 2) : Acts [] s0 (s.clearArming l) := h.modLane l _ (by exact fun _ h => h)

theorem Acts.disarm (h : Acts [] s0 s) (l : Fin 2) : Acts [] s0 (s.disarm l) := by
  unfold State.disarm; split
  · exact h
  · exact h.clearArming l
  all_goals exact ((h.clearNeed l).clearArming l).disarmBoard l

theorem execDisarm_replies (t : Byte) (lane : Nat) :
    Yields (Replies (s.header (.disarm t lane)) 0x23 s) (execDisarm t lane s) := by
  refine Replies.request _ _ _ fun d u h => .unlessInit h ?_
  split
  · exact h.replied _ _ _ _
  · exact ⟨_, _, ((h.disarm _).answer _ _ _ _).settle _ _⟩

theorem execLaneStatus_replies (t : Byte) (lane clear : Nat) :
    Yields (Replies (s.header (.laneStatus t lane clear)) 0x24 s) (execLaneStatus t lane clear s) := by
  refine Replies.request _ _ _ fun d u h => .unlessInit h ?_
  repeat' split
  any_goals exact h.replied _ _ _ _
  exact (h.modLane _ _ (by exact fun _ h => h)).replied _ _ _ _

theorem Acts.headReply (h : Acts [] s0 s) (l : Fin 2) (op : Nat) (e : OpEnd) : Acts [] s0 (s.headReply l op e) := by
  have late : Acts [] s0 (s.lateReply l op (decide (e ≠ .done))) := (h.modLane l _ (by exact fun _ h => h)).post _
  unfold State.headReply; repeat' split
  · exact late
  · exact (h.opEnd _ _ _).settle _ _
  · exact late

theorem execHeadDone_acts (l : Fin 2) (op : Byte) : Yields (Acts [] s) (execHeadDone l op s) :=
  .next (.discardInit (Acts.refl.headReply _ _ _))

theorem execHeadFault_acts (l : Fin 2) (op : Byte) (k : Nat) : Yields (Acts [] s) (execHeadFault l op k s) :=
  .next (.discardInit (Acts.refl.headReply _ _ _))

theorem execHeadDeadline_acts (l : Fin 2) : Yields (Acts [] s) (execHeadDeadline l s) := by
  refine .next ?_
  show Acts [] s (s.headDeadline l)
  unfold State.headDeadline; repeat' split
  · exact .refl
  · exact .refl
  · exact ((Acts.refl.reach _).opEnd _ _ _).settle _ _

theorem execHeadCommandSent_acts (l : Fin 2) (op : Byte) : Yields (Acts [] s) (execHeadCommandSent l op s) := by
  refine .next (Acts.refl.modLane l _ fun r hr => ?_)
  rw [Lane.spits, Option.any_map, Option.any_eq_true] at hr
  obtain ⟨o, ho, hk⟩ := hr
  refine (Option.any_eq_true _ _).2 ⟨o, ho, ?_⟩
  split at hk <;> exact hk

/-! ## Applicator manager -/

theorem execPrime_replies (t : Byte) (app m : Nat) :
    Yields (Replies (s.header (.prime t app m)) 0x28 s) (execPrime t app m s) := by
  refine Replies.request _ _ _ fun d u h => ?_
  unfold State.primeRequest; repeat' split
  any_goals exact h.replied _ _ _ _
  exact ⟨_, _, ((h.enqueue _).answer _ _ _ _).settle _ _⟩

theorem Replies.appRequest (h : Acts [] s0 s) {d : Header} {k : Nat} (app : Nat) {f : Fin 6 → State}
    (hf : ∀ a, Replies d k s0 (f a)) : Replies d k s0 (s.appRequest d k app f) := by
  unfold State.appRequest; repeat' split
  any_goals exact h.replied _ _ _ _
  exact hf _

theorem execPurge_replies (t : Byte) (app : Nat) : Yields (Replies (s.header (.purge t app)) 0x29 s) (execPurge t app s) := by
  refine Replies.request _ _ _ fun d u h => .appRequest h _ fun a => ?_
  unfold State.purgeRequest; split
  any_goals exact h.replied _ _ _ _
  all_goals exact ⟨_, _, ((h.enqueue _).answer _ _ _ _).settle _ _⟩

theorem Replies.acceptWait (h : Acts [] s0 s) (d : Header) (k : Nat) (w : WaitKind) (a : Fin 6) :
    Replies d k s0 (s.acceptWait d k w a) := ⟨_, _, (Acts.answer (h.withApps _) _ _ _ _).settle _ _⟩

theorem execPark_replies (t : Byte) (app : Nat) : Yields (Replies (s.header (.park t app)) 0x2A s) (execPark t app s) := by
  refine Replies.request _ _ _ fun d u h => .appRequest h _ fun a => ?_
  unfold State.parkRequest; split
  any_goals exact h.replied _ _ _ _
  all_goals exact .acceptWait h _ _ _ _

theorem execUnpark_replies (t : Byte) (app : Nat) :
    Yields (Replies (s.header (.unpark t app)) 0x2B s) (execUnpark t app s) := by
  refine Replies.request _ _ _ fun d u h => .appRequest h _ fun a => ?_
  unfold State.unparkRequest; split
  any_goals exact h.replied _ _ _ _
  exact .acceptWait h _ _ _ _

theorem execApplicatorStatus_replies (t : Byte) (app : Nat) :
    Yields (Replies (s.header (.applicatorStatus t app)) 0x2C s) (execApplicatorStatus t app s) := by
  refine Replies.request _ _ _ fun d u h => .unlessInit h ?_
  repeat' split
  all_goals exact h.replied _ _ _ _

theorem execKeepWetExpiry_acts (a : Fin 6) : Yields (Acts [] s) (execKeepWetExpiry a s) := by
  refine .next ?_
  show Acts [] s (s.keepWetExpiry a)
  unfold State.keepWetExpiry; split
  · exact .refl
  · exact ((Acts.refl.reach _).modUnit _ _).settle _ _

theorem execPrimeWindowAgeOut_acts : Yields (Acts [] s) (execPrimeWindowAgeOut s) := by
  refine .next ?_
  show Acts [] s s.ageOut
  unfold State.ageOut; split
  · exact .refl
  · exact Acts.settle ((Acts.refl.reach _).withApps _) _ _

/-! ## Board tracker -/

theorem Acts.create (h : Acts [] s0 s) (k : Nat) (l : Fin 2) (g : List Byte) (c : Nat) (d : Side) :
    Acts [] s0 (s.create k l g c d) := by
  have created := h.setBoard k (some (newBoard g c l d (min 2 (computedPass (s.newestOf g))) s.clock (s.cls c).siteList))
    fun x hx hl => by cases hx; cases hl
  unfold State.create; dsimp only; split
  · exact Acts.raiseCore (by exact created.same rfl rfl rfl rfl) _ _ _
  · exact created.same rfl rfl rfl rfl

theorem execAnnounce_replies (t : Byte) (lane : Nat) (g : List Byte) (c side : Nat) :
    Yields (Replies (s.header (.announce t lane g c side)) 0x30 s) (execAnnounce t lane g c side s) := by
  refine Replies.request _ _ _ fun d u h => ?_
  dsimp only; repeat' split
  any_goals exact h.replied _ _ _ _
  exact (h.create _ _ _ _ _).replied _ _ _ _

theorem execBoardRead_replies (t : Byte) (slot view : Nat) :
    Yields (Replies (s.header (.boardRead t slot view)) 0x31 s) (execBoardRead t slot view s) := by
  refine Replies.request _ _ _ fun d u h => .unlessInit h ?_
  repeat' split
  all_goals exact h.replied _ _ _ _

theorem execBoardList_replies (t : Byte) (lane life : Nat) :
    Yields (Replies (s.header (.boardList t lane life)) 0x32 s) (execBoardList t lane life s) := by
  refine Replies.request _ _ _ fun d u h => .unlessInit h ?_
  split <;> exact h.replied _ _ _ _

theorem Acts.retire (h : Acts [] s0 s) (q : Bool) (k : Nat) (d : Disposition) : Acts [] s0 (s.retire q k d) := by
  unfold State.retire; split
  · exact h
  · next b _ =>
      have queue : Acts [] s0 ((s.appendHistory b.tag b.cls b.pass d (b.pendingSet ||| b.inService) s.clock).setQueue b.lane
          (((s.appendHistory b.tag b.cls b.pass d (b.pendingSet ||| b.inService) s.clock).queueOf b.lane).filter
            fun j => j != k)) := h.same rfl rfl rfl rfl
      have removed := Acts.setBoard (s := ((_ : State).freeBayOf k).lowerUse b.cls) ((queue.freeBayOf k).withRecipe _) k none
        fun _ => nofun
      dsimp only; split
      · exact removed
      · exact removed.post _

theorem execRetire_replies (t : Byte) (slot : Nat) :
    Yields (Replies (s.header (.retire t slot)) 0x33 s) (execRetire t slot s) := by
  refine Replies.request _ _ _ fun d u h => .unlessInit h ?_
  repeat' split
  any_goals exact h.replied _ _ _ _
  exact ⟨_, _, ((h.retire _ _ _).answer _ _ _ _).settle _ _⟩

theorem execHistoryRead_replies (t : Byte) (n c : Nat) :
    Yields (Replies (s.header (.historyRead t n c)) 0x3D s) (execHistoryRead t n c s) := by
  refine Replies.request _ _ _ fun d u h => .unlessInit h ?_
  split <;> exact h.replied _ _ _ _

theorem execLaneArrive_acts (l : Fin 2) : Yields (Acts [] s) (execLaneArrive l s) := by
  refine .next (.discardInit ?_)
  unfold State.laneArrive; dsimp only; repeat' split
  · exact Acts.refl.post _
  · exact Acts.refl.post _
  · exact ((Acts.refl.modBoard _ _ fun b => .of_life (s.arrived_life b)).requestBay _).settle _ _
  · exact ((Acts.refl.modBoard _ _ fun b => .of_life (s.arrived_life b)).startTest _).settle _ _

theorem execLaneClear_acts (l : Fin 2) : Yields (Acts [] s) (execLaneClear l s) := by
  refine .next (.discardInit ?_)
  unfold State.laneClear; split
  · exact Acts.refl.post _
  · split
    · exact Acts.refl.post _
    · next k _ _ _ n _ =>
        have moved := (Acts.refl (s := s)).modBoard k (fun b => { b with loc := .bay n }) fun _ => .same rfl rfl rfl
        have bay := fun q => Acts.same (t := (((s.modBoard k fun b => { b with loc := .bay n }).setQueue l q).setBay n
          (.occupied k)).setGate l false) moved rfl rfl rfl rfl
        exact ((bay _).testReady k).settle _ _

/-! ## Inspection and holds -/

theorem Board.endMaskWait_notStarted (b : Board) : b.NotStarted b.endMaskWait := by
  unfold Board.endMaskWait; split <;> exact fun hl => ⟨hl, rfl, rfl⟩

theorem Acts.reportMask (h : Acts [] s0 s) (k i : Nat) (v : SiteState) (b : Board) : Acts [] s0 (s.reportMask k i v b) := by
  have site := h.modBoardQuiet k (Board.setSite i v) fun _ => .same rfl rfl rfl
  have ended : ∀ u, Acts [] s0 u → Acts [] s0 (u.modBoardQuiet k Board.endMaskWait) := fun u hu =>
    hu.modBoardQuiet _ _ Board.endMaskWait_notStarted
  unfold State.reportMask; dsimp only; split <;> split
  · exact (ended _ (site.raise _ _)).startTest _
  · exact (ended _ site).startTest _
  · exact ended _ (site.raise _ _)
  · exact ended _ site

theorem execMaskReport_replies (t : Byte) (slot k v : Nat) :
    Yields (Replies (s.header (.maskReport t slot k v)) 0x34 s) (execMaskReport t slot k v s) := by
  refine Replies.request _ _ _ fun d u h => .unlessInit h ?_
  dsimp only; repeat' split
  any_goals exact h.replied _ _ _ _
  exact ⟨_, _, ((h.reportMask _ _ _ _).answer _ _ _ _).settle _ _⟩

theorem execMaskWaitExpiry_acts (slot : Nat) : Yields (Acts [] s) (execMaskWaitExpiry slot s) := by
  refine .next ?_
  show Acts [] s (s.maskWaitExpiry slot)
  unfold State.maskWaitExpiry; split
  · exact .refl
  · exact (((Acts.refl.reach _).modBoardQuiet _ _ (by exact fun _ => .same rfl rfl rfl)).raise _ _).settle _ _

theorem Board.taken_notStarted (f : Finding) (hits : List Nat) (b : Board) :
    b.NotStarted ((b.record f).raiseTallies hits) := by
  have tallies : ∀ b : Board, b.NotStarted (b.raiseTallies hits) := fun b =>
    List.foldlRecOn (motive := fun c : Board => b.NotStarted c) _ _ (fun hl => ⟨hl, rfl, rfl⟩) fun _ hc _ _ => hc
  have record : (b.record f).life = b.life ∧ (b.record f).cls = b.cls ∧ (b.record f).lane = b.lane := by
    unfold Board.record; split <;> exact ⟨rfl, rfl, rfl⟩
  obtain ⟨hlife, hcls, hlane⟩ := record
  intro hl
  obtain ⟨g, gc, gl⟩ := tallies (b.record f) hl
  exact ⟨hlife ▸ g, hcls ▸ gc, hlane ▸ gl⟩

theorem execFinding_replies (t : Byte) (slot kind side x y : Nat) :
    Yields (Replies (s.header (.finding t slot kind side x y)) 0x35 s) (execFinding t slot kind side x y s) := by
  refine Replies.request _ _ _ fun d u h => .unlessInit h ?_
  dsimp only; repeat' split
  any_goals exact h.replied _ _ _ _
  refine ⟨_, _, (Acts.answer ?_ _ _ _ _).settle _ _⟩
  exact List.foldlRecOn _ _ (h.modBoardQuiet _ _ (Board.taken_notStarted _ _)) fun _ hu _ _ => hu.raise _ _

theorem execInspectDone_replies (t : Byte) (slot : Nat) :
    Yields (Replies (s.header (.inspectDone t slot)) 0x36 s) (execInspectDone t slot s) := by
  refine Replies.request _ _ _ fun d u h => .unlessInit h ?_
  have g := h.modBoardQuiet slot (fun b => { b with inspectDone := true }) fun _ => .same rfl rfl rfl
  dsimp only; repeat' split
  any_goals exact h.replied _ _ _ _
  · exact ⟨_, _, (g.answer _ _ _ _).settle _ _⟩
  · exact ⟨_, _, ((g.testReady _).answer _ _ _ _).settle _ _⟩

theorem execHold_replies (t : Byte) (slot : Nat) : Yields (Replies (s.header (.hold t slot)) 0x37 s) (execHold t slot s) := by
  refine Replies.request _ _ _ fun d u h => .unlessInit h ?_
  repeat' split
  · exact h.replied _ _ _ _
  · exact h.replied _ _ _ _
  · exact ⟨_, _, ((h.raise _ _).answer _ _ _ _).settle _ _⟩

theorem execHoldTake_replies (t : Byte) : Yields (Replies (s.header (.holdTake t)) 0x38 s) (execHoldTake t s) := by
  refine Replies.request _ _ _ fun d u h => .unlessInit h ?_
  split
  · exact h.replied _ _ _ _
  · exact Acts.replied (Acts.withHold (h.modBoardQuiet _ _ (by exact fun _ => .same rfl rfl rfl)) _) _ _ _ _

theorem Acts.applyVerdict (h : Acts [] s0 s) (k n : Nat) (v : ReleaseVerdict) (b : Board) :
    Acts [] s0 (s.applyVerdict k n v b) := by
  cases v with
  | goOn =>
    have g := h.modBoardQuiet k Board.clearFindings fun _ => .same rfl rfl rfl
    simp only [State.applyVerdict]; split <;> split
    · exact g.raiseCore _ _ _
    · exact h.raiseCore _ _ _
    · exact g
    · exact h
  | divert => exact h.modBoard _ _ (by exact fun _ => .same rfl rfl rfl)
  | scrap => exact h.modBoard _ _ (by exact fun _ => .same rfl rfl rfl)

theorem execHoldRelease_replies (t : Byte) (slot n v : Nat) :
    Yields (Replies (s.header (.holdRelease t slot n v)) 0x39 s) (execHoldRelease t slot n v s) := by
  refine Replies.request _ _ _ fun d u h => .unlessInit h ?_
  repeat' split
  any_goals exact h.replied _ _ _ _
  exact ⟨_, _, ((((h.modBoardQuiet _ _ (by exact fun _ => .same rfl rfl rfl)).applyVerdict _ _ _ _).react _ _).answer
    _ _ _ _).settle _ _⟩

theorem execHoldStatus_replies (t : Byte) (slot first : Nat) :
    Yields (Replies (s.header (.holdStatus t slot first)) 0x3A s) (execHoldStatus t slot first s) := by
  refine Replies.request _ _ _ fun d u h => .unlessInit h ?_
  repeat' split
  all_goals exact h.replied _ _ _ _

/-! ## Oven controller -/

theorem execOvenStatus_replies (t : Byte) : Yields (Replies (s.header (.ovenStatus t)) 0x3C s) (execOvenStatus t s) :=
  Replies.request _ _ _ fun _ _ h => .unlessInit h (h.replied _ _ _ _)

theorem execFlashReadyReached_acts (slot : Nat) : Yields (Acts [] s) (execFlashReadyReached slot s) := by
  refine .next ?_
  show Acts [] s (s.flashReached slot)
  unfold State.flashReached; split
  · exact .refl
  · exact (((Acts.refl.reach _).modBoardQuiet _ _ (by exact fun _ => .same rfl rfl rfl)).testReady _).settle _ _

theorem execOpenDeadlineExpiry_acts (slot : Nat) : Yields (Acts [] s) (execOpenDeadlineExpiry slot s) := by
  refine .next ?_
  show Acts [] s (s.openReached slot)
  unfold State.openReached; repeat' split
  · exact .refl
  · exact Acts.refl.reach _
  · exact ((Acts.refl.reach _).openExpiry _).settle _ _

theorem execAdmitDeadline_acts : Yields (Acts [] s) (execAdmitDeadline s) := by
  refine .next ?_
  show Acts [] s s.admitDeadline
  unfold State.admitDeadline; repeat' split
  · exact .refl
  · exact ((Acts.refl.reach _).withdraw _).settle _ _
  · exact .refl

theorem execDivertDeadline_acts : Yields (Acts [] s) (execDivertDeadline s) := by
  refine .next ?_
  show Acts [] s s.divertDeadline
  unfold State.divertDeadline; repeat' split
  · exact .refl
  · exact .refl
  · exact ((((Acts.refl.reach _).clearShuttle).modBoard _ _ (by exact fun _ => .same rfl rfl rfl)).post _).settle _ _

theorem execOvenEnter_acts : Yields (Acts [] s) (execOvenEnter s) := by
  refine .next (.discardInit ?_)
  unfold State.ovenEnter; repeat' split
  · exact Acts.refl.post _
  · next o _ _ _ =>
      have board := (Acts.refl (s := s)).modBoard o.slot s.entered fun _ => .of_life (by simp [State.entered])
      exact ((Acts.freeBay (board.withOven _) _).clearShuttle).settle _ _
  · exact Acts.refl.post _

theorem execDivertPass_acts : Yields (Acts [] s) (execDivertPass s) := by
  refine .next (.discardInit ?_)
  unfold State.divertPass; repeat' split
  · exact Acts.refl.post _
  · exact Acts.refl.post _
  · exact ((Acts.refl.clearShuttle).retire _ _ _).settle _ _

theorem execEntryWindowExpiry_acts : Yields (Acts [] s) (execEntryWindowExpiry s) := by
  refine .next ?_
  show Acts [] s s.entryCeased
  unfold State.entryCeased; split
  · exact .refl
  · exact Acts.settle ((Acts.refl.reach _).withOven _) _ _

theorem execEntryDrop_acts : Yields (Acts [] s) (execEntryDrop s) := by
  refine .next ?_
  show Acts [] s s.entryDropped
  unfold State.entryDropped; split
  · exact .refl
  · exact Acts.settle ((Acts.refl.reach _).withOven _) _ _

theorem Acts.creditBoard (h : Acts [] s0 s) (t k : Nat) : Acts [] s0 (s.creditBoard t k) := by
  have g := h.modBoardQuiet k (s.credited t) fun _ => .same rfl rfl rfl
  unfold State.creditBoard; dsimp only; repeat' split
  · exact h
  · exact g.raise _ _
  · exact g

theorem Acts.zoneSample (h : Acts [] s0 s) (z : Nat) (x : BitVec 16) (f : Bool) : Acts [] s0 (s.zoneSample z x f) := by
  have credit : ∀ n t u, Acts [] s0 u → Acts [] s0 (u.creditZone n t) := fun _ _ _ hu =>
    List.foldlRecOn _ _ hu fun _ hv _ _ => hv.creditBoard _ _
  have zone : ∀ i r, Acts [] s0 (s.setZone i r) := fun _ _ => h.withOven _
  unfold State.zoneSample State.validSample; dsimp only; repeat' split
  · exact h.post _
  · exact h
  · exact (credit _ _ _ ((zone _ _).post _)).settle _ _
  · exact (credit _ _ _ (zone _ _)).settle _ _

theorem execZoneSample_acts (z : Nat) (x : BitVec 16) (f : Bool) : Yields (Acts [] s) (execZoneSample z x f s) :=
  .next (.discardInit (Acts.refl.zoneSample z x f))

theorem execZoneStale_acts (z : Fin 4) : Yields (Acts [] s) (execZoneStale z s) := by
  refine .next ?_
  show Acts [] s (s.zoneStale z)
  unfold State.zoneStale; split
  · exact .refl
  · exact ((Acts.post ((Acts.refl.reach _).withOven _) _).withdrawAny).settle _ _

theorem execZoneChange_acts (slot : Nat) : Yields (Acts [] s) (execZoneChange slot s) := by
  refine .next ?_
  show Acts [] s (s.zoneChange slot)
  unfold State.zoneChange; split
  · exact .refl
  · exact (Acts.refl.reach _).modBoardQuiet _ _ (by exact fun _ => .same rfl rfl rfl)

theorem execOverdueExpiry_acts (slot : Nat) : Yields (Acts [] s) (execOverdueExpiry slot s) := by
  refine .next ?_
  show Acts [] s (s.overdue slot)
  unfold State.overdue; split
  · exact .refl
  · exact (((Acts.refl.reach _).modBoardQuiet _ _ (by exact fun _ => .same rfl rfl rfl)).raise _ _).settle _ _

theorem Acts.judgeExit (h : Acts [] s0 s) (k : Nat) (v : Verdict) : Acts [] s0 (s.judgeExit k v) := by
  have g := h.modBoardQuiet k (fun b => { b with overdueArmed := false, verdict := some v }) fun _ => .same rfl rfl rfl
  unfold State.judgeExit; dsimp only; split
  · exact g
  · exact g.raise _ _

theorem Acts.exitBoard (h : Acts [] s0 s) (k : Nat) (v : Verdict) : Acts [] s0 (s.exitBoard k v) := by
  unfold State.exitBoard; split
  · exact h
  · exact Acts.retire (h.withOven _) _ _ _

theorem Acts.applyStaged (h : Acts [] s0 s) : Acts [] s0 s.applyStaged := by
  unfold State.applyStaged; split
  · exact h
  · exact Acts.post (h.withOven _) _

theorem execOvenExit_acts : Yields (Acts [] s) (execOvenExit s) := by
  refine .next (.discardInit ?_)
  unfold State.ovenExit; split
  · exact Acts.refl.post _
  · next k rest _ =>
      have left : Acts [] s { s with oven := { s.oven with occupancy := rest } } := Acts.refl.withOven _
      have gone := fun v => (left.judgeExit k v).exitBoard k v
      dsimp only; split
      · exact (gone _).applyStaged.settle _ _
      · exact (gone _).settle _ _

/-! ## Link port -/

theorem execReplySent_acts : Yields (Acts [] s) (execReplySent s) := by
  refine .next ?_
  show Acts [] s s.replySent
  unfold State.replySent; split
  · exact .refl
  · exact .refl
  · exact Acts.refl.same rfl rfl rfl rfl

theorem execNoticeSend_acts : Yields (Acts [] s) (execNoticeSend s) := by
  refine .next ?_
  show Acts [] s s.noticeSend
  unfold State.noticeSend; split
  · exact Acts.refl.same rfl rfl rfl rfl
  · exact .refl

theorem execNoticeFrameSent_acts : Yields (Acts [] s) (execNoticeFrameSent s) := by
  refine .next ?_
  show Acts [] s s.noticeSent
  unfold State.noticeSent; split
  · exact .refl
  · exact .refl
  · exact Acts.refl.same rfl rfl rfl rfl

theorem execReplySend_guards : Yields (Guards s) (execReplySend s) := by
  refine .next ?_
  show Guards s s.replySend
  unfold State.replySend; split <;> exact Calm.guards (.of_eq rfl rfl rfl)

theorem Guards.frameIn (h : Guards s0 s) (k : Link) (f : Frame) : Guards s0 (s.frameIn k f) := by
  have field : ∀ k, Guards s (s.fieldFrame k f) := fun k => by
    unfold State.fieldFrame; split
    · exact (Acts.discardInit (Acts.refl.headReply _ _ _)).toGuards
    · exact (Acts.discardInit (Acts.refl.headReply _ _ _)).toGuards
    · exact (Acts.discardInit (Acts.refl.zoneSample _ _ _)).toGuards
    · exact Calm.guards (.of_eq rfl rfl rfl)
  have intake : Guards s (s.intakeFrame f) := by
    unfold State.intakeFrame State.admitFrame; repeat' split
    all_goals exact Calm.guards (.of_eq rfl rfl rfl)
  cases k with
  | message => exact h.trans intake
  | head l => exact h.trans (field _)
  | ovenNode => exact h.trans (field _)

theorem Guards.framesIn (h : Guards s0 s) (k : Link) (fs : List Frame) :
    Guards s0 (fs.foldl (fun u f => u.frameIn k f) s) :=
  List.foldlRecOn _ _ h fun _ hu f _ => hu.frameIn k f

theorem State.bytesIn_guards (k : Link) (bs : List Byte) : Guards s (s.bytesIn k bs) :=
  Guards.framesIn (by exact Calm.guards (.of_eq rfl rfl rfl)) k _

theorem execFrameTimeout_guards (k : Link) : Yields (Guards s) (execFrameTimeout k s) := by
  refine .next ?_
  show Guards s (s.frameSilent k)
  unfold State.frameSilent; split
  · exact Calm.guards (.of_eq rfl rfl rfl)
  · exact Guards.framesIn (by exact Calm.guards (.of_eq rfl rfl rfl)) k _

end Sys2Proof.Machine
end

section
/-! The keep-out edits: their affected class set (R73), their tests (R74) and their steps (R75 to R77); and with them every command
and every step: EditGuardsKept (O19) and OneReply (O60). -/

namespace Sys2Proof.Machine

variable {s0 s t : State}

/-! ## The affected class set (R73) -/

theorem NumSet.has_join {w : Nat} (x : NumSet w) {i j : Nat} (hj : j < w) :
    (x.join i).has j = (x.has j || decide (i = j)) := by
  simp only [NumSet.has, NumSet.join, BitVec.getLsbD_or, BitVec.getLsbD_twoPow]
  by_cases h : i = j
  · simp [h, hj]
  · simp [h]

theorem foldl_join_has {w : Nat} (cs : List Nat) (x : NumSet w) {j : Nat} (hj : j < w) :
    (cs.foldl (fun x c => x.join (c - 1)) x).has j = (x.has j || cs.any fun c => decide (c - 1 = j)) := by
  induction cs generalizing x with
  | nil => simp
  | cons c cs ih => simp [ih, NumSet.has_join _ hj, Bool.or_assoc]

/-- A class is in the affected class set exactly if an entry of the list names it. -/
theorem affectedBy_has (es : List KeepOutEntry) {c : Nat} (h1 : 1 ≤ c) (h48 : c ≤ 48) :
    (affectedBy es).has (c - 1) = es.any fun e => e.names c := by
  rw [affectedBy, foldl_join_has _ _ (by omega), Bool.eq_iff_iff]
  simp only [NumSet.has, BitVec.getLsbD_zero, Bool.false_or, List.any_eq_true, List.mem_filter, mem_classIds, decide_eq_true_eq]
  constructor
  · rintro ⟨k, ⟨⟨hk, -⟩, he⟩, hc⟩
    have same : k = c := by omega
    exact same ▸ he
  · exact fun he => ⟨c, ⟨⟨h1, h48⟩, he⟩, rfl⟩

theorem Table.mem_of_lists {α : Type} (d : Nat → α) {i : Nat} {t : Table α} (h : Table.lists t i = true) :
    (i, Table.read d t i) ∈ t := by
  induction t with
  | nil => cases h
  | cons p t ih =>
    obtain ⟨j, v⟩ := p
    by_cases e : i = j
    · subst e; simp [Table.read]
    · have rest : Table.lists t i = true := by simpa [Table.lists, Ne.symm e] using h
      rw [Table.read, if_neg e]
      exact List.mem_cons_of_mem _ (ih rest)

/-- An enabled entry is listed. -/
theorem State.entry_mem {i : Nat} (h : (s.entry i).enabled = true) : (i, s.entry i) ∈ s.keepOut.entries := by
  refine Table.mem_of_lists _ ?_
  by_contra unlisted
  rw [State.entry, Table.read_unlisted _ (by simpa using unlisted)] at h
  cases h

theorem KeepOutEntry.enabled_of_names {e : KeepOutEntry} {c : Nat} (h : e.names c = true) : e.enabled = true :=
  (Bool.and_eq_true_iff.1 h).1

/-- The entries at the indices `p` picks name a class exactly if a listed entry there does. -/
theorem State.any_entriesAt (p : Nat → Bool) (c : Nat) : ((s.entriesAt p).any fun e => e.names c) = true ↔
    ∃ q ∈ s.keepOut.entries, p q.1 = true ∧ q.2.names c = true := by
  simp only [State.entriesAt, List.any_map, List.any_filter, List.any_eq_true, Bool.and_eq_true]
  rfl

/-- Where the entries at the indices `p` picks do not name a class, none of them reads as one that does. -/
theorem State.entry_names_false {p : Nat → Bool} {c i : Nat} (h : ((s.entriesAt p).any fun e => e.names c) = false)
    (hp : p i = true) : (s.entry i).names c = false := by
  by_contra hn
  have hn : (s.entry i).names c = true := by simpa using hn
  rw [(State.any_entriesAt p c).2 ⟨_, State.entry_mem (KeepOutEntry.enabled_of_names hn), hp, hn⟩] at h
  cases h

theorem inBlock_iff {first n i : Nat} : inBlock first n i = true ↔ first ≤ i ∧ i < first + n := by
  simp [inBlock]

/-! ## The steps of an edit stay within its set (R73) -/

theorem write_spares {p : Nat → Bool} {e : KeepOutEntry} {c : Nat} (h1 : 1 ≤ c) (h48 : c ≤ 48)
    (hc : (affectedBy (e :: s.entriesAt p)).has (c - 1) = false) {i : Nat} (hi : p i = true) :
    s.StepSpares c (.write i e) := by
  rw [affectedBy_has _ h1 h48, List.any_cons, Bool.or_eq_false_iff] at hc
  exact ⟨hc.1, State.entry_names_false hc.2 hi⟩

theorem mem_copySteps {src dst n : Nat} {st : EditStep} :
    st ∈ copySteps src dst n ↔ ∃ i < n, st = .copy (src + i) (dst + i) := by
  unfold copySteps; dsimp only; split <;> simp [eq_comm]

theorem mem_clearSteps {src dst n : Nat} {st : EditStep} :
    st ∈ clearSteps src dst n ↔ ∃ i, (src ≤ i ∧ i < src + n) ∧ inBlock dst n i = false ∧ st = .clear i := by
  simp only [clearSteps, List.mem_map, List.mem_filter, List.mem_range'_1, Bool.not_eq_true']
  constructor
  · rintro ⟨i, ⟨hi, out⟩, rfl⟩; exact ⟨i, hi, out, rfl⟩
  · rintro ⟨i, hi, out, rfl⟩; exact ⟨i, ⟨hi, out⟩, rfl⟩

theorem move_spares {src dst n c : Nat} (h1 : 1 ≤ c) (h48 : c ≤ 48)
    (hc : (affectedBy (s.entriesAt fun i => inBlock src n i || inBlock dst n i)).has (c - 1) = false) {st : EditStep}
    (hst : st ∈ moveSteps src dst n) : s.StepSpares c st := by
  rw [affectedBy_has _ h1 h48] at hc
  have source : ∀ i, src ≤ i → i < src + n → (s.entry i).names c = false := fun i h h' =>
    State.entry_names_false hc (by simp [inBlock_iff.2 ⟨h, h'⟩])
  have destination : ∀ i, dst ≤ i → i < dst + n → (s.entry i).names c = false := fun i h h' =>
    State.entry_names_false hc (by simp [inBlock_iff.2 ⟨h, h'⟩])
  rcases List.mem_append.1 hst with hst | hst
  · obtain ⟨i, hi, rfl⟩ := mem_copySteps.1 hst
    exact ⟨source _ (by omega) (by omega), destination _ (by omega) (by omega)⟩
  · obtain ⟨i, ⟨hlo, hhi⟩, -, rfl⟩ := mem_clearSteps.1 hst
    exact source i hlo hhi

/-! ## Acceptance (R74) -/

/-- An edit accepted: no reply, and the request's tag and place in the edit's record. -/
structure Accepts (d : Header) (s t : State) : Prop where
  acts : Acts [] s t
  free : s.keepOut.edit = none
  record : ∃ e, t.keepOut.edit = some e ∧ e.tag = d.tag ∧ e.place = d.place

theorem State.sprayingIn_none {x : NumSet 48} : s.sprayingIn x = none ↔
    ∀ k b, k < 32 → s.board k = some b → b.life = .spraying → x.has (b.cls - 1) = false := by
  rw [State.sprayingIn, State.boards_find?_none]
  refine forall₂_congr fun k b => forall₂_congr fun _ _ => ?_
  simp

/-- An edit is accepted under no SPRAYING board of its set (R79), with steps within it. -/
theorem Acts.withEdit (h : Acts [] s0 s) (e : Edit) (hx : s.sprayingIn e.affected = none)
    (hs : ∀ c, 1 ≤ c → c ≤ 48 → e.affected.has (c - 1) = false → ∀ st ∈ e.steps, s.StepSpares c st) :
    Acts [] s0 { s with keepOut := { s.keepOut with edit := some e } } := by
  refine h.guards { spared := fun _ e' he p hp hl => ?_, spits := id, sound := fun _ => ?_ } rfl
  · obtain ⟨hk, hb⟩ := State.mem_boards.1 hp
    exact Option.some.inj he ▸ State.sprayingIn_none.1 hx _ _ hk hb hl
  · rw [State.editSound_iff]
    exact fun e' he c h1 h48 hc st hst => by
      obtain rfl := Option.some.inj he
      exact (hs c h1 h48 hc st hst).mono fun _ hn => hn

theorem startEdit_taken (h : Acts [] s0 s) (hk : s.keepOut.edit = s0.keepOut.edit) (d : Header) (k : Nat) (e : EditKind)
    (rs : List (Nat × Nat)) (free : Bool) {x : NumSet 48} {steps : List EditStep}
    (hs : ∀ c, 1 ≤ c → c ≤ 48 → x.has (c - 1) = false → ∀ st ∈ steps, s.StepSpares c st) :
    Replies d k s0 (s.startEdit d k e rs free x steps) ∨ Accepts d s0 (s.startEdit d k e rs free x steps) := by
  unfold State.startEdit
  split
  · exact .inl (h.replied _ _ _ _)
  · next none =>
      split
      · exact .inl (h.replied _ _ _ _)
      · split
        · exact .inl (h.replied _ _ _ _)
        · next hx => exact .inr ⟨h.withEdit _ hx hs, by simpa [hk] using none, _, rfl, rfl, rfl⟩

theorem Replies.unlessInit_or {P : State → Prop} (h : Acts [] s0 s) {d : Header} {k : Nat} {f : State → State}
    (hf : Replies d k s0 (f s) ∨ P (f s)) : Replies d k s0 (s.unlessInit d k f) ∨ P (s.unlessInit d k f) := by
  unfold State.unlessInit; split
  · exact .inl (h.replied _ _ _ _)
  · exact hf

theorem execRuleWrite_taken (b : Byte) (i : Nat) (f : EntryFields) :
    Yields (fun u => Replies (s.header (.ruleWrite b i f)) 0x10 s u ∨ Accepts (s.header (.ruleWrite b i f)) s u)
      (execRuleWrite b i f s) := by
  have h : Acts [] s (s.take (.ruleWrite b i f)) := Acts.refl.take _
  refine .next (Replies.unlessInit_or h ?_)
  split
  · exact .inl (h.replied _ _ _ _)
  · split
    · refine startEdit_taken h rfl _ _ _ _ _ fun c h1 h48 hc st hst => ?_
      exact List.mem_singleton.1 hst ▸ write_spares h1 h48 hc (decide_eq_true rfl)
    · exact .inl (h.replied _ _ _ _)

theorem execRuleFill_taken (b : Byte) (first last : Nat) (f : EntryFields) :
    Yields (fun u => Replies (s.header (.ruleFill b first last f)) 0x12 s u ∨ Accepts (s.header (.ruleFill b first last f)) s u)
      (execRuleFill b first last f s) := by
  have h : Acts [] s (s.take (.ruleFill b first last f)) := Acts.refl.take _
  refine .next (Replies.unlessInit_or h ?_)
  split
  · exact .inl (h.replied _ _ _ _)
  · split
    · refine startEdit_taken h rfl _ _ _ _ _ fun c h1 h48 hc st hst => ?_
      obtain ⟨i, hi, rfl⟩ := List.mem_map.1 hst
      exact write_spares h1 h48 hc (inBlock_iff.2 (List.mem_range'_1.1 hi))
    · exact .inl (h.replied _ _ _ _)

theorem execRuleMove_taken (b : Byte) (src dst n : Nat) :
    Yields (fun u => Replies (s.header (.ruleMove b src dst n)) 0x13 s u ∨ Accepts (s.header (.ruleMove b src dst n)) s u)
      (execRuleMove b src dst n s) := by
  have h : Acts [] s (s.take (.ruleMove b src dst n)) := Acts.refl.take _
  refine .next (Replies.unlessInit_or h ?_)
  split
  · exact startEdit_taken h rfl _ _ _ _ _ fun c h1 h48 hc st hst => move_spares h1 h48 hc hst
  · exact .inl (h.replied _ _ _ _)

/-! ## The reads -/

theorem KeepOutEntry.cleared_names {clear : Nat} {e e' : KeepOutEntry} (h : e.cleared clear = some e') (c : Nat) :
    e'.names c = e.names c := by
  unfold KeepOutEntry.cleared at h
  split at h <;> cases h <;> rfl

theorem execRuleRead_replies (b : Byte) (i clear : Nat) :
    Yields (Replies (s.header (.ruleRead b i clear)) 0x11 s) (execRuleRead b i clear s) := by
  refine Replies.request _ _ _ fun d u h => .unlessInit h ?_
  repeat' split
  · exact h.replied _ _ _ _
  · next e he =>
      have names : ∀ j c, ((u.setEntry i e).entry j).names c = true → (u.entry j).names c = true := fun j c hn => by
        rw [State.setEntry_entry] at hn
        split at hn
        · next hj => rwa [hj, ← KeepOutEntry.cleared_names he]
        · exact hn
      have same : Acts [] s (u.setEntry i e) := h.calm (.of_names rfl names rfl rfl) rfl
      exact same.replied _ _ _ _
  · exact h.replied _ _ _ _

theorem execRuleProbe_replies (b : Byte) (c d x y : Nat) :
    Yields (Replies (s.header (.ruleProbe b c d x y)) 0x14 s) (execRuleProbe b c d x y s) := by
  refine Replies.request _ _ _ fun d u h => .unlessInit h ?_
  repeat' split
  all_goals exact h.replied _ _ _ _

/-! ## A step of the edit in flight (R72) -/

/-- A step touches only entries that do not name a class outside the edit's set, and leaves them so (R78). -/
theorem State.StepSpares.editStep {c : Nat} {st : EditStep} (h : s.StepSpares c st) (k : Nat) :
    (s.editStep st).entry k = s.entry k ∨ (s.entry k).names c = false ∧ ((s.editStep st).entry k).names c = false := by
  cases st with
  | write i e =>
    obtain ⟨new, old⟩ := h
    simp only [State.editStep, State.setEntry_entry]
    split
    · next hk => exact .inr ⟨hk ▸ old, new⟩
    · exact .inl rfl
  | copy i j =>
    obtain ⟨source, destination⟩ := h
    simp only [State.editStep, State.setEntry_entry]
    split
    · next hk => exact .inr ⟨hk ▸ destination, source⟩
    · exact .inl rfl
  | clear i =>
    simp only [State.editStep, State.setEntry_entry]
    split
    · next hk => exact .inr ⟨hk ▸ h, resetEntry_names c⟩
    · exact .inl rfl

/-- A step changes the entries alone. -/
theorem State.editStep_rest (st : EditStep) :
    s.editStep st = { s with keepOut := ⟨(s.editStep st).keepOut.entries, s.keepOut.edit⟩ } := by
  cases st <;> rfl

/-- The edit with a step taken: the rest of its steps, and the guards kept. -/
theorem Guards.nextStep {e : Edit} {st : EditStep} {rest : List EditStep} (he : s.keepOut.edit = some e)
    (hst : e.steps = st :: rest) (n : Nat) :
    Guards s { s.editStep st with
      keepOut := { (s.editStep st).keepOut with edit := some { e with taken := n, steps := rest } } } := by
  rw [State.editStep_rest]
  refine { spared := fun g e' he' => Option.some.inj he' ▸ g e he, spits := id, sound := fun g => ?_ }
  rw [State.editSound_iff] at g ⊢
  intro e' he' c h1 h48 hc st' hst'
  obtain rfl := Option.some.inj he'
  have spares := g e he c h1 h48 hc
  rw [hst] at spares
  refine (spares st' (List.mem_cons_of_mem _ hst')).mono fun i hn => ?_
  rcases (spares st List.mem_cons_self).editStep i with same | ⟨-, hnew⟩
  · exact same ▸ hn
  · exact absurd (hn.symm.trans hnew) (by simp)

/-- The edit with its last step taken. -/
theorem Guards.lastStep (st : EditStep) :
    Guards s { s.editStep st with keepOut := { (s.editStep st).keepOut with edit := none } } := by
  rw [State.editStep_rest]
  exact { spared := fun _ _ => nofun, spits := id, sound := fun _ _ => nofun }

theorem State.nextEditStep_none (h : s.keepOut.edit = none) : s.nextEditStep = s := by
  rw [State.nextEditStep, h]

theorem State.nextEditStep_nil {e : Edit} (he : s.keepOut.edit = some e) (hs : e.steps = []) : s.nextEditStep = s := by
  rw [State.nextEditStep, he]
  dsimp only
  rw [hs]

/-- The next step of an edit, whose state is `(s.reach _).editStep st`: the last one completes the edit. -/
theorem State.nextEditStep_some {e : Edit} {st : EditStep} {rest : List EditStep} (he : s.keepOut.edit = some e)
    (hs : e.steps = st :: rest) : s.nextEditStep =
      let u := (s.reach (e.accepted + e.taken + 1)).editStep st
      if rest = [] then (u.editDone e).settle false s
      else { u with keepOut := { u.keepOut with edit := some { e with taken := e.taken + 1, steps := rest } } } := by
  rw [State.nextEditStep, he]
  dsimp only
  rw [hs]
  simp only [List.isEmpty_iff]

theorem execEditStep_guards : Yields (Guards s) (execEditStep s) := by
  refine .next ?_
  cases he : s.keepOut.edit with
  | none => rw [State.nextEditStep_none he]; exact Acts.refl.toGuards
  | some e =>
    cases hst : e.steps with
    | nil => rw [State.nextEditStep_nil he hst]; exact Acts.refl.toGuards
    | cons st rest =>
      rw [State.nextEditStep_some he hst]
      have reached : Guards s (s.reach (e.accepted + e.taken + 1)) := Calm.guards (.of_eq rfl rfl rfl)
      refine reached.trans ?_
      dsimp only; split
      · exact (Guards.lastStep st).trans (((Acts.refl.answer _ _ _ _).startTest 0).startTest 1 |>.settle _ _).toGuards
      · exact Guards.nextStep (s := s.reach _) he hst (e.taken + 1)

/-! ## Every command -/

/-- The commands that produce replies of their own, or take them: power-on, received bytes, the steps of an edit, a sending. -/
def speaks : Instr → Bool
  | .powerOn _ | .requestFrame _ | .frameTimeout _ | .fieldLinkFrameDiscard _ _ | .editStep | .replySend => true
  | _ => false

/-- How a command ends: a request with one reply, an edit accepted without one, an event without any; the rest with the guards
kept. -/
inductive Done (i : Instr) (s t : State) : Prop where
  | replied {k : Nat} (hk : requestKind i = some k) (h : Replies (s.header i) k s t)
  | accepted {k : Nat} (hk : requestKind i = some k) (he : k = 0x10 ∨ k = 0x12 ∨ k = 0x13) (h : Accepts (s.header i) s t)
  | silent (hk : requestKind i = none) (h : Acts [] s t)
  | speaking (hk : requestKind i = none) (hi : speaks i = true) (h : Guards s t)

theorem Done.guards {i : Instr} (h : Done i s t) : Guards s t := by
  cases h with
  | replied _ h => obtain ⟨_, _, h⟩ := h; exact h.toGuards
  | accepted _ _ h => exact h.acts.toGuards
  | silent _ h => exact h.toGuards
  | speaking _ _ h => exact h

section
variable {i : Instr} {k : Nat} {o : Host.Outcome State Fault Refusal}

theorem Yields.replied (h : Yields (Replies (s.header i) k s) o) (hk : requestKind i = some k) : Yields (Done i s) o :=
  h.imp fun _ => .replied hk

theorem Yields.taken (h : Yields (fun t => Replies (s.header i) k s t ∨ Accepts (s.header i) s t) o)
    (he : k = 0x10 ∨ k = 0x12 ∨ k = 0x13) (hk : requestKind i = some k) : Yields (Done i s) o :=
  h.imp fun _ h => h.elim (.replied hk) (.accepted hk he)

theorem Yields.silent (h : Yields (Acts [] s) o) (hk : requestKind i = none) : Yields (Done i s) o :=
  h.imp fun _ => .silent hk

theorem Yields.speaking (h : Yields (Guards s) o) (hk : requestKind i = none) (hi : speaks i = true) :
    Yields (Done i s) o := h.imp fun _ => .speaking hk hi
end

/-- Every command ends so. -/
theorem exec_done (i : Instr) (s : State) : Yields (Done i s) (exec i s) := by
  cases i with
  | powerOn e => exact (execPowerOn_guards e).speaking rfl rfl
  | startUpEnd => exact execStartUpEnd_acts.silent rfl
  | estopChange a => exact (execEstopChange_acts a).silent rfl
  | requestFrame bs => exact Yields.speaking (.next (State.bytesIn_guards .message bs)) rfl rfl
  | frameTimeout k => exact (execFrameTimeout_guards k).speaking rfl rfl
  | replySend => exact execReplySend_guards.speaking rfl rfl
  | replySent => exact execReplySent_acts.silent rfl
  | noticeSend => exact execNoticeSend_acts.silent rfl
  | lineStatus t => exact (execLineStatus_replies t).replied rfl
  | lineSet t f => exact (execLineSet_replies t f).replied rfl
  | mode t m => exact (execMode_replies t m).replied rfl
  | halt t => exact (execHalt_replies t).replied rfl
  | recover t => exact (execRecover_replies t).replied rfl
  | lineReset t => exact (execLineReset_replies t).replied rfl
  | classWrite t c f => exact (execClassWrite_replies t c f).replied rfl
  | classRead t c => exact (execClassRead_replies t c).replied rfl
  | materialWrite t m f => exact (execMaterialWrite_replies t m f).replied rfl
  | materialRead t m => exact (execMaterialRead_replies t m).replied rfl
  | ruleWrite t i f => exact (execRuleWrite_taken t i f).taken (.inl rfl) rfl
  | ruleRead t i c => exact (execRuleRead_replies t i c).replied rfl
  | ruleFill t a b f => exact (execRuleFill_taken t a b f).taken (.inr (.inl rfl)) rfl
  | ruleMove t a b n => exact (execRuleMove_taken t a b n).taken (.inr (.inr rfl)) rfl
  | ruleProbe t c d x y => exact (execRuleProbe_replies t c d x y).replied rfl
  | editStep => exact execEditStep_guards.speaking rfl rfl
  | criterionWrite t i f => exact (execCriterionWrite_replies t i f).replied rfl
  | criterionRead t i => exact (execCriterionRead_replies t i).replied rfl
  | routeWrite t n f => exact (execRouteWrite_replies t n f).replied rfl
  | routeRead t n => exact (execRouteRead_replies t n).replied rfl
  | strokeLoad t l i xs => exact (execStrokeLoad_replies t l i xs).replied rfl
  | strokeRead t l i n => exact (execStrokeRead_replies t l i n).replied rfl
  | armLane t l c i n m a => exact (execArmLane_replies t l c i n m a).replied rfl
  | disarm t l => exact (execDisarm_replies t l).replied rfl
  | laneStatus t l c => exact (execLaneStatus_replies t l c).replied rfl
  | prime t a m => exact (execPrime_replies t a m).replied rfl
  | purge t a => exact (execPurge_replies t a).replied rfl
  | park t a => exact (execPark_replies t a).replied rfl
  | unpark t a => exact (execUnpark_replies t a).replied rfl
  | applicatorStatus t a => exact (execApplicatorStatus_replies t a).replied rfl
  | announce t l g c d => exact (execAnnounce_replies t l g c d).replied rfl
  | boardRead t b v => exact (execBoardRead_replies t b v).replied rfl
  | boardList t l f => exact (execBoardList_replies t l f).replied rfl
  | retire t b => exact (execRetire_replies t b).replied rfl
  | historyRead t n c => exact (execHistoryRead_replies t n c).replied rfl
  | maskReport t b k v => exact (execMaskReport_replies t b k v).replied rfl
  | finding t b k d x y => exact (execFinding_replies t b k d x y).replied rfl
  | inspectDone t b => exact (execInspectDone_replies t b).replied rfl
  | hold t b => exact (execHold_replies t b).replied rfl
  | holdTake t => exact (execHoldTake_replies t).replied rfl
  | holdRelease t b r v => exact (execHoldRelease_replies t b r v).replied rfl
  | holdStatus t b f => exact (execHoldStatus_replies t b f).replied rfl
  | ovenStatus t => exact (execOvenStatus_replies t).replied rfl
  | laneArrive l => exact (execLaneArrive_acts l).silent rfl
  | laneClear l => exact (execLaneClear_acts l).silent rfl
  | maskWaitExpiry b => exact (execMaskWaitExpiry_acts b).silent rfl
  | headDone l op => exact (execHeadDone_acts l op).silent rfl
  | headFault l op k => exact (execHeadFault_acts l op k).silent rfl
  | headDeadline l => exact (execHeadDeadline_acts l).silent rfl
  | keepWetExpiry a => exact (execKeepWetExpiry_acts a).silent rfl
  | primeWindowAgeOut => exact execPrimeWindowAgeOut_acts.silent rfl
  | flashReadyReached b => exact (execFlashReadyReached_acts b).silent rfl
  | openDeadlineExpiry b => exact (execOpenDeadlineExpiry_acts b).silent rfl
  | admitDeadline => exact execAdmitDeadline_acts.silent rfl
  | divertDeadline => exact execDivertDeadline_acts.silent rfl
  | ovenEnter => exact execOvenEnter_acts.silent rfl
  | divertPass => exact execDivertPass_acts.silent rfl
  | entryWindowExpiry => exact execEntryWindowExpiry_acts.silent rfl
  | entryDrop => exact execEntryDrop_acts.silent rfl
  | zoneSample z x f => exact (execZoneSample_acts z x f).silent rfl
  | zoneStale z => exact (execZoneStale_acts z).silent rfl
  | zoneChange b => exact (execZoneChange_acts b).silent rfl
  | overdueExpiry b => exact (execOverdueExpiry_acts b).silent rfl
  | ovenExit => exact execOvenExit_acts.silent rfl
  | noticeFrameSent => exact execNoticeFrameSent_acts.silent rfl
  | headCommandSent l op => exact (execHeadCommandSent_acts l op).silent rfl
  | fieldLinkFrameDiscard k bs => exact Yields.speaking (.next (State.bytesIn_guards k bs)) rfl rfl

/-- Settles O60: a request replies once or is an edit accepted; an event that is none of those named leaves the queue. -/
theorem oneReply : Obligations.OneReply := by
  unfold Obligations.OneReply
  intro i s t ht
  have done := (exec_done i s).of_next ht
  constructor
  · intro k hk
    cases done with
    | replied hk' h =>
      obtain ⟨c, b, h⟩ := h
      cases hk'.symm.trans hk
      exact .inl ⟨_, h.replies, rfl, rfl, rfl⟩
    | accepted hk' he h =>
      cases hk'.symm.trans hk
      exact .inr ⟨h.acts.replies.trans (List.append_nil _), h.free, he, h.record⟩
    | silent hk' _ => cases hk'.symm.trans hk
    | speaking hk' _ _ => cases hk'.symm.trans hk
  · intro hk power frame timeout discard step send
    cases done with
    | replied hk' _ => cases hk'.symm.trans hk
    | accepted hk' _ _ => cases hk'.symm.trans hk
    | silent _ h => exact h.replies.trans (List.append_nil _)
    | speaking _ hi _ =>
      unfold speaks at hi
      split at hi
      · exact absurd rfl (power _)
      · exact absurd rfl (frame _)
      · exact absurd rfl (timeout _)
      · exact absurd rfl (discard _ _)
      · exact absurd rfl step
      · exact absurd rfl send
      · cases hi

/-! ## Every step -/

theorem State.idle_guards (s : State) : Guards s s.idle := by
  unfold State.idle; repeat' split
  all_goals exact Calm.guards (.of_eq rfl rfl rfl)

theorem step_guards (h : step s = .next t) : Guards s t := by
  unfold step at h
  split at h
  · cases h; exact s.idle_guards
  · next rest _ =>
      have g : Guards s { s with pending := rest } := Calm.guards (.of_eq rfl rfl rfl)
      exact g.trans ((exec_done _ _).of_next h).guards

/-- Settles O19: every command keeps the three guards, as its updates do. -/
theorem editGuardsKept : Obligations.EditGuardsKept :=
  ⟨fun _ _ g h => (step_guards h).spared g, fun _ _ g h => (step_guards h).spits g, fun _ _ g h => (step_guards h).sound g⟩

end Sys2Proof.Machine
end

section
/-! The lookup of a key over a canonical table (R63, R64), the cells of a stroke (R66, R67) and the hits counted (R69):
KeepOutLookup (O12) and CellsAndStrokes (O13). -/

namespace Sys2Proof.Machine

variable {s s0 : State}

/-! ## A rising table -/

section Rising
variable {α : Type}

theorem Table.above_of_rises {lo : Nat} {t : Table α} (h : Table.rises (some lo) t = true) : ∀ q ∈ t, lo < q.1 := by
  induction t generalizing lo with
  | nil => exact fun _ => nofun
  | cons p t ih =>
    simp only [Table.rises, Option.all_some, Bool.and_eq_true, decide_eq_true_eq] at h
    obtain ⟨first, rest⟩ := h
    intro q hq
    rcases List.mem_cons.1 hq with rfl | hq
    · exact first
    · exact first.trans (ih rest q hq)

/-- A listed record is the one its number reads. -/
theorem Table.read_of_mem (d : Nat → α) {lo : Option Nat} {t : Table α} (h : Table.rises lo t = true) {q : Nat × α}
    (hq : q ∈ t) : Table.read d t q.1 = q.2 := by
  induction t generalizing lo with
  | nil => cases hq
  | cons p t ih =>
    have rest : Table.rises (some p.1) t = true := (Bool.and_eq_true_iff.1 h).2
    rcases List.mem_cons.1 hq with rfl | hq
    · exact if_pos rfl
    · rw [Table.read, if_neg (Table.above_of_rises rest q hq).ne', ih rest hq]

end Rising

theorem State.Canonical.rises (h : s.Canonical) : Table.rises none s.keepOut.entries = true :=
  (Bool.and_eq_true_iff.1 h.entries).1

theorem State.Canonical.entry_of_mem (h : s.Canonical) {q : Nat × KeepOutEntry} (hq : q ∈ s.keepOut.entries) :
    s.entry q.1 = q.2 := Table.read_of_mem _ h.rises hq

/-! ## Matching (R63) -/

theorem ternary_iff {w : Nat} (value care key : BitVec w) : ternary value care key = true ↔
    ∀ k, k < w → care.getLsbD k = true → key.getLsbD k = value.getLsbD k := by
  rw [ternary, beq_iff_eq, BitVec.eq_of_getLsbD_eq_iff]
  refine forall₂_congr fun k _ => ?_
  rw [BitVec.getLsbD_and, BitVec.getLsbD_xor]
  cases care.getLsbD k <;> simp

theorem SideSel.takes_iff (f : SideSel) (d : Side) :
    f.takes d = true ↔ f = .either ∨ f = .top ∧ d = .top ∨ f = .bottom ∧ d = .bottom := by
  cases f <;> cases d <;> decide

theorem KeepOutEntry.takes_iff (e : KeepOutEntry) (c : Nat) (d : Side) (x y : Nat) : e.takes c d x y = true ↔
    e.enabled = true ∧ ternary e.clsValue e.clsCare (BitVec.ofNat 6 c) = true ∧
      (e.side = .either ∨ e.side = .top ∧ d = .top ∨ e.side = .bottom ∧ d = .bottom) ∧
      ternary e.xValue e.xCare (BitVec.ofNat 10 x) = true ∧ ternary e.yValue e.yCare (BitVec.ofNat 10 y) = true := by
  simp only [KeepOutEntry.takes, KeepOutEntry.takesClass, Bool.and_eq_true, SideSel.takes_iff, and_assoc]

theorem KeepOutEntry.enabled_of_takes {e : KeepOutEntry} {c x y : Nat} {d : Side} (h : e.takes c d x y = true) :
    e.enabled = true := ((e.takes_iff c d x y).1 h).1

theorem KeepOutEntry.names_of_takes {e : KeepOutEntry} {c x y : Nat} {d : Side} (h : e.takes c d x y = true) :
    e.names c = true := by
  obtain ⟨enabled, cls, -⟩ := (e.takes_iff c d x y).1 h
  exact Bool.and_eq_true_iff.2 ⟨enabled, cls⟩

/-! ## The deciding entry (R64) -/

section Deciding
variable {c x y : Nat} {d : Side}

theorem deciding_eq_none {t : Table KeepOutEntry} :
    deciding c d x y t = none ↔ ∀ p ∈ t, p.2.takes c d x y = false := by
  induction t with
  | nil => simp [deciding]
  | cons p t ih =>
    rw [deciding, List.forall_mem_cons]
    split
    · next q hq => exact iff_of_false nofun fun h => by rw [ih.2 h.2] at hq; cases hq
    · next none =>
        cases p.2.takes c d x y with
        | true => exact iff_of_false nofun fun h => by cases h.1
        | false => exact iff_of_true rfl ⟨rfl, ih.1 none⟩

/-- The entry that decides is listed and matches, and none that matches is listed at a higher index. -/
theorem deciding_some {lo : Option Nat} {t : Table KeepOutEntry} (hr : Table.rises lo t = true) {p : Nat × KeepOutEntry}
    (h : deciding c d x y t = some p) :
    p ∈ t ∧ p.2.takes c d x y = true ∧ ∀ q ∈ t, q.2.takes c d x y = true → q.1 ≤ p.1 := by
  induction t generalizing lo with
  | nil => cases h
  | cons r t ih =>
    have rest : Table.rises (some r.1) t = true := (Bool.and_eq_true_iff.1 hr).2
    rw [deciding] at h
    split at h
    · next q hq =>
      cases h
      obtain ⟨listed, takes, highest⟩ := ih rest hq
      refine ⟨List.mem_cons_of_mem _ listed, takes, fun q hq ht => ?_⟩
      rcases List.mem_cons.1 hq with rfl | hq
      · exact (Table.above_of_rises rest _ listed).le
      · exact highest q hq ht
    · next none =>
      split at h <;> cases h
      next takes =>
      refine ⟨List.mem_cons_self, takes, fun q hq ht => ?_⟩
      rcases List.mem_cons.1 hq with rfl | hq
      · exact le_rfl
      · rw [deciding_eq_none.1 none q hq] at ht
        cases ht

/-- In a canonical table an index decides exactly if its entry matches and none above it does. -/
theorem State.Canonical.deciding_eq_some (hc : s.Canonical) {i : Nat} {e : KeepOutEntry} :
    deciding c d x y s.keepOut.entries = some (i, e) ↔
      s.entry i = e ∧ e.takes c d x y = true ∧ ∀ j, i < j → (s.entry j).takes c d x y = false := by
  have listed : ∀ {j}, (s.entry j).takes c d x y = true → (j, s.entry j) ∈ s.keepOut.entries := fun h =>
    State.entry_mem (KeepOutEntry.enabled_of_takes h)
  constructor
  · intro h
    obtain ⟨mem, takes, highest⟩ := deciding_some hc.rises h
    refine ⟨hc.entry_of_mem mem, takes, fun j hj => ?_⟩
    by_contra ht
    exact absurd (highest _ (listed (by simpa using ht)) (by simpa using ht)) (Nat.not_le.2 hj)
  · rintro ⟨rfl, takes, above⟩
    cases h : deciding c d x y s.keepOut.entries with
    | none => rw [deciding_eq_none.1 h _ (listed takes)] at takes; cases takes
    | some p =>
      obtain ⟨mem, ptakes, highest⟩ := deciding_some hc.rises h
      have lower : ¬ i < p.1 := fun hlt => by
        have none := above p.1 hlt
        rw [hc.entry_of_mem mem, ptakes] at none
        cases none
      have same : p.1 = i := (Nat.not_lt.1 lower).antisymm (highest _ (listed takes) takes)
      rw [← same, hc.entry_of_mem mem]

/-- In a canonical table none decides exactly if no entry matches. -/
theorem State.Canonical.deciding_eq_none (hc : s.Canonical) :
    deciding c d x y s.keepOut.entries = none ↔ ∀ i, (s.entry i).takes c d x y = false := by
  rw [Machine.deciding_eq_none]
  constructor
  · intro h i
    by_contra ht
    have ht : (s.entry i).takes c d x y = true := by simpa using ht
    rw [h _ (State.entry_mem (KeepOutEntry.enabled_of_takes ht))] at ht
    cases ht
  · exact fun h p hp => hc.entry_of_mem hp ▸ h p.1

end Deciding

/-- Settles O12: the tests of a match bit by bit, and the deciding entry of a canonical table. -/
theorem keepOutLookup : Obligations.KeepOutLookup := by
  unfold Obligations.KeepOutLookup
  intro s c x y d hc agrees hits
  have matched : ∀ i, hits (s.entry i) ↔ (s.entry i).takes c d x y = true := fun i => by
    rw [KeepOutEntry.takes_iff]
    simp only [ternary_iff]
    rfl
  constructor
  · intro i hi above
    have decides := hc.deciding_eq_some.2 ⟨rfl, (matched i).1 hi, fun j hj => by simpa [matched] using above j hj⟩
    rw [State.lookup, decides]
  · intro none
    have decides := hc.deciding_eq_none.2 fun i => by simpa [matched] using none i
    rw [State.lookup, decides]

/-! ## The columns of a stroke (R66) -/

/-- The positions of a stroke by their distance from its start. -/
theorem Stroke.positions_eq (st : Stroke) : st.positions =
    if st.start ≤ st.stop then (List.range (st.stop - st.start + 1)).map (st.start + ·)
    else (List.range (st.start - st.stop + 1)).map (st.start - ·) := by
  unfold Stroke.positions
  split
  · exact List.range'_eq_map_range ..
  · rw [List.reverse_range']
    exact List.map_congr_left fun k _ => by omega

theorem State.resolve_positions (b : Board) (st : Stroke) : (s.resolve b st).map (·.1) = st.positions := by
  simp [State.resolve, Function.comp_def]

/-- A column's cells, looked up one by one. -/
theorem State.resolve_cells {b : Board} {st : Stroke} {p : Nat × List Cell} (h : p ∈ s.resolve b st) :
    p.2 = (List.range st.swath).map fun j =>
      (match st.axis with
        | .x => s.lookup b.cls b.side p.1 (st.fixed + j)
        | .y => s.lookup b.cls b.side (st.fixed + j) p.1).cell b st.material := by
  obtain ⟨k, -, rfl⟩ := List.mem_map.1 h
  rw [Stroke.column, List.map_map]
  cases ha : st.axis <;> rfl

/-! ## The hits (R69) -/

theorem decidedBy_iff {cols : List (Nat × List Cell)} {i : Nat} :
    decidedBy cols i = true ↔ ∃ p ∈ cols, ∃ c ∈ p.2, c.decider = some i := by
  simp [decidedBy]

/-- An entry that is not the reset one is listed, so that its hit is counted. -/
theorem State.countHits_entry_of_ne {cols : List (Nat × List Cell)} {i : Nat}
    (h : s.entry i ≠ resetEntry ∨ decidedBy cols i = false) :
    (s.countHits cols).entry i = if decidedBy cols i then (s.entry i).hit else s.entry i := by
  rw [State.countHits_entry]
  split
  · rfl
  · next unlisted =>
      have reset : s.entry i = resetEntry := Table.read_unlisted _ (by simpa using unlisted)
      rw [h.resolve_left (not_not.2 reset)]
      rfl

/-- Settles O13, by the dispositions, the positions of the stroke and the entries counted. -/
theorem cellsAndStrokes : Obligations.CellsAndStrokes := by
  unfold Obligations.CellsAndStrokes
  refine ⟨fun r b m => ⟨?_, ?_, ?_, ?_, ?_, ?_⟩, fun s b st => ⟨?_, fun p hp => State.resolve_cells hp⟩, fun s cols i h => ?_⟩
  · exact fun hr => by rw [LookupResult.cell, hr]
  · exact fun hr => by rw [LookupResult.cell, hr]
  · exact fun hr present => by rw [LookupResult.cell, hr]; exact if_pos present
  · exact fun hr absent => by rw [LookupResult.cell, hr]; exact if_neg absent
  · exact fun hr same => by rw [LookupResult.cell, hr]; exact if_pos same
  · exact fun hr other => by rw [LookupResult.cell, hr]; exact if_neg other
  · exact (State.resolve_positions b st).trans st.positions_eq
  · simp only [← decidedBy_iff]
    exact State.countHits_entry_of_ne h

end Sys2Proof.Machine
end

section
/-! The requests of the keep-out table: the reads (R70, R71), and the tests of an edit in their order (R74) with its affected
class set (R73): RuleReads (O14), RuleWriteAndFill (O15) and RuleMove (O16). -/

namespace Sys2Proof.Machine

variable {s : State}

/-! ## The reads (R70, R71) -/

theorem KeepOutEntry.cleared_eq_some {clear : Nat} (h : clear = 0 ∨ clear = 1 ∨ clear = 0xFF) (e : KeepOutEntry) :
    e.cleared clear = some { e with
      hits := if clear = 0 then e.hits else 0, sticky := if clear = 0xFF then false else e.sticky } := by
  rcases h with rfl | rfl | rfl <;> rfl

theorem KeepOutEntry.cleared_eq_none {clear : Nat} (h : ¬(clear = 0 ∨ clear = 1 ∨ clear = 0xFF)) (e : KeepOutEntry) :
    e.cleared clear = none := by
  unfold KeepOutEntry.cleared
  split
  · exact absurd (.inl rfl) h
  · exact absurd (.inr (.inl rfl)) h
  · exact absurd (.inr (.inr rfl)) h
  · rfl

theorem execRuleRead_initializing (t : Byte) (k clear : Nat) (hm : s.line.mode = .initializing) :
    execRuleRead t k clear s = .next (s.replied (.ruleRead t k clear) 0x11 .wrongMode .empty) := by
  rw [execRuleRead, State.request_unlessInit, if_pos hm]

theorem execRuleRead_refused (t : Byte) {k clear : Nat} (hm : s.line.mode ≠ .initializing)
    (h : ¬(k < 1024 ∧ (clear = 0 ∨ clear = 1 ∨ clear = 0xFF))) :
    execRuleRead t k clear s = .next (s.replied (.ruleRead t k clear) 0x11 .outOfRange .empty) := by
  rw [execRuleRead, State.request_unlessInit, if_neg hm]
  split
  · next hk => rw [KeepOutEntry.cleared_eq_none fun hc => h ⟨hk, hc⟩]; rfl
  · rfl

theorem execRuleRead_read (t : Byte) {k clear : Nat} {e : KeepOutEntry} (hm : s.line.mode ≠ .initializing) (hk : k < 1024)
    (he : (s.entry k).cleared clear = some e) :
    execRuleRead t k clear s = .next (((s.take (.ruleRead t k clear)).setEntry k e).answer (s.header (.ruleRead t k clear))
      0x11 .ok (.ruleRead k (s.entry k))) := by
  rw [execRuleRead, State.request_unlessInit, if_neg hm, State.take_entry, he]
  exact congrArg _ (if_pos hk)

theorem execRuleProbe_initializing (t : Byte) (c side x y : Nat) (hm : s.line.mode = .initializing) :
    execRuleProbe t c side x y s = .next (s.replied (.ruleProbe t c side x y) 0x14 .wrongMode .empty) := by
  rw [execRuleProbe, State.request_unlessInit, if_pos hm]

theorem sideOf_lt {side : Nat} {d : Side} (h : sideOf side = some d) : side < 2 := by
  simpa [h] using sideOf_isSome side

theorem probe_inRange {c x y : Nat} :
    (classOk c && coordOk x && coordOk y) = true ↔ 1 ≤ c ∧ c ≤ 48 ∧ x < 1024 ∧ y < 1024 := by
  simp [and_assoc]

theorem execRuleProbe_refused (t : Byte) {c side x y : Nat} (hm : s.line.mode ≠ .initializing)
    (h : ¬(1 ≤ c ∧ c ≤ 48 ∧ side < 2 ∧ x < 1024 ∧ y < 1024)) :
    execRuleProbe t c side x y s = .next (s.replied (.ruleProbe t c side x y) 0x14 .outOfRange .empty) := by
  rw [execRuleProbe, State.request_unlessInit, if_neg hm]
  split
  · rfl
  · next d hd =>
      have range : ¬ (classOk c && coordOk x && coordOk y) = true := fun ok => by
        obtain ⟨h1, h48, hx, hy⟩ := probe_inRange.1 ok
        exact h ⟨h1, h48, sideOf_lt hd, hx, hy⟩
      rw [if_neg range]
      rfl

theorem execRuleProbe_probed (t : Byte) {c side x y : Nat} {d : Side} (hm : s.line.mode ≠ .initializing)
    (hd : sideOf side = some d) (h1 : 1 ≤ c) (h48 : c ≤ 48) (hx : x < 1024) (hy : y < 1024) :
    execRuleProbe t c side x y s =
      .next (s.replied (.ruleProbe t c side x y) 0x14 .ok (s.lookup c d x y).probeBody) := by
  rw [execRuleProbe, State.request_unlessInit, if_neg hm, hd]
  exact congrArg _ (if_pos (probe_inRange.2 ⟨h1, h48, hx, hy⟩))

/-- Settles O14: the two requests by their tests, with the clear options and the lookup. -/
theorem ruleReads : Obligations.RuleReads := by
  unfold Obligations.RuleReads
  intro t k clear c side x y s
  refine ⟨fun hm => ⟨execRuleRead_initializing t k clear hm, execRuleProbe_initializing t c side x y hm⟩,
    fun hm => ⟨execRuleRead_refused t hm, fun hk hc => ?_, execRuleProbe_refused t hm, fun d hd h1 h48 hx hy => ?_⟩⟩
  · exact execRuleRead_read t hm hk (KeepOutEntry.cleared_eq_some hc _)
  · exact execRuleProbe_probed t hm hd h1 h48 hx hy

/-! ## The affected class set (R73) -/

/-- A set that holds exactly the classes that an entry of the list names. -/
theorem affectedBy_eq {es : List KeepOutEntry} {x : NumSet 48}
    (h : ∀ c, 1 ≤ c → c ≤ 48 → (x.has (c - 1) = true ↔ (es.any fun e => e.names c) = true)) : affectedBy es = x := by
  refine BitVec.eq_of_getLsbD_eq fun k hk => Bool.eq_iff_iff.2 ?_
  have same := h (k + 1) (by omega) (by omega)
  rw [← affectedBy_has es (by omega) (by omega)] at same
  exact same.symm

theorem State.affectedBy_range {first last : Nat} {e : KeepOutEntry} {x : NumSet 48} {p : Nat → Bool}
    (hp : ∀ k, p k = true ↔ first ≤ k ∧ k ≤ last)
    (hx : ∀ c, 1 ≤ c → c ≤ 48 → (x.has (c - 1) = true ↔
      e.names c = true ∨ ∃ k, first ≤ k ∧ k ≤ last ∧ ∃ q ∈ s.keepOut.entries, q.1 = k ∧ q.2.names c = true)) :
    affectedBy (e :: s.entriesAt p) = x := by
  refine affectedBy_eq fun c h1 h48 => (hx c h1 h48).trans ?_
  rw [List.any_cons, Bool.or_eq_true, State.any_entriesAt]
  refine or_congr_right ⟨?_, ?_⟩
  · rintro ⟨_, hlo, hhi, q, hq, rfl, hn⟩; exact ⟨q, hq, (hp _).2 ⟨hlo, hhi⟩, hn⟩
  · rintro ⟨q, hq, hk, hn⟩
    obtain ⟨hlo, hhi⟩ := (hp _).1 hk
    exact ⟨q.1, hlo, hhi, q, hq, rfl, hn⟩

/-! ## The tests of an edit (R74) -/

theorem State.sprayingIn_eq_some {x : NumSet 48} {slot : Nat} {b : Board} (hk : slot < 32) (hb : s.board slot = some b)
    (hl : b.life = .spraying) (hx : x.has (b.cls - 1) = true)
    (low : ∀ k b', k < slot → s.board k = some b' → b'.life = .spraying → x.has (b'.cls - 1) = false) :
    s.sprayingIn x = some (slot, b) := by
  refine (s.boards_find? _).2 ⟨hk, hb, by simp [hl, hx], fun k b' hlt hb' => ?_⟩
  by_cases hl' : b'.life = .spraying
  · simp [hl', low k b' hlt hb' hl']
  · simp [hl']

/-- How an edit that passed its range test is answered, test by test, or accepted. -/
theorem State.startEdit_outcomes {o : Host.Outcome State Fault Refusal} {i : Instr} {kind : Nat} {k : EditKind}
    {rs : List (Nat × Nat)} {free : Bool} {x : NumSet 48} {steps : List EditStep}
    (taken : o = .next ((s.take i).startEdit (s.header i) kind k rs free x steps)) :
    (s.keepOut.edit ≠ none → o = .next (s.replied i kind .editInFlight .empty)) ∧
    (s.keepOut.edit = none →
      (free = false → o = .next (s.replied i kind .destOccupied .empty)) ∧
      (free = true →
        (∀ slot b, slot < 32 → s.board slot = some b → b.life = .spraying → x.has (b.cls - 1) = true →
          (∀ k b', k < slot → s.board k = some b' → b'.life = .spraying → x.has (b'.cls - 1) = false) →
          o = .next (s.replied i kind .classInSpray (.classInSpray x slot b.cls))) ∧
        ((∀ slot b, slot < 32 → s.board slot = some b → b.life = .spraying → x.has (b.cls - 1) = false) →
          o = .next { s.take i with keepOut := { s.keepOut with
            edit := some ⟨k, rs, i.requestTag, s.link.handed.contains i, s.clock, x, 0, steps⟩ } }))) := by
  subst taken
  refine ⟨fun busy => ?_, fun idle => ?_⟩
  · exact congrArg _ (if_pos (Option.isSome_iff_ne_none.2 busy))
  · have unbusy : ¬ (s.take i).keepOut.edit.isSome = true := by simp [State.take, idle]
    refine ⟨fun occupied => ?_, fun isFree => ⟨fun slot b hk hb hl hx low => ?_, fun spared => ?_⟩⟩
    · subst occupied; exact congrArg _ (if_neg unbusy)
    · have found : (s.take i).sprayingIn x = some (slot, b) := State.sprayingIn_eq_some hk hb hl hx low
      subst isFree
      exact congrArg _ ((if_neg unbusy).trans (by rw [found]; rfl))
    · have none : (s.take i).sprayingIn x = none := State.sprayingIn_none.2 spared
      subst isFree
      exact congrArg _ ((if_neg unbusy).trans (by rw [none]; rfl))

/-! ## RULE_WRITE and RULE_FILL (R75, R76) -/

theorem execRuleWrite_initializing (t : Byte) (k : Nat) (f : EntryFields) (hm : s.line.mode = .initializing) :
    execRuleWrite t k f s = .next (s.replied (.ruleWrite t k f) 0x10 .wrongMode .empty) := by
  rw [execRuleWrite, State.request_unlessInit, if_pos hm]

theorem execRuleWrite_refused (t : Byte) {k : Nat} {f : EntryFields} (hm : s.line.mode ≠ .initializing)
    (h : ¬ k < 1024 ∨ readEntry f = none) :
    execRuleWrite t k f s = .next (s.replied (.ruleWrite t k f) 0x10 .outOfRange .empty) := by
  rw [execRuleWrite, State.request_unlessInit, if_neg hm]
  split
  · rfl
  · next e he => exact congrArg _ (if_neg (h.resolve_right (by simp [he])))

theorem execRuleWrite_inRange (t : Byte) {k : Nat} {f : EntryFields} {e : KeepOutEntry} (hm : s.line.mode ≠ .initializing)
    (hk : k < 1024) (he : readEntry f = some e) :
    execRuleWrite t k f s = .next ((s.take (.ruleWrite t k f)).startEdit (s.header (.ruleWrite t k f)) 0x10 .write [(k, k)]
      true (affectedBy (e :: s.entriesAt fun j => decide (j = k))) [.write k e]) := by
  rw [execRuleWrite, State.request_unlessInit, if_neg hm, he]
  exact congrArg _ (if_pos hk)

theorem execRuleFill_initializing (t : Byte) (a b : Nat) (f : EntryFields) (hm : s.line.mode = .initializing) :
    execRuleFill t a b f s = .next (s.replied (.ruleFill t a b f) 0x12 .wrongMode .empty) := by
  rw [execRuleFill, State.request_unlessInit, if_pos hm]

theorem execRuleFill_refused (t : Byte) {a b : Nat} {f : EntryFields} (hm : s.line.mode ≠ .initializing)
    (h : ¬(a ≤ b ∧ b < 1024) ∨ readEntry f = none) :
    execRuleFill t a b f s = .next (s.replied (.ruleFill t a b f) 0x12 .outOfRange .empty) := by
  rw [execRuleFill, State.request_unlessInit, if_neg hm]
  split
  · rfl
  · next e he => exact congrArg _ (if_neg (h.resolve_right (by simp [he])))

theorem execRuleFill_inRange (t : Byte) {a b : Nat} {f : EntryFields} {e : KeepOutEntry} (hm : s.line.mode ≠ .initializing)
    (hab : a ≤ b) (hb : b < 1024) (he : readEntry f = some e) :
    execRuleFill t a b f s = .next ((s.take (.ruleFill t a b f)).startEdit (s.header (.ruleFill t a b f)) 0x12 .fill [(a, b)]
      true (affectedBy (e :: s.entriesAt (inBlock a (b - a + 1)))) (fillSteps a (b - a + 1) e)) := by
  rw [execRuleFill, State.request_unlessInit, if_neg hm, he]
  exact congrArg _ (if_pos ⟨hab, hb⟩)

theorem fillSteps_eq (a n : Nat) (e : KeepOutEntry) : fillSteps a n e = (List.range n).map fun k => .write (a + k) e := by
  rw [fillSteps, List.range'_eq_map_range, List.map_map]
  rfl

/-- Settles O15: a write is the fill of a range of one index, and both go through the tests of an edit. -/
theorem ruleWriteAndFill : Obligations.RuleWriteAndFill := by
  unfold Obligations.RuleWriteAndFill
  intro t first last f x s write one
  cases write with
  | true =>
    obtain rfl : last = first := one rfl
    refine ⟨execRuleWrite_initializing t last f, fun hm h => execRuleWrite_refused t hm (h.imp_left fun h hk => h ⟨le_rfl, hk⟩),
      fun e hm hab hb he hx => ?_⟩
    have set := State.affectedBy_range (p := fun j => decide (j = last)) (fun k => by simp; omega) hx
    have steps : (List.range (last - last + 1)).map (fun k => EditStep.write (last + k) e) = [.write last e] := by simp
    have taken := execRuleWrite_inRange t hm hb he
    rw [set, ← steps] at taken
    obtain ⟨busy, idle⟩ := State.startEdit_outcomes taken
    exact ⟨busy, fun h => (idle h).2 rfl⟩
  | false =>
    refine ⟨execRuleFill_initializing t first last f, execRuleFill_refused t, fun e hm hab hb he hx => ?_⟩
    have set := State.affectedBy_range (p := inBlock first (last - first + 1)) (fun k => by rw [inBlock_iff]; omega) hx
    have taken := execRuleFill_inRange t hm hab hb he
    rw [set, fillSteps_eq] at taken
    obtain ⟨busy, idle⟩ := State.startEdit_outcomes taken
    exact ⟨busy, fun h => (idle h).2 rfl⟩

/-! ## RULE_MOVE (R77) -/

theorem execRuleMove_initializing (t : Byte) (src dst n : Nat) (hm : s.line.mode = .initializing) :
    execRuleMove t src dst n s = .next (s.replied (.ruleMove t src dst n) 0x13 .wrongMode .empty) := by
  rw [execRuleMove, State.request_unlessInit, if_pos hm]

theorem execRuleMove_refused (t : Byte) {src dst n : Nat} (hm : s.line.mode ≠ .initializing)
    (h : ¬(1 ≤ n ∧ src + n ≤ 1024 ∧ dst + n ≤ 1024)) :
    execRuleMove t src dst n s = .next (s.replied (.ruleMove t src dst n) 0x13 .outOfRange .empty) := by
  rw [execRuleMove, State.request_unlessInit, if_neg hm]
  exact congrArg _ (if_neg h)

theorem execRuleMove_inRange (t : Byte) {src dst n : Nat} (hm : s.line.mode ≠ .initializing) (hn : 1 ≤ n)
    (hs : src + n ≤ 1024) (hd : dst + n ≤ 1024) :
    execRuleMove t src dst n s = .next ((s.take (.ruleMove t src dst n)).startEdit (s.header (.ruleMove t src dst n)) 0x13
      .move [(src, src + n - 1), (dst, dst + n - 1)] (s.destFree src dst n)
      (affectedBy (s.entriesAt fun i => inBlock src n i || inBlock dst n i)) (moveSteps src dst n)) := by
  rw [execRuleMove, State.request_unlessInit, if_neg hm]
  exact congrArg _ (if_pos ⟨hn, hs, hd⟩)

theorem State.destFree_iff (src dst n : Nat) : s.destFree src dst n = true ↔
    ∀ p ∈ s.keepOut.entries, (dst ≤ p.1 ∧ p.1 < dst + n) → ¬(src ≤ p.1 ∧ p.1 < src + n) → p.2.enabled = false := by
  rw [State.destFree, List.all_eq_true]
  refine forall₂_congr fun p _ => ?_
  rw [← inBlock_iff, ← inBlock_iff]
  cases inBlock dst n p.1 <;> cases inBlock src n p.1 <;> simp

theorem State.affectedBy_blocks {src dst n : Nat} {x : NumSet 48}
    (hx : ∀ c, 1 ≤ c → c ≤ 48 → (x.has (c - 1) = true ↔ ∃ p ∈ s.keepOut.entries,
      ((src ≤ p.1 ∧ p.1 < src + n) ∨ (dst ≤ p.1 ∧ p.1 < dst + n)) ∧ p.2.names c = true)) :
    affectedBy (s.entriesAt fun i => inBlock src n i || inBlock dst n i) = x := by
  refine affectedBy_eq fun c h1 h48 => (hx c h1 h48).trans ?_
  simp only [State.any_entriesAt, Bool.or_eq_true, inBlock_iff]

/-- Settles O16, by the tests of an edit with the fourth one. -/
theorem ruleMove : Obligations.RuleMove := by
  unfold Obligations.RuleMove
  intro t src dst n x s
  refine ⟨execRuleMove_initializing t src dst n, execRuleMove_refused t, fun hm hn hs hd hx => ?_⟩
  have taken := execRuleMove_inRange t hm hn hs hd
  rw [State.affectedBy_blocks hx] at taken
  obtain ⟨busy, idle⟩ := State.startEdit_outcomes taken
  refine ⟨busy, fun h => ?_⟩
  obtain ⟨occupied, free⟩ := idle h
  refine ⟨fun ⟨p, hp, hin, hout, hen⟩ => occupied ?_, fun isFree => free ((State.destFree_iff src dst n).2 isFree)⟩
  by_contra none
  rw [(State.destFree_iff src dst n).1 (by simpa using none) p hp hin hout] at hen
  cases hen

end Sys2Proof.Machine
end

section
/-! The edit in flight step by step: its next step and its completion (R72), what the steps of a move leave (R77), and the lookups
that a step spares (R78): EditStepTaken (O17), MoveMovesEntries (O18) and EditSparesOtherClasses (O20). -/

namespace Sys2Proof.Machine

variable {s t s0 : State}

/-! ## The last step (R72) -/

theorem foldl_min_eq {rs : List (Nat × Nat)} {n low : Nat} (hn : low ≤ n) (hrs : ∀ r ∈ rs, low ≤ r.1)
    (attained : n = low ∨ ∃ r ∈ rs, r.1 = low) : rs.foldl (fun n q => min n q.1) n = low := by
  induction rs generalizing n with
  | nil => simpa using attained
  | cons r rs ih =>
    obtain ⟨hr, hrs⟩ := List.forall_mem_cons.1 hrs
    refine ih (le_min hn hr) hrs ?_
    rw [List.exists_mem_cons_iff, ← or_assoc] at attained
    exact attained.imp_left fun h => show min n r.1 = low by omega

theorem foldl_max_eq {rs : List (Nat × Nat)} {n high : Nat} (hn : n ≤ high) (hrs : ∀ r ∈ rs, r.2 ≤ high)
    (attained : n = high ∨ ∃ r ∈ rs, r.2 = high) : rs.foldl (fun n q => max n q.2) n = high := by
  induction rs generalizing n with
  | nil => simpa using attained
  | cons r rs ih =>
    obtain ⟨hr, hrs⟩ := List.forall_mem_cons.1 hrs
    refine ih (max_le hn hr) hrs ?_
    rw [List.exists_mem_cons_iff, ← or_assoc] at attained
    exact attained.imp_left fun h => show max n r.2 = high by omega

theorem Edit.first_eq {e : Edit} {low : Nat} (attained : ∃ r ∈ e.ranges, r.1 = low) (bound : ∀ r ∈ e.ranges, low ≤ r.1) :
    e.first = low := by
  unfold Edit.first
  split
  · next none => rw [none] at attained; simp at attained
  · next r rs some =>
      rw [some, List.exists_mem_cons_iff] at attained
      rw [some, List.forall_mem_cons] at bound
      obtain ⟨hr, hrs⟩ := bound
      exact foldl_min_eq hr hrs attained

theorem Edit.last_eq {e : Edit} {high : Nat} (attained : ∃ r ∈ e.ranges, r.2 = high) (bound : ∀ r ∈ e.ranges, r.2 ≤ high) :
    e.last = high := foldl_max_eq (Nat.zero_le _) bound (.inr attained)

/-- Settles O17, by the next step of the edit and the bounds of its ranges. -/
theorem editStepTaken : Obligations.EditStepTaken := by
  unfold Obligations.EditStepTaken
  intro s
  refine ⟨fun none => congrArg _ (State.nextEditStep_none none), fun e st rest he hs => ?_⟩
  intro s1 u
  have stepped : u = (s.reach (e.accepted + e.taken + 1)).editStep st := by cases st <;> rfl
  have next := State.nextEditStep_some he hs
  rw [← stepped] at next
  refine ⟨fun more => congrArg _ (next.trans (if_neg more)), fun low high atLow lowest atHigh highest last => ?_⟩
  refine congrArg _ ((next.trans (if_pos last)).trans ?_)
  rw [State.editDone, Edit.first_eq atLow lowest, Edit.last_eq atHigh highest]
  rfl

/-! ## The steps of a move (R77) -/

/-- The state after the steps of a list. -/
def State.editSteps (s : State) (sts : List EditStep) : State := sts.foldl (fun u st => u.editStep st) s

theorem State.editSteps_append (as bs : List EditStep) : s.editSteps (as ++ bs) = (s.editSteps as).editSteps bs :=
  List.foldl_append

theorem State.copied_entry (i j k : Nat) : (s.editStep (.copy i j)).entry k = if k = j then s.entry i else s.entry k :=
  State.setEntry_entry s j k _

theorem State.cleared_entry (i k : Nat) : (s.editStep (.clear i)).entry k = if k = i then resetEntry else s.entry k :=
  State.setEntry_entry s i k _

/-- Copies of ascending offsets to a destination not above the source never read an entry already written. -/
theorem State.copies_ascending {src dst : Nat} (h : dst ≤ src) (n k : Nat) :
    (s.editSteps ((List.range n).map fun i => .copy (src + i) (dst + i))).entry k =
      if dst ≤ k ∧ k < dst + n then s.entry (src + (k - dst)) else s.entry k := by
  induction n generalizing k with
  | zero => exact (if_neg (by omega)).symm
  | succ n ih =>
    rw [List.range_succ, List.map_append, State.editSteps_append]
    refine (State.copied_entry (src + n) (dst + n) k).trans ?_
    rw [ih, ih, if_neg (show ¬(dst ≤ src + n ∧ src + n < dst + n) by omega)]
    by_cases here : k = dst + n
    · rw [if_pos here, if_pos (by omega), here, Nat.add_sub_cancel_left]
    · rw [if_neg here]
      exact if_congr (by omega) rfl rfl

/-- Copies of descending offsets to a destination above the source never read an entry already written. -/
theorem State.copies_descending {src dst : Nat} (h : src < dst) (n k : Nat) :
    (s.editSteps ((List.range n).reverse.map fun i => .copy (src + i) (dst + i))).entry k =
      if dst ≤ k ∧ k < dst + n then s.entry (src + (k - dst)) else s.entry k := by
  induction n generalizing s with
  | zero => exact (if_neg (by omega)).symm
  | succ n ih =>
    rw [List.range_succ, List.reverse_append, List.reverse_singleton, List.singleton_append, List.map_cons]
    refine (ih (s := s.editStep (.copy (src + n) (dst + n)))).trans ?_
    rw [State.copied_entry, State.copied_entry]
    by_cases here : k = dst + n
    · rw [if_neg (by omega), if_pos here, if_pos (by omega), here, Nat.add_sub_cancel_left]
    · rw [if_neg here]
      by_cases inside : dst ≤ k ∧ k < dst + n
      · rw [if_pos inside, if_neg (by omega), if_pos (by omega)]
      · rw [if_neg inside, if_neg (by omega)]

theorem State.copySteps_entry (src dst n k : Nat) : (s.editSteps (copySteps src dst n)).entry k =
    if dst ≤ k ∧ k < dst + n then s.entry (src + (k - dst)) else s.entry k := by
  unfold copySteps
  by_cases h : src < dst
  · rw [if_pos h]; exact State.copies_descending h n k
  · rw [if_neg h]; exact State.copies_ascending (Nat.not_lt.1 h) n k

theorem State.clears_entry (is : List Nat) (k : Nat) :
    (s.editSteps (is.map .clear)).entry k = if k ∈ is then resetEntry else s.entry k := by
  induction is generalizing s with
  | nil => rfl
  | cons i is ih =>
    refine (ih (s := s.editStep (.clear i))).trans ?_
    rw [State.cleared_entry]
    by_cases rest : k ∈ is
    · rw [if_pos rest, if_pos (List.mem_cons_of_mem _ rest)]
    · simp [rest]

theorem State.clearSteps_entry (src dst n k : Nat) : (s.editSteps (clearSteps src dst n)).entry k =
    if (src ≤ k ∧ k < src + n) ∧ ¬(dst ≤ k ∧ k < dst + n) then resetEntry else s.entry k := by
  rw [clearSteps, State.clears_entry]
  refine if_congr ?_ rfl rfl
  rw [List.mem_filter, List.mem_range'_1, Bool.not_eq_true', ← Bool.not_eq_true, inBlock_iff]

theorem copySteps_length (src dst n : Nat) : (copySteps src dst n).length = n := by
  unfold copySteps; dsimp only; split <;> simp

/-- A range with a first part all kept by a filter and the rest not, or the other way about. -/
theorem filter_range'_length {p : Nat → Bool} {a m n : Nat} (hm : m ≤ n)
    (kept : (∀ i, a ≤ i → i < a + n → (p i = true ↔ i < a + m)) ∨ ∀ i, a ≤ i → i < a + n → (p i = true ↔ a + n - m ≤ i)) :
    ((List.range' a n).filter p).length = m := by
  have parts : ∀ j ≤ n, List.range' a n = List.range' a j ++ List.range' (a + j) (n - j) := fun j hj => by
    rw [List.range'_append_1, Nat.add_sub_cancel' hj]
  rcases kept with low | high
  · rw [parts m hm, List.filter_append, List.filter_eq_self.2, List.filter_eq_nil_iff.2]
    · simp
    · intro i hi
      rw [List.mem_range'_1] at hi
      rw [low i (by omega) (by omega)]; omega
    · intro i hi
      rw [List.mem_range'_1] at hi
      rw [low i (by omega) (by omega)]; omega
  · rw [parts (n - m) (by omega), List.filter_append, List.filter_eq_nil_iff.2, List.filter_eq_self.2]
    · simp; omega
    · intro i hi
      rw [List.mem_range'_1] at hi
      rw [high i (by omega) (by omega)]; omega
    · intro i hi
      rw [List.mem_range'_1] at hi
      rw [high i (by omega) (by omega)]; omega

theorem clearSteps_length (src dst n : Nat) : (clearSteps src dst n).length = min n (max src dst - min src dst) := by
  rw [clearSteps, List.length_map]
  refine filter_range'_length (Nat.min_le_left _ _) ?_
  simp only [Bool.not_eq_true', ← Bool.not_eq_true, inBlock_iff]
  rcases Nat.le_total src dst with h | h
  · exact .inl fun i _ _ => by omega
  · exact .inr fun i _ _ => by omega

/-- Settles O18: the copies move the block, and the clears then empty what it left. -/
theorem moveMovesEntries : Obligations.MoveMovesEntries := by
  unfold Obligations.MoveMovesEntries
  intro s src dst n k
  constructor
  · show (s.editSteps (moveSteps src dst n)).entry k = _
    rw [moveSteps, State.editSteps_append, State.clearSteps_entry, State.copySteps_entry]
    by_cases destination : dst ≤ k ∧ k < dst + n
    · rw [if_neg (fun h => h.2 destination), if_pos destination, if_pos destination]
    · rw [if_neg destination, if_neg destination]
      exact if_congr (and_iff_left destination) rfl rfl
  · rw [moveSteps, List.length_append, copySteps_length, clearSteps_length]

/-! ## The lookups that a step spares (R78) -/

theorem KeepOutEntry.takes_of_names {e : KeepOutEntry} {c : Nat} (h : e.names c = false) (d : Side) (x y : Nat) :
    e.takes c d x y = false := by
  by_contra ht
  rw [KeepOutEntry.names_of_takes (by simpa using ht)] at h
  cases h

/-- Two canonical tables that differ only at entries which do not name a class look it up alike. -/
theorem State.Canonical.lookup_congr (hs : s.Canonical) (ht : t.Canonical) {c : Nat} (hc : t.cls c = s.cls c)
    (h : ∀ k, t.entry k = s.entry k ∨ (s.entry k).names c = false ∧ (t.entry k).names c = false) (d : Side) (x y : Nat) :
    t.lookup c d x y = s.lookup c d x y := by
  have takes : ∀ k, (t.entry k).takes c d x y = (s.entry k).takes c d x y := fun k => by
    rcases h k with same | ⟨before, after⟩
    · rw [same]
    · rw [KeepOutEntry.takes_of_names before, KeepOutEntry.takes_of_names after]
  have same : ∀ k, (s.entry k).takes c d x y = true → t.entry k = s.entry k := fun k hk => by
    refine (h k).resolve_right fun ⟨before, _⟩ => ?_
    rw [KeepOutEntry.takes_of_names before] at hk
    cases hk
  have decides : deciding c d x y t.keepOut.entries = deciding c d x y s.keepOut.entries := by
    cases hd : deciding c d x y s.keepOut.entries with
    | none =>
      rw [hs.deciding_eq_none] at hd
      exact ht.deciding_eq_none.2 fun k => (takes k).trans (hd k)
    | some p =>
      obtain ⟨i, e⟩ := p
      obtain ⟨rfl, matched, above⟩ := hs.deciding_eq_some.1 hd
      exact ht.deciding_eq_some.2 ⟨same i matched, matched, fun j hj => (takes j).trans (above j hj)⟩
  rw [State.lookup, State.lookup, decides, hc]

theorem deciding_hits (cols : List (Nat × List Cell)) (c : Nat) (d : Side) (x y : Nat) (t : Table KeepOutEntry) :
    deciding c d x y (t.map fun p => if decidedBy cols p.1 then (p.1, p.2.hit) else p) =
      (deciding c d x y t).map fun p => if decidedBy cols p.1 then (p.1, p.2.hit) else p := by
  induction t with
  | nil => rfl
  | cons p t ih =>
    have takes : (if decidedBy cols p.1 then (p.1, p.2.hit) else p).2.takes c d x y = p.2.takes c d x y := by split <;> rfl
    rw [List.map_cons, deciding, deciding, ih, takes]
    cases deciding c d x y t with
    | some q => rfl
    | none => cases p.2.takes c d x y <;> rfl

/-- Counting hits changes no lookup. -/
theorem State.countHits_lookup (cols : List (Nat × List Cell)) (c : Nat) (d : Side) (x y : Nat) :
    (s.countHits cols).lookup c d x y = s.lookup c d x y := by
  have decides : deciding c d x y (s.countHits cols).keepOut.entries = _ := deciding_hits cols c d x y s.keepOut.entries
  rw [State.lookup, State.lookup, decides]
  cases deciding c d x y s.keepOut.entries with
  | none => rfl
  | some p => by_cases hit : decidedBy cols p.1 <;> simp [hit, KeepOutEntry.hit]

/-- No shared operation changes a lookup. -/
theorem Evolves.lookup (h : Evolves s0 s) (c : Nat) (d : Side) (x y : Nat) : s.lookup c d x y = s0.lookup c d x y := by
  induction h
  case refl => rfl
  case post ih => rw [State.post_record]; exact ih
  case countHits ih => exact (State.countHits_lookup _ c d x y).trans ih
  all_goals rename_i ih; exact ih

theorem State.Canonical.setEntry (h : s.Canonical) (i : Nat) (e : KeepOutEntry) : (s.setEntry i e).Canonical :=
  { h with entries := Table.wf_write _ i e _ h.entries }

theorem State.Canonical.editStep (h : s.Canonical) (st : EditStep) : (s.editStep st).Canonical := by
  cases st <;> exact h.setEntry _ _

/-- The lookups of a class that a step's entries do not name are as before it. -/
theorem State.StepSpares.lookup {c : Nat} {st : EditStep} (h : s.StepSpares c st) (hs : s.Canonical) (d : Side) (x y : Nat) :
    (s.editStep st).lookup c d x y = s.lookup c d x y := by
  refine hs.lookup_congr (hs.editStep st) (by rw [State.editStep_rest]; rfl) (fun k => ?_) d x y
  exact (h.editStep k).imp_right fun ⟨before, after⟩ => ⟨before, after⟩

/-- Settles O20: the step spares the lookup, and nothing after it in the command changes one. -/
theorem editSparesOtherClasses : Obligations.EditSparesOtherClasses := by
  unfold Obligations.EditSparesOtherClasses
  intro s t e c x y d hs sound he h1 h48 hc ht
  have next : s.nextEditStep = t := by injection ht
  subst next
  cases hsteps : e.steps with
  | nil => rw [State.nextEditStep_nil he hsteps]
  | cons st rest =>
    have spares : s.StepSpares c st := State.editSound_iff.1 sound e he c h1 h48 hc st (by simp [hsteps])
    have reached : (s.reach (e.accepted + e.taken + 1)).Canonical := { hs with }
    have spared := State.StepSpares.lookup (s := s.reach (e.accepted + e.taken + 1))
      (spares.mono fun _ h => h) reached d x y
    rw [State.nextEditStep_some he hsteps]
    dsimp only
    split
    · refine (Evolves.lookup (s0 := { (s.reach (e.accepted + e.taken + 1)).editStep st with
        keepOut := { ((s.reach (e.accepted + e.taken + 1)).editStep st).keepOut with edit := none } }) ?_ c d x y).trans spared
      exact (((Evolves.refl.answer _ _ _ _).startTest 0).startTest 1).settle _ _
    · exact spared

end Sys2Proof.Machine
end

section
/-! STROKE_LOAD and STROKE_READ (O21): the stroke buffer after a load, and the tests of R84 and R85 in order. -/

namespace Sys2Proof.Machine

variable {s : State}

/-! ## The stroke buffer -/

/-- The records written from an index on stand there in order; every other record is as it was. -/
theorem writeStrokes_read (rs : List Stroke) (first k : Nat) (t : Table Stroke) :
    Table.read (fun _ => resetStroke) (writeStrokes first rs t) k =
      if first ≤ k ∧ k < first + rs.length then rs.getD (k - first) resetStroke
      else Table.read (fun _ => resetStroke) t k := by
  induction rs generalizing first t with
  | nil => rw [if_neg (by simp)]; rfl
  | cons r rs ih =>
    rw [writeStrokes, ih, Table.read_write, List.length_cons]
    obtain before | rfl | ⟨j, rfl⟩ : k < first ∨ k = first ∨ ∃ j, k = first + 1 + j := by
      obtain h | h | h := Nat.lt_trichotomy k first
      exacts [.inl h, .inr (.inl h), .inr (.inr ⟨k - (first + 1), by omega⟩)]
    · rw [if_neg (by omega), if_neg (by omega), if_neg (by omega)]
    · rw [if_neg (by omega), if_pos rfl, if_pos (by omega), Nat.sub_self]; rfl
    · have index : first + 1 + j - first = j + 1 := by omega
      have inside : (first + 1 ≤ first + 1 + j ∧ first + 1 + j < first + 1 + rs.length) ↔
          (first ≤ first + 1 + j ∧ first + 1 + j < first + (rs.length + 1)) := by omega
      rw [if_neg (by omega : ¬first + 1 + j = first), index, Nat.add_sub_cancel_left, if_congr inside rfl rfl]
      rfl

theorem readStrokes_length {fs : List StrokeFields} {rs : List Stroke} (h : readStrokes fs = some rs) :
    rs.length = fs.length := by
  induction fs generalizing rs with
  | nil => cases h; rfl
  | cons f fs ih =>
    unfold readStrokes at h
    split at h
    · next hrs => cases h; exact congrArg (· + 1) (ih hrs)
    · cases h

/-- The first `n` indices from `first` on lie outside the armed range of a lane (R84). -/
def Lane.Spares (r : Lane) (first n : Nat) : Prop :=
  ∀ k, k < n → r.status = .idle ∨ first + k < r.arming.first ∨ r.arming.first + r.arming.count ≤ first + k

theorem Lane.inArmed_eq_false (r : Lane) (i : Nat) : r.inArmed i = false ↔
    r.status = .idle ∨ i < r.arming.first ∨ r.arming.first + r.arming.count ≤ i := by
  simp only [Lane.inArmed, LaneStatus.armedState, Bool.and_eq_false_iff, decide_eq_false_iff_not, not_not, not_le, not_lt,
    or_assoc]

theorem Lane.spares_iff (r : Lane) (first n : Nat) : (List.range' first n).any r.inArmed = false ↔ r.Spares first n := by
  simp only [List.range'_eq_map_range, List.any_map, List.any_eq_false, List.mem_range, Function.comp_apply,
    Bool.not_eq_true, Lane.inArmed_eq_false, Lane.Spares]

/-! ## The requests -/

variable {t : Byte} {lane first n : Nat} {records : List StrokeFields}

theorem within_records (first n : Nat) : (within 1 16 n && decide (first + n ≤ Config.strokeRecords)) =
    decide (1 ≤ n ∧ n ≤ 16 ∧ first + n ≤ 512) := by
  rw [Bool.eq_iff_iff]
  simp only [within, Bool.and_eq_true, decide_eq_true_eq, and_assoc]
  rfl

theorem execStrokeRead_outOfRange (hm : s.line.mode ≠ .initializing)
    (h : ¬(lane < 2 ∧ 1 ≤ n ∧ n ≤ 16 ∧ first + n ≤ 512)) :
    execStrokeRead t lane first n s = .next (s.replied (.strokeRead t lane first n) 0x21 .outOfRange .empty) := by
  rw [execStrokeRead, State.request_unlessInit, if_neg hm]
  refine congrArg Host.Outcome.next ?_
  by_cases hl : lane < 2
  · simp only [laneOf, dif_pos hl, within_records]
    exact if_neg (by simpa using fun h1 h2 => not_le.mp fun h3 => h ⟨hl, h1, h2, h3⟩)
  · simp only [laneOf, dif_neg hl]; rfl

theorem execStrokeRead_inRange {l : Fin 2} (hl : l.val = lane) (hm : s.line.mode ≠ .initializing)
    (h : 1 ≤ n ∧ n ≤ 16 ∧ first + n ≤ 512) :
    execStrokeRead t lane first n s = .next (s.replied (.strokeRead t lane first n) 0x21 .ok
      (.strokeRead ((List.range n).map fun k => (s.lane l).stroke (first + k)))) := by
  rw [execStrokeRead, State.request_unlessInit, if_neg hm]
  refine congrArg Host.Outcome.next ?_
  simp only [laneOf_of_val hl, within_records, decide_eq_true h, if_true, List.range'_eq_map_range, List.map_map]
  rfl

theorem execStrokeLoad_outOfRange (hm : s.line.mode ≠ .initializing)
    (h : ¬((lane < 2 ∧ 1 ≤ records.length ∧ records.length ≤ 16 ∧ first + records.length ≤ 512) ∧
      (readStrokes records).isSome)) :
    execStrokeLoad t lane first records s =
      .next (s.replied (.strokeLoad t lane first records) 0x20 .outOfRange .empty) := by
  rw [execStrokeLoad, State.request_unlessInit, if_neg hm]
  refine congrArg Host.Outcome.next ?_
  split
  next l rs hl hrs =>
    have hlane : lane < 2 := of_decide_eq_true (by rw [← laneOf_isSome, hl]; rfl)
    have outside : ¬(1 ≤ rs.length ∧ rs.length ≤ 16 ∧ first + rs.length ≤ 512) := by
      rw [readStrokes_length hrs]
      exact fun range => h ⟨⟨hlane, range⟩, by rw [hrs]; rfl⟩
    rw [within_records, decide_eq_false outside]
    rfl
  next => rfl

/-- R84: the records are refused where one would stand inside the armed range, and else written. -/
theorem execStrokeLoad_inRange {l : Fin 2} {rs : List Stroke} (hl : l.val = lane) (hm : s.line.mode ≠ .initializing)
    (hrs : readStrokes records = some rs) (h : 1 ≤ rs.length ∧ rs.length ≤ 16 ∧ first + rs.length ≤ 512) :
    execStrokeLoad t lane first records s = .next
      (if (List.range' first rs.length).any (s.lane l).inArmed then
        s.replied (.strokeLoad t lane first records) 0x20 .strokesInUse .empty
      else ((s.take (.strokeLoad t lane first records)).setLane l
        { s.lane l with strokes := writeStrokes first rs (s.lane l).strokes }).answer
          (s.header (.strokeLoad t lane first records)) 0x20 .ok (.strokeLoad lane first rs.length)) := by
  rw [execStrokeLoad, State.request_unlessInit, if_neg hm]
  refine congrArg Host.Outcome.next ?_
  simp only [laneOf_of_val hl, hrs, within_records, decide_eq_true h, if_true, State.take_lane]
  rfl

/-- Settles O21: each request by its tests in order, and the buffer after a load by `writeStrokes_read`. -/
theorem strokeBuffers : Obligations.StrokeBuffers := by
  unfold Obligations.StrokeBuffers
  intro t lane first n records s load read
  refine ⟨fun code h => ?_, fun code h => ?_, fun l hl hm => ⟨fun h1 h16 h512 => ?_, fun rs hrs h1 h16 h512 spares => ?_⟩⟩
  · simp only [firstFailure_cons, firstFailure_nil, Bool.and_eq_true, decide_eq_true_eq] at h
    split_ifs at h with hm hr hs
    · obtain ⟨⟨hl, range⟩, hsome⟩ := hr
      obtain ⟨rs, hrs⟩ := Option.isSome_iff_exists.mp hsome
      rw [← readStrokes_length hrs] at range hs
      have inUse : ¬(s.lane ⟨lane, hl⟩).Spares first rs.length := by
        simpa [laneOf_of_val (l := ⟨lane, hl⟩) rfl, Lane.Spares] using hs
      rw [← Lane.spares_iff, Bool.not_eq_false] at inUse
      exact (execStrokeLoad_inRange (l := ⟨lane, hl⟩) rfl hm hrs range).trans
        (congrArg Host.Outcome.next (by rw [if_pos inUse, Option.some.inj h]))
    · exact Option.some.inj h ▸ execStrokeLoad_outOfRange hm hr
    · cases h
      exact congrArg Host.Outcome.next (if_pos (not_not.mp hm))
  · simp only [firstFailure_cons, firstFailure_nil, decide_eq_true_eq] at h
    split_ifs at h with hm hr
    · exact Option.some.inj h ▸ execStrokeRead_outOfRange hm hr
    · cases h
      exact congrArg Host.Outcome.next (if_pos (not_not.mp hm))
  · exact execStrokeRead_inRange hl hm ⟨h1, h16, h512⟩
  · have free := ((s.lane l).spares_iff first rs.length).mpr spares
    refine ⟨writeStrokes first rs (s.lane l).strokes, ?_, fun k => writeStrokes_read rs first k _⟩
    exact (execStrokeLoad_inRange hl hm hrs ⟨h1, h16, h512⟩).trans
      (congrArg Host.Outcome.next (if_neg (Bool.eq_false_iff.mp free)))

end Sys2Proof.Machine
end

section
/-! DISARM in each lane state (O23). -/

namespace Sys2Proof.Machine

variable {s : State} {l : Fin 2}

theorem State.disarmBoard_empty (h : s.sprayEmpty l) : s.disarmBoard l = s := by
  simp only [State.disarmBoard, (s.sprayBoard_eq_none l).mpr h]

theorem State.disarmBoard_other {slot : Nat} {b : Board} (h : s.atSprayPos l slot b) (hb : b.life ≠ .spraying) :
    s.disarmBoard l = s := by
  simp only [State.disarmBoard, (s.sprayBoard_eq_some l slot b).mpr h, hb, if_false]

theorem State.disarmBoard_spraying {slot : Nat} {b : Board} (h : s.atSprayPos l slot b) (hl : b.life = .spraying) :
    s.disarmBoard l = State.raise 6 slot ((s.modLane l fun r =>
      { r with op := r.op.map fun o => { o with stroke := o.stroke.map fun x => { x with detached := true } } }).setBoard
        slot (some { b with disarmed := true, interrupted := true })) := by
  obtain ⟨-, hb, -⟩ := id h
  have board : (s.modLane l fun r => { r with
      op := r.op.map fun o => { o with stroke := o.stroke.map fun x => { x with detached := true } } }).board slot =
    some b := hb
  simp only [State.disarmBoard, (s.sprayBoard_eq_some l slot b).mpr h, hl, if_true, State.modBoardQuiet_some board]

/-- The arming cleared and the need ended: the boards are as they were. -/
theorem State.clearArming_atSprayPos {slot : Nat} {b : Board} :
    ((s.clearNeed l).clearArming l).atSprayPos l slot b ↔ s.atSprayPos l slot b := by
  rw [State.clearNeed_eq]; rfl

theorem State.clearArming_sprayEmpty : ((s.clearNeed l).clearArming l).sprayEmpty l ↔ s.sprayEmpty l := by
  rw [State.clearNeed_eq]; rfl

/-- DISARM of a lane that sprays: the need and the arming end, and then the board. -/
theorem State.disarm_spraying (h : (s.lane l).status = .running ∨ (s.lane l).status = .waitApplicator ∨
    (s.lane l).status = .stopped) : s.disarm l = ((s.clearNeed l).clearArming l).disarmBoard l := by
  obtain h | h | h := h <;> simp only [State.disarm, h]

theorem execDisarm_lane {t : Byte} {n : Nat} (hl : l.val = n) (hi : s.line.mode ≠ .initializing) :
    execDisarm t n s = .next ((((s.take (.disarm t n)).disarm l).answer (s.header (.disarm t n)) 0x23 .ok
      (.disarmed n (s.lane l).status)).settle false (s.take (.disarm t n))) := by
  rw [execDisarm, State.request_unlessInit, if_neg hi]
  simp only [laneOf_of_val hl]
  rfl

/-- Settles O23: the tests, and then the lane state by state and the board at its spray position. -/
theorem disarmLane : Obligations.DisarmLane := by
  unfold Obligations.DisarmLane
  intro t n s i
  refine ⟨fun hi => congrArg Host.Outcome.next (if_pos hi), fun hi hn => ?_, ?_⟩
  · rw [show exec i s = execDisarm t n s from rfl, execDisarm, State.request_unlessInit, if_neg hi]
    simp only [laneOf, dif_neg (not_lt.mpr hn)]
    rfl
  intro l hl hi close cleared needless
  have step {u : State} (h : (s.take i).disarm l = u) : exec i s = .next (close u) :=
    (execDisarm_lane hl hi).trans (by rw [h])
  have atPos (slot : Nat) (b : Board) : (cleared (needless (s.take i))).atSprayPos l slot b ↔ s.atSprayPos l slot b :=
    State.clearArming_atSprayPos (s := s.take i)
  refine ⟨fun idle => step ?_, fun armed => step ?_, fun sprays => ?_⟩
  · simp only [State.disarm, State.take_lane, idle]
  · simp only [State.disarm, State.take_lane, armed]; rfl
  have disarm : (s.take i).disarm l = (cleared (needless (s.take i))).disarmBoard l := State.disarm_spraying sprays
  refine ⟨fun empty => step ?_, fun slot b hb => ⟨fun other => step ?_, fun spraying => step ?_⟩⟩
  · exact disarm.trans (State.disarmBoard_empty ((State.clearArming_sprayEmpty (s := s.take i)).mpr empty))
  · exact disarm.trans (State.disarmBoard_other ((atPos slot b).mpr hb) other)
  · exact disarm.trans (State.disarmBoard_spraying ((atPos slot b).mpr hb) spraying)

end Sys2Proof.Machine
end

section
/-! The start test (O25): the withholding cause as the first condition of R88 that fails, and the start of a board. -/

namespace Sys2Proof.Machine

variable {s : State} {l : Fin 2}

/-- The cause of the first condition of a table that fails. -/
def firstCause (tests : List (Bool × Withhold)) : Option Withhold := (tests.find? fun p => !p.1).map (·.2)

theorem firstCause_cons (x : Bool) (c : Withhold) (tests : List (Bool × Withhold)) :
    firstCause ((x, c) :: tests) = if !x then some c else firstCause tests := by cases x <;> rfl

/-- The conditions of R88 in their order, with their causes. -/
def State.startConditions (s : State) (l : Fin 2) (b : Board) : List (Bool × Withhold) := [
  (decide (s.line.mode = .run), .mode),
  (decide ((s.lane l).status = .armed), .notArmed),
  (decide ((s.lane l).arming.cls = some b.cls), .classMismatch),
  (b.masksPresent, .masks),
  (!s.blocked b, .blocked),
  (b.mark.isNone, .marked),
  (s.keepOut.edit.all fun e => !e.affected.has (b.cls - 1), .edit),
  ((s.lane l).op.all fun o => decide (o.kind ≠ .spit), .spit)]

theorem State.withhold_eq (s : State) (l : Fin 2) (b : Board) : s.withhold l b = firstCause (s.startConditions l b) := by
  have edit : (s.keepOut.edit.all fun e => !e.affected.has (b.cls - 1)) =
      !s.keepOut.edit.any fun e => e.affected.has (b.cls - 1) := by cases s.keepOut.edit <;> rfl
  have spit : ((s.lane l).op.all fun o => decide (o.kind ≠ .spit)) = !s.spitting l := by
    unfold State.spitting
    cases (s.lane l).op <;> simp
  have mark : b.mark.isNone = !b.mark.isSome := by cases b.mark <;> rfl
  simp only [State.withhold, State.startConditions, firstCause_cons, edit, spit, mark, Bool.not_eq_true', Bool.not_eq_false',
    decide_eq_false_iff_not, ne_eq]
  rfl

/-- A board that nothing withholds stands at an armed lane. -/
theorem State.armed_of_withhold {b : Board} (h : s.withhold l b = none) : (s.lane l).status = .armed := by
  by_contra hs
  rw [State.withhold_eq, State.startConditions, firstCause_cons, firstCause_cons, decide_eq_false hs] at h
  split at h <;> cases h

/-- R89: the start of an AT_SPRAY board of an armed lane. -/
theorem State.startBoard_eq {slot : Nat} {b : Board} (hb : s.board slot = some b) (hl : b.life = .atSpray)
    (ha : (s.lane l).status = .armed) : s.startBoard l slot =
      ((((s.setBoard slot (some { b with life := .spraying, strokesDone := 0, gated := 0 })).post (.board slot)).setLane l
        { s.lane l with status := .running, arming := { (s.lane l).arming with
          current := (s.lane l).arming.first, remaining := (s.lane l).arming.count } }).post (.lane l)) := by
  have started := s.modBoard_noticed (f := fun b => { b with life := .spraying, strokesDone := 0, gated := 0 }) hb
    (Board.noticed_of_life (by rw [hl]; exact LifeState.noConfusion))
  have lane : ((s.setBoard slot (some { b with life := .spraying, strokesDone := 0, gated := 0 })).post
    (.board slot)).lane l = s.lane l := State.post_lane _ l
  rw [State.startBoard, started, State.setStatus_modLane (by rw [lane, ha]; exact LaneStatus.noConfusion), lane]

theorem State.startTest_empty (h : s.sprayEmpty l) : s.startTest l = s := by
  simp only [State.startTest, (s.sprayBoard_eq_none l).mpr h]

theorem State.startTest_other {slot : Nat} {b : Board} (h : s.atSprayPos l slot b) (hl : b.life ≠ .atSpray) :
    s.startTest l = s := by
  simp only [State.startTest, (s.sprayBoard_eq_some l slot b).mpr h, hl, if_false]

theorem State.startTest_withheld {slot : Nat} {b : Board} {c : Withhold} (h : s.atSprayPos l slot b)
    (hl : b.life = .atSpray) (hc : s.withhold l b = some c) :
    s.startTest l = if c = .classMismatch then s.post (.lane l) else s := by
  simp only [State.startTest, (s.sprayBoard_eq_some l slot b).mpr h, hl, if_true, hc]
  cases c <;> rfl

theorem State.startTest_started {slot : Nat} {b : Board} (h : s.atSprayPos l slot b) (hl : b.life = .atSpray)
    (hn : s.withhold l b = none) : s.startTest l = s.startBoard l slot := by
  simp only [State.startTest, (s.sprayBoard_eq_some l slot b).mpr h, hl, if_true, hn]

/-- Settles O25: the conditions as one table, and the start test by the board it finds. -/
theorem startRule : Obligations.StartRule := by
  unfold Obligations.StartRule
  refine ⟨fun s l b => s.withhold_eq l b, fun s l => ⟨State.startTest_empty, fun slot b h => ⟨State.startTest_other h,
    fun hl => ⟨fun c => State.startTest_withheld h hl, fun hn => ?_⟩⟩⟩⟩
  obtain ⟨-, hb, -⟩ := id h
  exact (State.startTest_started h hl hn).trans (State.startBoard_eq hb hl (State.armed_of_withhold hn))

end Sys2Proof.Machine
end

section
/-! The open runs of a resolution (O26): over the columns of a stroke numbered in travel order they are the maximal
runs of open columns, and the numbering carries over to the positions in either travel direction. -/

namespace Sys2Proof.Machine

/-! ## Runs of numbered columns -/

/-- That a list holds the maximal runs of the numbers from `lo` to below `hi` that are open, in rising order. -/
structure MaximalRuns (isOpen : Nat → Bool) (lo hi : Nat) (rs : List (Nat × Nat)) : Prop where
  inside : ∀ r ∈ rs, lo ≤ r.1 ∧ r.1 ≤ r.2 ∧ r.2 < hi
  opened : ∀ r ∈ rs, ∀ k, r.1 ≤ k → k ≤ r.2 → isOpen k = true
  before : ∀ r ∈ rs, ∀ k, lo ≤ k → k + 1 = r.1 → isOpen k = false
  after : ∀ r ∈ rs, r.2 + 1 < hi → isOpen (r.2 + 1) = false
  covers : ∀ k, lo ≤ k → k < hi → isOpen k = true → ∃ r ∈ rs, r.1 ≤ k ∧ k ≤ r.2
  apart : rs.Pairwise fun r q => r.2 + 1 < q.1

variable {isOpen : Nat → Bool} {lo hi : Nat}

/-- No open number, no run. -/
theorem MaximalRuns.nil (lo : Nat) : MaximalRuns isOpen lo lo [] where
  inside := by simp
  opened := by simp
  before := by simp
  after := by simp
  covers := fun k _ _ _ => by omega
  apart := .nil

/-- One run of open numbers. -/
theorem MaximalRuns.single (h : lo ≤ hi) (opened : ∀ k, lo ≤ k → k ≤ hi → isOpen k = true) :
    MaximalRuns isOpen lo (hi + 1) [(lo, hi)] where
  inside := by simp [h]
  opened := by simpa using opened
  before := by simp only [List.mem_singleton, forall_eq]; omega
  after := by simp
  covers := fun k h1 h2 _ => ⟨(lo, hi), by simp, h1, Nat.lt_succ_iff.mp h2⟩
  apart := List.pairwise_singleton _ _

/-- The runs before a closed number and those after it. -/
theorem MaximalRuns.append {m : Nat} {ps rs : List (Nat × Nat)} (hp : MaximalRuns isOpen lo m ps)
    (hr : MaximalRuns isOpen (m + 1) hi rs) (hlo : lo ≤ m) (hhi : m < hi) (closed : isOpen m = false) :
    MaximalRuns isOpen lo hi (ps ++ rs) where
  inside := by
    intro r h
    obtain h | h := List.mem_append.mp h
    · have := hp.inside r h; omega
    · have := hr.inside r h; omega
  opened := by
    intro r h
    exact (List.mem_append.mp h).elim (hp.opened r) (hr.opened r)
  before := by
    intro r h k hk he
    obtain h | h := List.mem_append.mp h
    · exact hp.before r h k hk he
    · have := hr.inside r h
      obtain rfl | above : k = m ∨ m + 1 ≤ k := by omega
      exacts [closed, hr.before r h k above he]
  after := by
    intro r h hlt
    obtain h | h := List.mem_append.mp h
    · have := hp.inside r h
      obtain e | below : r.2 + 1 = m ∨ r.2 + 1 < m := by omega
      exacts [e ▸ closed, hp.after r h below]
    · exact hr.after r h hlt
  covers := by
    intro k h1 h2 ho
    obtain below | rfl | above := Nat.lt_trichotomy k m
    · obtain ⟨r, h, hk⟩ := hp.covers k h1 below ho
      exact ⟨r, List.mem_append_left _ h, hk⟩
    · rw [closed] at ho; cases ho
    · obtain ⟨r, h, hk⟩ := hr.covers k above h2 ho
      exact ⟨r, List.mem_append_right _ h, hk⟩
  apart := List.pairwise_append.mpr ⟨hp.apart, hr.apart, fun r h q h' => by
    have := hp.inside r h
    have := hr.inside q h'
    omega⟩

/-- The run in progress that began at `lo`, before column `a`. -/
def runSince (lo a : Nat) : Option (Nat × Nat) := if lo < a then some (lo, a - 1) else none

theorem runSince_self (a : Nat) : runSince a a = none := if_neg (lt_irrefl a)

theorem runSince_maximal {a : Nat} (h : lo ≤ a) (opened : ∀ k, lo ≤ k → k < a → isOpen k = true) :
    MaximalRuns isOpen lo a (runSince lo a).toList := by
  obtain rfl | h := Nat.eq_or_lt_of_le h
  · rw [runSince_self]; exact .nil lo
  · obtain ⟨b, rfl⟩ : ∃ b, a = b + 1 := ⟨a - 1, by omega⟩
    rw [runSince, if_pos h]
    exact .single (by omega) fun k h1 h2 => opened k h1 (by omega)

/-- One column: an open one goes on with the run in progress, or begins one; a closed one ends it. -/
theorem runsFrom_cons (cur : Option (Nat × Nat)) (a : Nat) (cells : List Cell) (rest : List (Nat × List Cell)) :
    runsFrom cur ((a, cells) :: rest) =
      if columnOpen cells then runsFrom (some ((cur.map (·.1)).getD a, a)) rest
      else cur.toList ++ runsFrom none rest := by
  cases cur <;> rfl

theorem runSince_succ {a : Nat} (h : lo ≤ a) :
    runSince lo (a + 1) = some (((runSince lo a).map (·.1)).getD a, a) := by
  rw [runSince, if_pos (by omega), Nat.add_sub_cancel]
  obtain rfl | h := Nat.eq_or_lt_of_le h
  · rw [runSince_self]; rfl
  · rw [runSince, if_pos h]; rfl

theorem runsFrom_maximal (c : Nat → List Cell) (n lo a : Nat) (h : lo ≤ a)
    (opened : ∀ k, lo ≤ k → k < a → columnOpen (c k) = true) :
    MaximalRuns (fun k => columnOpen (c k)) lo (a + n)
      (runsFrom (runSince lo a) ((List.range' a n).map fun k => (k, c k))) := by
  induction n generalizing lo a with
  | zero => exact runSince_maximal h opened
  | succ n ih =>
    rw [List.range'_succ, List.map_cons, show a + (n + 1) = a + 1 + n by omega]
    rw [runsFrom_cons]
    by_cases ho : columnOpen (c a) = true
    · rw [if_pos ho, ← runSince_succ h]
      refine ih lo (a + 1) (by omega) fun k h1 h2 => ?_
      obtain rfl | h2 := Nat.eq_or_lt_of_le (Nat.lt_succ_iff.mp h2)
      exacts [ho, opened k h1 h2]
    · have rest := ih (a + 1) (a + 1) (le_refl _) fun k h1 h2 => by omega
      rw [runSince_self] at rest
      rw [if_neg ho]
      exact (runSince_maximal h opened).append rest h (by omega) (Bool.eq_false_iff.mpr ho)

/-! ## Columns by their positions -/

/-- The runs of renumbered columns are the renumbered runs. -/
theorem runsFrom_map (g : Nat → Nat) (cols : List (Nat × List Cell)) (cur : Option (Nat × Nat)) :
    runsFrom (cur.map (Prod.map g g)) (cols.map (Prod.map g id)) = (runsFrom cur cols).map (Prod.map g g) := by
  induction cols generalizing cur with
  | nil => cases cur <;> rfl
  | cons p cols ih =>
    obtain ⟨k, cells⟩ := p
    rw [List.map_cons, Prod.map_apply, id, runsFrom_cons, runsFrom_cons]
    split
    · rw [← ih]
      cases cur <;> rfl
    · rw [List.map_append]
      exact congrArg₂ (· ++ ·) (by cases cur <;> rfl) (ih none)

/-- What the numbers from 0 to below `n` have to do with the positions of a stroke, in travel order. -/
def Stroke.Numbers (st : Stroke) (n : Nat) (g : Nat → Nat) : Prop :=
  st.start ≤ st.stop ∧ (∀ k, g k = st.start + k) ∨ st.stop < st.start ∧ ∀ k, k < n → g k + k = st.start

theorem Stroke.positions_numbered (st : Stroke) : ∃ n g, st.Numbers n g ∧ st.positions = (List.range n).map g := by
  rw [Stroke.positions_eq]
  split
  · next h => exact ⟨_, _, .inl ⟨h, fun _ => rfl⟩, rfl⟩
  · next h => exact ⟨_, _, .inr ⟨by omega, fun k hk => by omega⟩, rfl⟩

/-- The columns of a stroke numbered in travel order, and the maximal runs of their numbers. -/
theorem State.openRuns_numbered (s : State) (b : Board) (st : Stroke) : ∃ (n : Nat) (g : Nat → Nat) (c : Nat → List Cell)
    (rs : List (Nat × Nat)), st.Numbers n g ∧ s.resolve b st = (List.range n).map (fun k => (g k, c k)) ∧
      openRuns (s.resolve b st) = rs.map (Prod.map g g) ∧ MaximalRuns (fun k => columnOpen (c k)) 0 n rs := by
  obtain ⟨n, g, numbers, positions⟩ := st.positions_numbered
  let c k := (st.column (g k)).map fun p => (s.lookup b.cls b.side p.1 p.2).cell b st.material
  have cols : s.resolve b st = (List.range n).map fun k => (g k, c k) := by
    rw [State.resolve, positions, List.map_map]; rfl
  refine ⟨n, g, c, openRuns ((List.range n).map fun k => (k, c k)), numbers, cols, ?_, ?_⟩
  · rw [cols]
    have renumbered : (List.range n).map (fun k => (g k, c k)) = ((List.range n).map fun k => (k, c k)).map (Prod.map g id) := by
      rw [List.map_map]; rfl
    rw [renumbered]
    exact runsFrom_map g _ none
  · have runs := runsFrom_maximal c n 0 0 (le_refl 0) fun k _ hk => by omega
    rwa [Nat.zero_add, runSince_self, ← List.range_eq_range'] at runs

section Positions
variable {st : Stroke} {n k : Nat} {g : Nat → Nat} {r : Nat × Nat}

/-- A column lies in a run exactly if its number does. -/
theorem Stroke.Numbers.mem_run (h : st.Numbers n g) (hr : r.1 ≤ r.2 ∧ r.2 < n) (hk : k < n) :
    (min (g r.1) (g r.2) ≤ g k ∧ g k ≤ max (g r.1) (g r.2)) ↔ r.1 ≤ k ∧ k ≤ r.2 := by
  obtain ⟨-, up⟩ | ⟨-, down⟩ := h
  · rw [up, up, up]; omega
  · have := down k hk; have := down r.1 (by omega); have := down r.2 (by omega)
    omega

/-- A column stands next to a run exactly if its number does. -/
theorem Stroke.Numbers.beside_run (h : st.Numbers n g) (hr : r.1 ≤ r.2 ∧ r.2 < n) (hk : k < n) :
    (g k + 1 = min (g r.1) (g r.2) ∨ g k = max (g r.1) (g r.2) + 1) ↔ k + 1 = r.1 ∨ k = r.2 + 1 := by
  obtain ⟨-, up⟩ | ⟨-, down⟩ := h
  · rw [up, up, up]; omega
  · have := down k hk; have := down r.1 (by omega); have := down r.2 (by omega)
    omega

theorem Stroke.Numbers.run_direction (h : st.Numbers n g) (hr : r.1 ≤ r.2 ∧ r.2 < n) :
    (st.start ≤ st.stop → g r.1 ≤ g r.2) ∧ (st.stop < st.start → g r.2 ≤ g r.1) := by
  obtain ⟨hst, up⟩ | ⟨hst, down⟩ := h
  · rw [up, up]; omega
  · have := down r.1 (by omega); have := down r.2 (by omega)
    omega

theorem Stroke.Numbers.runs_apart {q : Nat × Nat} (h : st.Numbers n g) (hr : r.2 < n) (hq : q.1 < n) (apart : r.2 + 1 < q.1) :
    if st.start ≤ st.stop then g r.2 + 1 < g q.1 else g q.1 + 1 < g r.2 := by
  obtain ⟨hst, up⟩ | ⟨hst, down⟩ := h
  · rw [if_pos hst, up, up]; omega
  · have := down r.2 hr; have := down q.1 hq
    rw [if_neg (by omega)]; omega

end Positions

/-- Settles O26: the maximal runs of the column numbers, read at the positions of the columns. -/
theorem openRuns_maximal : Obligations.OpenRuns := by
  unfold Obligations.OpenRuns
  intro s b st
  obtain ⟨n, g, c, rs, numbers, cols, runs, max⟩ := s.openRuns_numbered b st
  have bound (r) (hr : r ∈ rs) : r.1 ≤ r.2 ∧ r.2 < n := (max.inside r hr).2
  rw [cols] at runs ⊢
  simp only [runs, List.mem_range, List.mem_map, exists_exists_and_eq_and, forall_exists_index, and_imp,
    forall_apply_eq_imp_iff₂, List.pairwise_map, Prod.map_fst, Prod.map_snd]
  refine ⟨fun k hk => ⟨fun ho => ?_, fun ⟨r, hr, inRun⟩ => ?_⟩, fun r hr => ?_, ?_⟩
  · obtain ⟨r, hr, inRun⟩ := max.covers k (Nat.zero_le k) hk ho
    exact ⟨r, hr, (numbers.mem_run (bound r hr) hk).mpr inRun⟩
  · obtain ⟨first, last⟩ := (numbers.mem_run (bound r hr) hk).mp inRun
    exact max.opened r hr k first last
  · obtain ⟨ordered, below⟩ := bound r hr
    obtain ⟨up, down⟩ := numbers.run_direction (bound r hr)
    refine ⟨up, down, ⟨r.1, by omega, rfl⟩, ⟨r.2, below, rfl⟩, fun k hk beside => ?_⟩
    obtain first | rfl := (numbers.beside_run (bound r hr) hk).mp beside
    · exact max.before r hr k (Nat.zero_le k) first
    · exact max.after r hr hk
  · exact max.apart.imp_of_mem fun {r q} hr hq apart =>
      numbers.runs_apart (bound r hr).2 (Nat.lt_of_le_of_lt (bound q hq).1 (bound q hq).2) apart

end Sys2Proof.Machine
end

section
/-! The head takes the current stroke (O27): the wait for its applicator, a resolution with its gated-column total, and the
stroke sent, skipped or passed over. -/

namespace Sys2Proof.Machine

variable {s : State} {l : Fin 2} {slot : Nat} {b : Board} {st : Stroke} {cols : List (Nat × List Cell)}

/-! ## The gated-column total (R92) -/

theorem State.addGated_eq (hb : s.board slot = some b) (n : Nat) : s.addGated slot b n =
    if b.gated ≤ (s.cls b.cls).gateLimit ∧ (s.cls b.cls).gateLimit < min 65535 (b.gated + n) then
      (s.setBoard slot (some { b with gated := min 65535 (b.gated + n) })).raiseCore false slot 3
    else s.setBoard slot (some { b with gated := min 65535 (b.gated + n) }) := by
  simp only [State.addGated, State.modBoardQuiet_some hb]

theorem State.onlyAt_addGated (s : State) (k : Nat) (b : Board) (n : Nat) : State.OnlyAt k s (s.addGated k b n) := by
  unfold State.addGated
  dsimp only
  split
  · exact (State.onlyAt_modBoardQuiet k _).trans (State.onlyAt_raiseCore _ k _)
  · exact State.onlyAt_modBoardQuiet k _

/-- An operation on a board alone leaves the lanes as they are. -/
theorem State.OnlyAt.lane {t : State} {k : Nat} (h : State.OnlyAt k s t) (l : Fin 2) : t.lane l = s.lane l := by
  rw [h.rest]; rfl

/-! ## A stroke sent (R93) -/

theorem State.modUnit_board (s : State) (a : Fin 6) (f : Applicator → Applicator) (k : Nat) :
    (s.modUnit a f).board k = s.board k := by
  rw [State.modUnit_rest]; rfl

theorem State.modUnit_lane (s : State) (a : Fin 6) (f : Applicator → Applicator) (k : Fin 2) :
    (s.modUnit a f).lane k = s.lane k := by
  rw [State.modUnit_rest]; rfl

theorem State.modUnit_keepOut (s : State) (a : Fin 6) (f : Applicator → Applicator) :
    (s.modUnit a f).keepOut = s.keepOut := by
  rw [State.modUnit_rest]

/-- The state of a stroke sent before its operation is: the hits counted, the clamp marked and the applicator SPRAYING. -/
def State.sprayed (s : State) (slot : Nat) (b : Board) (st : Stroke) (cols : List (Nat × List Cell)) : State :=
  ((s.countHits cols).setBoard slot (some { b with
    flowClamped := b.flowClamped || decide ((s.cls b.cls).flowCap < st.flow) })).modUnit st.applicator fun r =>
      { r with need := none, state := .spraying }

theorem State.sendStroke_eq (hb : s.board slot = some b) : s.sendStroke l slot b st cols =
    (s.sprayed slot b st cols).sendOp l .stroke st.applicator (s.cls b.cls).timeout
      (some ⟨slot, (s.lane l).arming.current, false, st.material, st.lastUse⟩)
      (.stroke st.applicator st.material st.axis st.fixed st.start st.stop st.swath (min st.flow (s.cls b.cls).flowCap)
        (openRuns cols)) := by
  have board : (s.countHits cols).board slot = some b := hb
  simp only [State.sendStroke, State.modBoardQuiet_some board]
  rfl

theorem State.sprayed_board (k : Nat) : (s.sprayed slot b st cols).board k = if k = slot then
    some { b with flowClamped := b.flowClamped || decide ((s.cls b.cls).flowCap < st.flow) } else s.board k := by
  rw [State.sprayed, State.modUnit_board, State.setBoard_board]; rfl

theorem State.sprayed_unit (a : Fin 6) : (s.sprayed slot b st cols).unit a = if a = st.applicator then
    { s.unit st.applicator with need := none, state := .spraying } else s.unit a := by
  rw [State.sprayed, State.modUnit_unit]; rfl

theorem State.sprayed_lane (k : Fin 2) : (s.sprayed slot b st cols).lane k = s.lane k := by
  rw [State.sprayed, State.modUnit_lane]; rfl

/-- Of the board, a stroke sent reads the class alone besides what stands in the slot. -/
theorem State.sendStroke_congr {b' : Board} (h : b'.cls = b.cls) :
    s.sendStroke l slot b' st cols = s.sendStroke l slot b st cols := by
  simp only [State.sendStroke, h]

/-! ## A SPRAYING board judged, and a stroke passed over or skipped (R91 to R94) -/

theorem State.judge_marked (hb : s.board slot = some b) (hm : b.mark ≠ none) (k : State → State) :
    s.judge l slot k = s.abandon l slot := by
  simp only [State.judge, hb, Option.isSome_iff_ne_none.mpr hm, if_true]

theorem State.judge_blocked (hb : s.board slot = some b) (hm : b.mark = none) (hk : s.blocked b = true)
    (k : State → State) : s.judge l slot k = s.stopLane l := by
  simp [State.judge, hb, hm, hk]

theorem State.judge_goesOn (hb : s.board slot = some b) (hm : b.mark = none) (hk : s.blocked b = false)
    (k : State → State) : s.judge l slot k = k s := by
  simp [State.judge, hb, hm, hk]

/-- What a stroke passed over or skipped leaves before terminal count: its automatic purge queued, the index moved on. -/
def State.passed (s : State) (l : Fin 2) (st : Stroke) : State :=
  (if st.lastUse = true ∧ s.queued st.applicator = false then
    s.enqueue ⟨st.applicator, .purge, (s.unit st.applicator).material, .automatic⟩ else s).modLane l fun r =>
      { r with arming := { r.arming with current := r.arming.current + 1, remaining := r.arming.remaining - 1 } }

theorem State.lastUse_advance (s : State) (l : Fin 2) (st : Stroke) : (s.lastUse st).advance l = s.passed l st := by
  rw [State.lastUse, State.autoPurge_of_lastUse]; rfl

theorem State.passed_board (k : Nat) : (s.passed l st).board k = s.board k := by
  unfold State.passed; split <;> rfl

theorem State.passed_blocked (b : Board) : (s.passed l st).blocked b = s.blocked b := by
  unfold State.passed; split <;> rfl

theorem State.passed_remaining : ((s.passed l st).lane l).arming.remaining = (s.lane l).arming.remaining - 1 := by
  rw [State.passed, State.modLane_lane, if_pos rfl]
  split <;> rfl

theorem State.afterAdvance_passed {n : Nat} (hn : (s.lane l).arming.remaining = n) (k : State → State) :
    (s.passed l st).afterAdvance l slot k =
      if n ≤ 1 then (s.passed l st).terminal l slot else k (s.passed l st) := by
  rw [State.afterAdvance, State.passed_remaining, hn]
  exact if_congr Nat.sub_eq_zero_iff_le rfl rfl

/-- After an advance the loop goes on for a board that is neither marked nor blocked. -/
theorem State.afterAdvance_judge {n : Nat} (hb : s.board slot = some b) (hm : b.mark = none) (hk : s.blocked b = false)
    (hn : (s.lane l).arming.remaining = n) : (s.passed l st).afterAdvance l slot (fun v => v.judge l slot id) =
      if n ≤ 1 then (s.passed l st).terminal l slot else s.passed l st := by
  have goesOn := State.judge_goesOn (l := l) ((s.passed_board (l := l) (st := st) slot).trans hb) hm
    ((State.passed_blocked b).trans hk) id
  exact (State.afterAdvance_passed hn _).trans (congrArg (ite _ _) goesOn)

theorem State.skipStroke_eq {n : Nat} (hb : s.board slot = some b) (hm : b.mark = none) (hk : s.blocked b = false)
    (hn : (s.lane l).arming.remaining = n) : s.skipStroke l slot st cols =
      (let u := (s.countHits cols).setBoard slot (some { b with strokesDone := b.strokesDone + 1 })
      if n ≤ 1 then (u.passed l st).terminal l slot else u.passed l st) := by
  have board : (s.countHits cols).board slot = some b := hb
  have counted := ((s.countHits cols).setBoard_board slot slot (some { b with strokesDone := b.strokesDone + 1 })).trans
    (if_pos rfl)
  rw [State.skipStroke, State.modBoardQuiet_some board, State.lastUse_advance]
  exact State.afterAdvance_judge counted hm hk hn

/-! ## The head takes the stroke (R90, R91) -/

theorem State.takeStroke_ready (h : s.atSprayPos l slot b)
    (hr : s.ready (s.currentStroke l).applicator (s.currentStroke l).material = true) :
    s.takeStroke l = s.resolveStroke l slot b (s.currentStroke l) := by
  simp only [State.takeStroke, (s.sprayBoard_eq_some l slot b).mpr h, hr, if_true]

theorem State.takeStroke_notReady (h : s.atSprayPos l slot b)
    (hr : ¬s.ready (s.currentStroke l).applicator (s.currentStroke l).material = true) :
    s.takeStroke l = s.awaitApp l (s.currentStroke l) := by
  simp only [State.takeStroke, (s.sprayBoard_eq_some l slot b).mpr h, if_neg hr]

/-- R90: a RUNNING lane waits, with the need set where AUTO_MATERIAL is on. -/
theorem State.awaitApp_eq (h : (s.lane l).status = .running) : s.awaitApp l st =
    (let w := (s.setLane l { s.lane l with status := .waitApplicator }).post (.lane l)
    if (s.lane l).arming.auto = true then
      (w.setUnit st.applicator { s.unit st.applicator with need := some st.material }).autoStep st.applicator
    else w) := by
  have waits := State.setStatus_new (s := s) (l := l) (st := .waitApplicator) (by rw [h]; exact LaneStatus.noConfusion)
  have lane := (s.setStatus_lane l l .waitApplicator).trans (if_pos rfl)
  have unit : (s.setStatus l .waitApplicator).unit st.applicator = s.unit st.applicator := by
    rw [waits, State.post_unit]; rfl
  have need : (s.setStatus l .waitApplicator).modUnit st.applicator (fun r => { r with need := some st.material }) =
      (s.setStatus l .waitApplicator).setUnit st.applicator { s.unit st.applicator with need := some st.material } := by
    simp [State.modUnit, Applicator.noticed, unit]
  simp only [State.awaitApp, need, lane]
  rw [waits]

/-- R91: more than 16 open runs. -/
theorem State.resolveStroke_fragmented (h : 16 < (openRuns (s.resolve b st)).length) : s.resolveStroke l slot b st =
    (s.raiseCore false slot 4).judge l slot fun u => (u.passed l st).afterAdvance l slot id := by
  simp only [State.resolveStroke, Config.runLimit, h, if_true, State.fragmented, State.lastUse_advance]

theorem State.resolveStroke_resolved (h : (openRuns (s.resolve b st)).length ≤ 16) : s.resolveStroke l slot b st =
    (s.addGated slot b (closedColumns (s.resolve b st))).judge l slot fun u =>
      if openRuns (s.resolve b st) = [] then u.skipStroke l slot st (s.resolve b st)
      else u.sendStroke l slot b st (s.resolve b st) := by
  simp only [State.resolveStroke, Config.runLimit, not_lt.mpr h, if_false, List.length_eq_zero_iff]

/-- Settles O27: the total, the stroke sent field by field, and the taking of a stroke by its applicator, its resolution and
the board's mark and holds. -/
theorem strokeSending : Obligations.StrokeSending := by
  unfold Obligations.StrokeSending
  refine ⟨fun s slot n b hb => ⟨fun h1 h2 => ?_, fun h => ?_⟩, fun s l slot b st cols hb => ?_, fun s l slot b h => ?_⟩
  · exact (State.addGated_eq hb n).trans (if_pos ⟨h1, h2⟩)
  · exact (State.addGated_eq hb n).trans (if_neg h)
  · rw [State.sendStroke_eq hb]
    refine ⟨State.modUnit_keepOut _ _ _, (State.sprayed_board slot).trans (if_pos rfl),
      fun k hk => (State.sprayed_board k).trans (if_neg hk), (State.sprayed_unit _).trans (if_pos rfl),
      fun a ha => (State.sprayed_unit a).trans (if_neg ha), fun k hk => ?_, ?_⟩
    · exact (State.modLane_lane _ l k _).trans ((if_neg hk).trans (State.sprayed_lane k))
    · refine (State.modLane_lane _ l l _).trans ((if_pos rfl).trans ?_)
      rw [State.sprayed_lane]; rfl
  · intro st a ready cols ended
    have ready_iff : ready ↔ s.ready a st.material = true := State.ready_iff.symm
    obtain ⟨-, hb, -⟩ := id h
    refine ⟨fun running notReady => ?_, fun hr many => ?_, fun hr few => ?_⟩
    · exact (State.takeStroke_notReady h (mt ready_iff.mpr notReady)).trans (State.awaitApp_eq running)
    · have take := (State.takeStroke_ready h (ready_iff.mp hr)).trans (State.resolveStroke_fragmented many)
      obtain ⟨b', hb', -⟩ := (Evolves.refl.raiseCore false slot 4).board_kept hb
      have remaining := congrArg (fun r : Lane => r.arming.remaining) ((State.onlyAt_raiseCore (s := s) false slot 4).lane l)
      refine ⟨b', hb', fun hm => take.trans (State.judge_marked hb' hm _),
        fun hm hk => take.trans (State.judge_blocked hb' hm hk _), fun hm hk => ?_⟩
      exact (take.trans (State.judge_goesOn hb' hm hk _)).trans (State.afterAdvance_passed remaining id)
    · have take := (State.takeStroke_ready h (ready_iff.mp hr)).trans (State.resolveStroke_resolved few)
      obtain ⟨b', hb', kept⟩ := (Evolves.refl.addGated slot b (closedColumns cols)).board_kept hb
      have remaining := congrArg (fun r : Lane => r.arming.remaining)
        ((s.onlyAt_addGated slot b (closedColumns cols)).lane l)
      refine ⟨b', hb', fun hm => take.trans (State.judge_marked hb' hm _),
        fun hm hk => take.trans (State.judge_blocked hb' hm hk _), fun hm hk => ?_⟩
      have goesOn := take.trans (State.judge_goesOn hb' hm hk _)
      refine ⟨fun runs => goesOn.trans ((if_neg runs).trans (State.sendStroke_congr kept.cls.symm)), fun noRun => ?_⟩
      exact goesOn.trans ((if_pos noRun).trans (State.skipStroke_eq hb' hm hk remaining))

end Sys2Proof.Machine
end

section
/-! Late head replies and the begin of an operation's deadline (O30). -/

namespace Sys2Proof.Machine

variable {s : State} {l : Fin 2}

/-- Writing the record that a lane has changes nothing. -/
theorem State.setLane_self (s : State) (l : Fin 2) : s.setLane l (s.lane l) = s := by
  simp only [State.setLane, State.lane, Vector.get_eq_getElem, Vector.set_getElem_self]

/-- R97: a reply that no operation in flight waits for ends nothing and is recorded. -/
theorem State.headReply_unmatched {n : Nat} (h : ∀ o, (s.lane l).op = some o → o.opId ≠ n) (e : OpEnd) :
    s.headReply l n e = s.lateReply l n (decide (e ≠ .done)) := by
  unfold State.headReply
  split
  · rfl
  · next o ho => exact if_neg (h o ho)

theorem State.headDeadline_notBegun (h : ∀ o, (s.lane l).op = some o → o.deadline = none) : s.headDeadline l = s := by
  unfold State.headDeadline
  split
  · rfl
  · next o ho => rw [h o ho]

/-- R179: the deadline of the operation whose command has been sent begins. -/
theorem State.commandSent_begins {o : HeadOp} {n : Nat} (ho : (s.lane l).op = some o) (hn : o.opId = n)
    (hd : o.deadline = none) :
    s.commandSent l n = s.setLane l { s.lane l with op := some { o with deadline := some (s.clock + o.span) } } := by
  simp [State.commandSent, State.modLane, ho, hn, hd]

/-- A command of another operation, or of one whose deadline runs, begins nothing. -/
theorem State.commandSent_other {n : Nat} (h : ∀ o, (s.lane l).op = some o → o.opId ≠ n ∨ o.deadline ≠ none) :
    s.commandSent l n = s := by
  have same : ((s.lane l).op.map fun o =>
      if o.opId = n ∧ o.deadline.isNone then { o with deadline := some (s.clock + o.span) } else o) = (s.lane l).op := by
    cases ho : (s.lane l).op with
    | none => rfl
    | some o =>
      refine congrArg some (if_neg fun ⟨hn, hd⟩ => ?_)
      exact (h o ho).elim (· hn) (· (Option.isNone_iff_eq_none.mp hd))
  rw [State.commandSent, State.modLane, same]
  exact s.setLane_self l

/-- Settles O30: a reply by whether it matches the operation in flight, a deadline by whether it has begun. -/
theorem headLinkEvents : Obligations.HeadLinkEvents := by
  unfold Obligations.HeadLinkEvents
  refine ⟨fun l op kind s => ⟨fun hi => ?_, fun hi late => ?_, fun notBegun => ?_⟩, fun l op s =>
    ⟨fun o ho hn hd => ?_, fun other => ?_⟩⟩
  · exact ⟨congrArg Host.Outcome.next (if_pos hi), congrArg Host.Outcome.next (if_pos hi)⟩
  · exact ⟨congrArg Host.Outcome.next ((if_neg hi).trans (State.headReply_unmatched late _)),
      congrArg Host.Outcome.next ((if_neg hi).trans (State.headReply_unmatched late _))⟩
  · exact congrArg Host.Outcome.next (State.headDeadline_notBegun notBegun)
  · exact congrArg Host.Outcome.next (State.commandSent_begins ho hn hd)
  · exact congrArg Host.Outcome.next (State.commandSent_other other)

end Sys2Proof.Machine
end

section
/-! Requests about one board, refused at their first failing test; and CRITERION_WRITE and CRITERION_READ (O31). -/

namespace Sys2Proof.Machine

variable {s : State}

/-! ## Requests about one board -/

/-- How a request about the board of a slot is refused whose tests are the mode, its ranges, the board, and further tests of
that board. -/
theorem State.request_refused {i : Instr} {kind slot : Nat} {f : Header → State → State} {range : Prop} [Decidable range]
    {ts : List (Bool × ResultCode)} {code : ResultCode}
    (h : firstFailure ((decide (s.line.mode ≠ .initializing), .wrongMode) :: (decide range, .outOfRange) ::
      ((s.board slot).isSome, .notFound) :: ts) = some code)
    (outOfRange : ¬range → f (s.header i) (s.take i) = s.replied i kind .outOfRange .empty)
    (notFound : range → s.board slot = none → f (s.header i) (s.take i) = s.replied i kind .notFound .empty)
    (refused : range → ∀ b, s.board slot = some b → firstFailure ts = some code →
      f (s.header i) (s.take i) = s.replied i kind code .empty) :
    s.request i (fun d u => u.unlessInit d kind (f d)) = .next (s.replied i kind code .empty) := by
  simp only [firstFailure_cons, decide_eq_true_eq] at h
  rw [State.request_unlessInit]
  refine congrArg Host.Outcome.next ?_
  split_ifs at h with hmode hrange hsome
  · obtain ⟨b, hb⟩ := Option.isSome_iff_exists.mp hsome
    exact (if_neg hmode).trans (refused hrange b hb h)
  · cases h
    exact (if_neg hmode).trans (notFound hrange (Option.not_isSome_iff_eq_none.mp hsome))
  · cases h
    exact (if_neg hmode).trans (outOfRange hrange)
  · cases h
    exact if_pos (not_not.mp hmode)

theorem State.request_passed {i : Instr} {kind : Nat} {f : Header → State → State} (hmode : s.line.mode ≠ .initializing) :
    s.request i (fun d u => u.unlessInit d kind (f d)) = .next (f (s.header i) (s.take i)) := by
  rw [State.request_unlessInit, if_neg hmode]

/-- A table of one test fails where that test does, with its code. -/
theorem firstFailure_single {x : Bool} {c code : ResultCode} (h : firstFailure [(x, c)] = some code) :
    x = false ∧ code = c := by
  cases x
  · exact ⟨rfl, (Option.some.inj h).symm⟩
  · cases h

/-! ## The fields of a criterion (R114) -/

theorem sideSelOf_isSome (n : Nat) : (sideSelOf n).isSome = decide (n ≤ 2) :=
  match n with
  | 0 => rfl
  | 1 => rfl
  | 2 => rfl
  | n + 3 => (decide_eq_false (by omega)).symm

theorem criterion_inRange {f : CriterionFields} :
    (decide (f.cls ≤ 48) && decide (f.kind ≤ 5) && decide (f.threshold ≤ 16) && within 8 9 f.reason) = true ↔
      f.cls ≤ 48 ∧ f.kind ≤ 5 ∧ f.threshold ≤ 16 ∧ (f.reason = 8 ∨ f.reason = 9) := by
  simp only [Bool.and_eq_true, decide_eq_true_eq]
  omega

theorem readCriterion_isSome {f : CriterionFields} (h : (readCriterion f).isSome) :
    f.cls ≤ 48 ∧ f.kind ≤ 5 ∧ f.side ≤ 2 ∧ f.keepOutOnly ≤ 1 ∧ f.threshold ≤ 16 ∧ (f.reason = 8 ∨ f.reason = 9) := by
  have side := sideSelOf_isSome f.side
  have only := flagOf_isSome f.keepOutOnly
  unfold readCriterion at h
  split at h
  next hs ho =>
    rw [hs] at side
    rw [ho] at only
    split at h
    next hr =>
      obtain ⟨cls, kind, threshold, reason⟩ := criterion_inRange.mp hr
      exact ⟨cls, kind, of_decide_eq_true side.symm, of_decide_eq_true only.symm, threshold, reason⟩
    next => cases h
  next => cases h

theorem readCriterion_of {f : CriterionFields} {side : SideSel} (hs : sideSelOf f.side = some side) (ho : f.keepOutOnly ≤ 1)
    (hr : f.cls ≤ 48 ∧ f.kind ≤ 5 ∧ f.threshold ≤ 16 ∧ (f.reason = 8 ∨ f.reason = 9)) :
    readCriterion f = some ⟨f.cls, f.kind, side, decide (f.keepOutOnly = 1), f.threshold, f.reason⟩ := by
  simp only [readCriterion, hs, flagOf_of_le ho, criterion_inRange.mpr hr, if_true]

/-! ## The requests -/

theorem Board.setTally_tally (i n j : Nat) (b : Board) : (b.setTally i n).tally j = if j = i then n else b.tally j :=
  Table.read_write _ _ _ _ _

theorem execCriterionWrite_outOfRange {t : Byte} {k : Nat} {f : CriterionFields} (hmode : s.line.mode ≠ .initializing)
    (hr : ¬(k < 32 ∧ f.cls ≤ 48 ∧ f.kind ≤ 5 ∧ f.side ≤ 2 ∧ f.keepOutOnly ≤ 1 ∧ f.threshold ≤ 16 ∧
      (f.reason = 8 ∨ f.reason = 9))) :
    execCriterionWrite t k f s = .next (s.replied (.criterionWrite t k f) 0x18 .outOfRange .empty) := by
  rw [execCriterionWrite, State.request_passed hmode]
  split
  · rfl
  next c hread =>
    rw [if_neg fun hk => hr ⟨hk, readCriterion_isSome (by rw [hread]; rfl)⟩]
    rfl

/-- R114: the criterion replaced, and its tally 0 on every board. -/
theorem execCriterionWrite_accepted {t : Byte} {k : Nat} {f : CriterionFields} {c : Criterion}
    (hmode : s.line.mode ≠ .initializing) (hk : k < 32) (hc : readCriterion f = some c) :
    execCriterionWrite t k f s =
      let i : Instr := .criterionWrite t k f
      .next ((((s.take i).setCriterion k c).mapBoards (Board.setTally k 0)).answer (s.header i) 0x18 .ok
        (.criterionWrite k (s.boards.countP fun p => decide (0 < p.2.tally k)))) := by
  rw [execCriterionWrite, State.request_passed hmode, hc]
  exact congrArg Host.Outcome.next (if_pos hk)

theorem execCriterionRead_eq {t : Byte} {k : Nat} (hmode : s.line.mode ≠ .initializing) :
    execCriterionRead t k s =
      let i : Instr := .criterionRead t k
      .next (if k < 32 then s.replied i 0x19 .ok (.criterionRead (s.criterion k) (s.reachedCount k))
        else s.replied i 0x19 .outOfRange .empty) := by
  rw [execCriterionRead, State.request_passed hmode]
  rfl

/-- Settles O31: the write is one criterion and one sweep of the boards, the read a reply. -/
theorem criteria : Obligations.Criteria := by
  unfold Obligations.Criteria
  intro t k f s write read
  refine ⟨fun hm => ⟨congrArg Host.Outcome.next (if_pos hm), congrArg Host.Outcome.next (if_pos hm)⟩,
    fun hm => ⟨execCriterionWrite_outOfRange hm, fun hk => ?_, fun hk => ?_, ?_⟩⟩
  · exact (execCriterionRead_eq hm).trans (congrArg Host.Outcome.next (if_neg (not_lt.mpr hk)))
  · exact (execCriterionRead_eq hm).trans (congrArg Host.Outcome.next (if_pos hk))
  · intro side hs hk hcls hkind ho ht hr c
    refine ⟨((s.take write).setCriterion k c).mapBoards (Board.setTally k 0), ?_, rfl,
      fun j => State.setCriterion_criterion _ k j c, fun slot => State.mapBoards_board _ slot,
      fun b j => b.setTally_tally k 0 j⟩
    exact execCriterionWrite_accepted hm hk (readCriterion_of hs ho ⟨hcls, hkind, ht, hr⟩)

end Sys2Proof.Machine
end

section
/-! INSPECT_DONE, the OVEN_READY test and its end, the flash and open timers (O34). -/

namespace Sys2Proof.Machine

variable {s : State} {slot : Nat} {b : Board}

/-! ## The OVEN_READY test (R126) -/

theorem Location.isBay_iff (x : Location) : x.isBay = true ↔ ∃ n, x = .bay n := by
  cases x <;> simp [Location.isBay]

theorem State.readyForOven_iff : s.readyForOven b = true ↔
    (∃ n, b.loc = .bay n) ∧ (∃ d, b.flashReady = some d ∧ d ≤ s.clock) ∧
      ((s.cls b.cls).inspect = false ∨ b.inspectDone = true) ∧ s.blocked b = false ∧ b.mark = none := by
  simp [State.readyForOven, Location.isBay_iff, State.gateOpen, Option.any_eq_true, and_assoc]

theorem State.testReady_ready (hb : s.board slot = some b) (hl : b.life = .flashing) (h : s.readyForOven b = true) :
    s.testReady slot = (s.setBoard slot (some { b with life := .ovenReady })).post (.board slot) := by
  simp only [State.testReady, hb]
  rw [if_pos ⟨hl, h⟩]
  exact s.modBoard_noticed hb (Board.noticed_of_life (by rw [hl]; exact LifeState.noConfusion))

theorem State.testReady_not (hb : s.board slot = some b) (h : ¬(b.life = .flashing ∧ s.readyForOven b = true)) :
    s.testReady slot = s := by
  simp only [State.testReady, hb]
  exact if_neg h

/-! ## INSPECT_DONE (R117) -/

theorem Board.takesFindings_eq (b : Board) : b.takesFindings = decide (b.life = .flashing ∨ b.life = .ovenReady) :=
  (Bool.decide_or _ _).symm

theorem execInspectDone_refused {t : Byte} {code : ResultCode}
    (h : firstFailure [
      (decide (s.line.mode ≠ .initializing), .wrongMode),
      (decide (slot < 32), .outOfRange),
      ((s.board slot).isSome, .notFound),
      ((s.board slot).any fun b => decide (b.life = .flashing ∨ b.life = .ovenReady), .wrongState)] = some code) :
    execInspectDone t slot s = .next (s.replied (.inspectDone t slot) 0x36 code .empty) := by
  refine State.request_refused h (fun hslot => if_pos (slotOk_iff.mpr (not_lt.mp hslot))) (fun hslot hb => ?_)
    fun hslot b hb hts => ?_
  · simp only [if_neg (slotOk_iff.not.mpr (not_le.mpr hslot)), State.take_board, hb]
    rfl
  · obtain ⟨closed, rfl⟩ := firstFailure_single hts
    rw [hb, Option.any_some, ← b.takesFindings_eq] at closed
    simp only [if_neg (slotOk_iff.not.mpr (not_le.mpr hslot)), State.take_board, hb, closed, Bool.not_false, if_true]
    rfl

theorem execInspectDone_accepted {t : Byte} (hmode : s.line.mode ≠ .initializing) (hslot : slot < 32)
    (hb : s.board slot = some b) (hl : b.life = .flashing ∨ b.life = .ovenReady) :
    execInspectDone t slot s =
      let i : Instr := .inspectDone t slot
      let u := (s.take i).setBoard slot (some { b with inspectDone := true })
      .next (((if b.inspectDone then u else u.testReady slot).answer (s.header i) 0x36 .ok
        (.inspectDone slot b.tag b.inspectDone)).settle false (s.take i)) := by
  have opened : b.takesFindings = true := b.takesFindings_eq.trans (decide_eq_true hl)
  have board (i : Instr) : (s.take i).board slot = some b := hb
  rw [execInspectDone, State.request_passed hmode]
  simp only [if_neg (slotOk_iff.not.mpr (not_le.mpr hslot)), board, opened, Bool.not_true, Bool.false_eq_true, if_false,
    State.modBoardQuiet_some (board _)]

/-! ## The flash-ready time and the open deadline (R124) -/

theorem State.flashReached_idle (h : ∀ b, s.board slot = some b → b.flashArmed = false ∨ b.flashReady = none) :
    s.flashReached slot = s := by
  have none : ((s.board slot).bind fun b => if b.flashArmed then b.flashReady else none) = none := by
    rw [Option.bind_eq_none_iff]
    intro b hb
    obtain off | off := h b hb <;> simp [off]
  simp only [State.flashReached, none]

theorem State.flashReached_due {d : Nat} (hb : s.board slot = some b) (ha : b.flashArmed = true)
    (hd : b.flashReady = some d) : s.flashReached slot =
      (((s.reach d).setBoard slot (some { b with flashArmed := false })).testReady slot).settle false s := by
  have board : (s.reach d).board slot = some b := hb
  simp only [State.flashReached, hb, Option.bind_some, ha, if_true, hd, State.modBoardQuiet_some board]

theorem Board.openRuns_iff (b : Board) : b.openRuns = true ↔
    b.openArmed = true ∧ b.mark = none ∧ (b.life = .flashing ∨ b.life = .ovenReady) := by
  simp [Board.openRuns, and_assoc]

theorem State.openReached_idle (h : ∀ b, s.board slot = some b → b.openArmed = false ∨ b.openDeadline = none ∨
    b.mark ≠ none ∨ b.life ≠ .flashing ∧ b.life ≠ .ovenReady) : s.openReached slot = s := by
  have none : ((s.board slot).bind fun b => if b.openRuns then b.openDeadline else none) = none := by
    rw [Option.bind_eq_none_iff]
    intro b hb
    split
    next runs =>
      obtain ⟨armed, unmarked, waits⟩ := b.openRuns_iff.mp runs
      obtain off | absent | marked | ⟨notFlashing, notReady⟩ := h b hb
      · exact absurd armed (Bool.eq_false_iff.mp off)
      · exact absent
      · exact absurd unmarked marked
      · exact (waits.elim notFlashing notReady).elim
    next => rfl
  simp only [State.openReached, none]

theorem State.openReached_due {d : Nat} (hb : s.board slot = some b) (hr : b.openRuns = true)
    (hd : b.openDeadline = some d) : s.openReached slot =
      if s.admitting slot then s.reach d else ((s.reach d).openExpiry slot).settle false s := by
  simp only [State.openReached, hb, Option.bind_some, hr, if_true, hd]

/-- R124: OPEN_TIME raised once, and the end of OVEN_READY where the raise has it end. -/
theorem State.openExpiry_eq (hb : s.board slot = some b) : s.openExpiry slot =
    ((s.setBoard slot (some { b with openArmed := false })).raiseCore false slot 7).leaveReady slot := by
  rw [State.openExpiry, State.modBoardQuiet_some hb]

theorem State.heldOver_eq (hb : s.board slot = some b) : s.heldOver slot =
    if b.openRuns ∧ b.openDeadline.any (fun d => decide (d ≤ s.clock)) then s.openExpiry slot else s := by
  simp only [State.heldOver, hb]

/-- What has an expiry that was held over taken when the admission ends. -/
theorem State.heldOver_iff : (b.openRuns = true ∧ b.openDeadline.any (fun d => decide (d ≤ s.clock)) = true) ↔
    b.openArmed = true ∧ b.mark = none ∧ (b.life = .flashing ∨ b.life = .ovenReady) ∧
      ∃ d, b.openDeadline = some d ∧ d ≤ s.clock := by
  simp [Board.openRuns_iff, Option.any_eq_true, and_assoc]

/-- Settles O34: INSPECT_DONE by its tests, the OVEN_READY test by its five conditions, each timer by whether it runs. -/
theorem readinessOfABoard : Obligations.ReadinessOfABoard := by
  unfold Obligations.ReadinessOfABoard
  refine ⟨fun t slot s => ⟨fun code h => execInspectDone_refused h, fun b hm hk hb hl => execInspectDone_accepted hm hk hb hl⟩,
    fun s slot b hb => ⟨fun h => ?_, fun h => ?_⟩, fun slot s => ⟨fun h => ?_, fun b d hb ha hd => ?_, fun h => ?_,
      fun b d hb ha hd hm hl => ⟨fun busy => ?_, fun free => ?_⟩⟩, fun s slot b hb => ⟨fun h => ?_, fun h => ?_, fun h => ?_,
      fun h => ?_⟩⟩
  · obtain ⟨flashing, ready⟩ := h
    exact State.testReady_ready hb flashing (State.readyForOven_iff.mpr ready)
  · exact State.testReady_not hb fun ⟨flashing, ready⟩ => h ⟨flashing, State.readyForOven_iff.mp ready⟩
  · exact congrArg Host.Outcome.next (State.flashReached_idle h)
  · exact congrArg Host.Outcome.next (State.flashReached_due hb ha hd)
  · exact congrArg Host.Outcome.next (State.openReached_idle h)
  · have due := State.openReached_due hb (b.openRuns_iff.mpr ⟨ha, hm, hl⟩) hd
    exact congrArg Host.Outcome.next (due.trans (if_pos busy))
  · have due := State.openReached_due hb (b.openRuns_iff.mpr ⟨ha, hm, hl⟩) hd
    have expires := State.openExpiry_eq (s := s.reach d) hb
    exact congrArg Host.Outcome.next (due.trans (by rw [if_neg (Bool.eq_false_iff.mp free), expires]))
  · obtain ⟨ready, ceased⟩ := h
    exact State.leaveReady_ceased hb ready ceased
  · exact State.leaveReady_of hb (not_and_or.mp h)
  · rw [State.heldOver_eq hb, if_pos (State.heldOver_iff.mpr h), State.openExpiry_eq hb]
  · rw [State.heldOver_eq hb, if_neg (mt State.heldOver_iff.mp h)]

end Sys2Proof.Machine
end

section
/-! A board written and written again: of two writes of one slot the last counts, and a board that stands in its place in the
table is written there again without a change. -/

namespace Sys2Proof.Machine

variable {s : State}

theorem Table.put_put_same {α : Type} (i : Nat) (v w : α) (t : Table α) :
    Table.put i v (Table.put i w t) = Table.put i v t := by
  induction t with
  | nil => simp [Table.put]
  | cons p t ih =>
    obtain ⟨j, x⟩ := p
    obtain h | rfl | h := Nat.lt_trichotomy i j
    · simp [Table.put, h]
    · simp [Table.put]
    · simp [Table.put, h.not_gt, h.ne', ih]

/-- A record that stands in its place keeps it when another number is written. -/
theorem Table.put_put_placed {α : Type} {i j : Nat} (hij : i ≠ j) {v w : α} {t : Table α} (h : Table.put i v t = t) :
    Table.put i v (Table.put j w t) = Table.put j w t := by
  induction t with
  | nil => cases h
  | cons p t ih =>
    obtain ⟨k, x⟩ := p
    obtain hik | rfl | hik := Nat.lt_trichotomy i k
    · simp [Table.put, hik] at h
    · have hv : v = x := by simpa [Table.put] using h
      obtain hj | hj := Nat.lt_or_gt_of_ne hij
      · simp [Table.put, hj.not_gt, hj.ne', hv]
      · simp [Table.put, hj, hj.not_gt, hj.ne', hv]
    · have tail : Table.put i v t = t := by simpa [Table.put, hik.not_gt, hik.ne'] using h
      obtain hj | rfl | hj := Nat.lt_trichotomy j k
      · obtain hji | hji := Nat.lt_or_gt_of_ne hij
        · omega
        · simp [Table.put, hj, hji.not_gt, hij, hik.not_gt, hik.ne', tail]
      · simp [Table.put, hik.not_gt, hik.ne', tail]
      · simp [Table.put, hj.not_gt, hj.ne', hik.not_gt, hik.ne', ih tail]

theorem State.setBoard_some (k : Nat) (b : Board) : s.setBoard k (some b) =
    { s with tracker := { s.tracker with boards := Table.put k (some b) s.tracker.boards } } := rfl

theorem State.setBoard_setBoard (k : Nat) (b b' : Board) :
    (s.setBoard k (some b)).setBoard k (some b') = s.setBoard k (some b') := by
  simp only [State.setBoard_some, Table.put_put_same]

theorem State.modBoardQuiet_setBoard (k : Nat) (b : Board) (f : Board → Board) :
    (s.setBoard k (some b)).modBoardQuiet k f = s.setBoard k (some (f b)) := by
  rw [State.modBoardQuiet_some ((s.setBoard_board k k (some b)).trans (if_pos rfl)), State.setBoard_setBoard]

/-- Slot `k` holds the board `b`, and the table lists it where a write would put it. -/
def State.Placed (k : Nat) (b : Board) (s : State) : Prop := Table.put k (some b) s.tracker.boards = s.tracker.boards

theorem State.placed_setBoard (k : Nat) (b : Board) : (s.setBoard k (some b)).Placed k b := Table.put_put_same _ _ _ _

theorem State.Placed.board {k : Nat} {b : Board} (h : s.Placed k b) : s.board k = some b := by
  have read := Table.read_put_same (fun _ => none) k (some b) s.tracker.boards
  rwa [h] at read

theorem State.Placed.modBoardQuiet {k : Nat} {b : Board} (h : s.Placed k b) {f : Board → Board} (hf : f b = b) :
    s.modBoardQuiet k f = s := by
  rw [State.modBoardQuiet_some h.board, hf, State.setBoard_some, h]

/-- The shared operations leave a board in its place. -/
theorem Evolves.placed {s0 : State} (h : Evolves s0 s) {k : Nat} (hp : ∃ b, s0.Placed k b) : ∃ b, s.Placed k b := by
  induction h with
  | refl => exact hp
  | post _ n ih => rw [State.post_record]; exact ih
  | @setBoard u _ j _ b' _ _ ih =>
    obtain ⟨b, placed⟩ := ih
    by_cases e : k = j
    · subst e; exact ⟨b', u.placed_setBoard k b'⟩
    · exact ⟨b, Table.put_put_placed e placed⟩
  | _ => assumption

end Sys2Proof.Machine
end

section
/-! HOLD and HOLD_RELEASE (O43). -/

namespace Sys2Proof.Machine

variable {s : State} {slot : Nat} {b : Board}

/-! ## HOLD (R157) -/

theorem execHold_refused {t : Byte} {code : ResultCode}
    (h : firstFailure [(decide (s.line.mode ≠ .initializing), .wrongMode), (decide (slot < 32), .outOfRange),
      ((s.board slot).isSome, .notFound)] = some code) :
    execHold t slot s = .next (s.replied (.hold t slot) 0x37 code .empty) := by
  refine State.request_refused h (fun hslot => if_pos (slotOk_iff.mpr (not_lt.mp hslot))) (fun hslot hb => ?_)
    fun _ _ _ hts => nomatch firstFailure_nil.symm.trans hts
  simp only [if_neg (slotOk_iff.not.mpr (not_le.mpr hslot)), State.take_board, hb]
  rfl

theorem execHold_accepted {t : Byte} (hmode : s.line.mode ≠ .initializing) (hslot : slot < 32) (hb : s.board slot = some b) :
    execHold t slot s =
      let i : Instr := .hold t slot
      let u := (s.take i).raise 0 slot
      .next ((u.answer (s.header i) 0x37 .ok (.hold slot b.tag (b.pendingSet.has 0) (b.inService.has 0) (u.blockedAt slot)
        (u.markAt slot))).settle false (s.take i)) := by
  rw [execHold, State.request_passed hmode]
  simp only [if_neg (slotOk_iff.not.mpr (not_le.mpr hslot)), State.take_board, hb]

/-! ## The reason that a release names (R160) -/

theorem firstBy_of_least {α : Type} {key : α → Nat} {l : List α} {c : α} (hc : c ∈ l)
    (least : ∀ d ∈ l, d ≠ c → key c < key d) : firstBy key l = some c := by
  induction l with
  | nil => cases hc
  | cons a l ih =>
    by_cases e : a = c
    · subst e
      rw [firstBy]
      split
      · rfl
      next d hd =>
        refine if_neg fun lower => ?_
        by_cases hda : d = a
        · exact absurd (hda ▸ lower) (lt_irrefl _)
        · exact absurd (least d (List.mem_cons_of_mem a (firstBy_mem key hd)) hda) lower.not_gt
    · have tail := ih ((List.mem_cons.mp hc).resolve_left (Ne.symm e)) fun d hd => least d (List.mem_cons_of_mem a hd)
      simp only [firstBy, tail]
      exact if_pos (least a List.mem_cons_self e)

theorem NumSet.mem_members {w : Nat} {x : NumSet w} {k : Nat} : k ∈ x.members ↔ k < w ∧ x.has k = true := by
  rw [NumSet.members, List.mem_filter, List.mem_range]

/-- TOP: the lowest priority number, and among equals the lowest reason number. -/
theorem State.topReason_of_least {n : Nat} (hn : n < 16) (hs : b.inService.has n = true)
    (least : ∀ k, k < 16 → b.inService.has k = true → k ≠ n → (s.route n).priority < (s.route k).priority ∨
      (s.route n).priority = (s.route k).priority ∧ n < k) : s.topReason b = some n := by
  refine firstBy_of_least (NumSet.mem_members.mpr ⟨hn, hs⟩) fun k hk hkn => ?_
  obtain ⟨hk16, hks⟩ := NumSet.mem_members.mp hk
  have := least k hk16 hks hkn
  omega

theorem State.namedReason_some {reason n : Nat} (hr : reason < 16 ∨ reason = 0xFF) (hn : n < 16)
    (hs : b.inService.has n = true) (same : reason < 16 → reason = n)
    (least : reason = 0xFF → ∀ k, k < 16 → b.inService.has k = true → k ≠ n → (s.route n).priority < (s.route k).priority ∨
      (s.route n).priority = (s.route k).priority ∧ n < k) : s.namedReason b reason = some n := by
  unfold State.namedReason
  split
  next top => exact State.topReason_of_least hn hs (least top)
  next named =>
    rw [same (hr.resolve_right named), if_pos hs]

theorem State.namedReason_none {reason : Nat}
    (h : (if reason = 0xFF then decide (b.inService ≠ 0#16) else b.inService.has reason) = false) :
    s.namedReason b reason = none := by
  unfold State.namedReason
  split
  next top =>
    rw [if_pos top, decide_eq_false_iff_not, not_not] at h
    rw [State.topReason, h]
    rfl
  next named =>
    rw [if_neg named] at h
    rw [h]
    rfl

/-! ## The three steps of a release (R161) -/

theorem Board.withMark_scrap (b : Board) : b.withMark .scrap = { b with mark := some .scrap } := by
  unfold Board.withMark newMark
  obtain _ | _ | _ := b.mark <;> rfl

/-- The state that a verdict leaves, before the change is reported. -/
def State.judgedBy (v : ReleaseVerdict) (again : Bool) (slot : Nat) (s : State) : State :=
  match v with
  | .goOn => if again then s.raiseCore false slot 1 else s
  | .divert => s.modBoard slot fun x => { x with mark := some (match x.mark with | some .scrap => .scrap | _ => .rework) }
  | .scrap => s.modBoard slot fun x => { x with mark := some .scrap }

theorem State.applyVerdict_eq (n : Nat) (v : ReleaseVerdict) (b1 : Board) :
    (s.setBoard slot (some b1)).applyVerdict slot n v b =
      (s.setBoard slot (some (if s.clears n v then b1.clearFindings else b1))).judgedBy v (raisedAgain b n v) slot := by
  have route : (s.setBoard slot (some b1)).route n = s.route n := rfl
  cases v with
  | goOn =>
    simp only [State.applyVerdict, State.judgedBy, route, State.clears, decide_true, Bool.true_and,
      State.modBoardQuiet_setBoard]
    cases (s.route n).clearOnRelease <;> rfl
  | divert => simp only [State.applyVerdict, State.judgedBy, Board.withMark_rework]; rfl
  | scrap => simp only [State.applyVerdict, State.judgedBy, Board.withMark_scrap]; rfl

theorem State.release_eq (hb : s.board slot = some b) (n : Nat) (v : ReleaseVerdict) : s.release slot n v b =
    (let b1 : Board := { b with inService := b.inService.leave n }
    ((s.setBoard slot (some (if s.clears n v then b1.clearFindings else b1))).judgedBy v (raisedAgain b n v) slot).react slot
      (s.blockedAt slot)) := by
  rw [State.release, State.modBoardQuiet_some hb, State.applyVerdict_eq]

/-! ## HOLD_RELEASE -/

theorem verdictOf_isSome (n : Nat) : (verdictOf n).isSome = decide (n < 3) :=
  match n with
  | 0 => rfl
  | 1 => rfl
  | 2 => rfl
  | n + 3 => (decide_eq_false (by omega)).symm

/-- Test 2 of R160, after the verdict is read. -/
theorem release_inRange {reason : Nat} :
    (!(slotOk slot && (reasonOk reason || decide (reason = 0xFF)))) = true ↔ ¬(slot < 32 ∧ (reason < 16 ∨ reason = 0xFF)) := by
  simp only [Config.slots, Bool.not_eq_true', Bool.and_eq_false_iff, Bool.or_eq_false_iff, decide_eq_false_iff_not]
  omega

theorem execHoldRelease_refused {t : Byte} {reason verdict : Nat} {code : ResultCode}
    (h : firstFailure [
      (decide (s.line.mode ≠ .initializing), .wrongMode),
      (decide (slot < 32 ∧ (reason < 16 ∨ reason = 0xFF) ∧ verdict < 3), .outOfRange),
      ((s.board slot).isSome, .notFound),
      ((s.board slot).any fun b => if reason = 0xFF then decide (b.inService ≠ 0#16) else b.inService.has reason,
        .notInService)] = some code) :
    execHoldRelease t slot reason verdict s = .next (s.replied (.holdRelease t slot reason verdict) 0x39 code .empty) := by
  have spelled (hv : verdict < 3) : ∃ v, verdictOf verdict = some v :=
    Option.isSome_iff_exists.mp ((verdictOf_isSome verdict).trans (decide_eq_true hv))
  refine State.request_refused h (fun hrange => ?_) (fun hrange hb => ?_) fun hrange b hb hts => ?_
  · split
    · rfl
    next v hv =>
      have hlt : verdict < 3 := of_decide_eq_true ((verdictOf_isSome verdict).symm.trans (by rw [hv]; rfl))
      exact if_pos (release_inRange.mpr fun ⟨hslot, hr⟩ => hrange ⟨hslot, hr, hlt⟩)
  · obtain ⟨hslot, hr, hlt⟩ := hrange
    obtain ⟨v, hv⟩ := spelled hlt
    simp only [hv, if_neg (mt release_inRange.mp (not_not.mpr ⟨hslot, hr⟩)), State.take_board, hb]
    rfl
  · obtain ⟨hslot, hr, hlt⟩ := hrange
    obtain ⟨v, hv⟩ := spelled hlt
    obtain ⟨notHeld, rfl⟩ := firstFailure_single hts
    rw [hb, Option.any_some] at notHeld
    have unnamed (i : Instr) : (s.take i).namedReason b reason = none := State.namedReason_none notHeld
    simp only [hv, if_neg (mt release_inRange.mp (not_not.mpr ⟨hslot, hr⟩)), State.take_board, hb, unnamed]
    rfl

theorem execHoldRelease_accepted {t : Byte} {reason verdict n : Nat} {v : ReleaseVerdict}
    (hmode : s.line.mode ≠ .initializing) (hslot : slot < 32) (hr : reason < 16 ∨ reason = 0xFF)
    (hv : verdictOf verdict = some v) (hb : s.board slot = some b) (hn : s.namedReason b reason = some n) :
    execHoldRelease t slot reason verdict s =
      let i : Instr := .holdRelease t slot reason verdict
      let u := (s.take i).release slot n v b
      .next ((u.answer (s.header i) 0x39 .ok (.holdRelease slot b.tag n v (s.clears n v) (raisedAgain b n v)
        (u.blockedAt slot) (u.markAt slot))).settle false (s.take i)) := by
  have named (i : Instr) : (s.take i).namedReason b reason = some n := hn
  rw [execHoldRelease, State.request_passed hmode]
  simp only [hv, if_neg (mt release_inRange.mp (not_not.mpr ⟨hslot, hr⟩)), State.take_board, hb, named]
  rfl

/-- Settles O43: each request by its tests, a release by the reason it names and the state its verdict leaves. -/
theorem holdAndRelease : Obligations.HoldAndRelease := by
  unfold Obligations.HoldAndRelease
  refine ⟨fun t slot s => ⟨fun code h => execHold_refused h, fun b hm hk hb => execHold_accepted hm hk hb⟩,
    fun t slot reason verdict s => ⟨fun code h => execHoldRelease_refused h, ?_⟩⟩
  intro b v n hm hk hr hv hb hn hs same least b1 clears again s1 s2 s3
  have raised : raisedAgain b n v = again := by
    simp only [raisedAgain, again, Bool.decide_and]
    rfl
  have released : (s.take (.holdRelease t slot reason verdict)).release slot n v b = s3 := by
    rw [State.release_eq (s := s.take _) hb, raised]
    cases v <;> rfl
  refine (execHoldRelease_accepted hm hk hr hv hb (State.namedReason_some hr hn hs same least)).trans ?_
  dsimp only
  rw [released, raised]
  rfl

end Sys2Proof.Machine
end

section
/-! FINDING: stored or counted as overflow, tallied, and judged by the criteria (O33). -/

namespace Sys2Proof.Machine

variable {s : State} {slot : Nat} {b : Board} {f : Finding}

/-! ## The finding recorded and tallied (R113, R116) -/

theorem Board.record_eq (b : Board) (f : Finding) : b.record f = { b with
    findings := if decide (b.findings.length < 16) then b.findings ++ [f] else b.findings
    overflow := if decide (b.findings.length < 16) then b.overflow else min 255 (b.overflow + 1)
    kindsSeen := b.kindsSeen.join f.kind } := by
  by_cases h : b.findings.length < 16
  · simp only [Board.record, Config.findingLimit, h, decide_true, if_true]
  · simp only [Board.record, Config.findingLimit, h, decide_false, Bool.false_eq_true, if_false]

theorem Board.record_tally (b : Board) (f : Finding) (j : Nat) : (b.record f).tally j = b.tally j := by
  rw [Board.record_eq]
  rfl

theorem Board.raiseTallies_eq (hits : List Nat) (b : Board) :
    b.raiseTallies hits = { b with tallies := (b.raiseTallies hits).tallies } := by
  induction hits generalizing b with
  | nil => rfl
  | cons i hits ih => exact ih (b.setTally i (min 255 (b.tally i + 1)))

theorem Board.raiseTallies_tally {hits : List Nat} (hn : hits.Nodup) (b : Board) (j : Nat) :
    (b.raiseTallies hits).tally j = if j ∈ hits then min 255 (b.tally j + 1) else b.tally j := by
  induction hits generalizing b with
  | nil => rfl
  | cons i hits ih =>
    obtain ⟨hi, hn⟩ := List.nodup_cons.mp hn
    have tail := ih hn (b.setTally i (min 255 (b.tally i + 1)))
    rw [Board.setTally_tally] at tail
    refine Eq.trans tail ?_
    by_cases e : j = i
    · subst e; simp [hi]
    · simp [e]

/-! ## The criteria that match and that come to their thresholds (R115, R116) -/

theorem Criterion.takes_eq (c : Criterion) (r : LookupResult) : c.takes b f r.withheld =
    (decide (0 < c.threshold) && decide (c.cls = 0 ∨ c.cls = b.cls) && decide (c.kind = 0 ∨ c.kind = f.kind) &&
      decide (c.side = .either ∨ c.side = .top ∧ f.side = .top ∨ c.side = .bottom ∧ f.side = .bottom) &&
      decide (c.keepOutOnly = false ∨ r.rule = .keepOut ∨ r.rule = .masked)) := by
  have only : (!c.keepOutOnly || r.withheld) = decide (c.keepOutOnly = false ∨ r.rule = .keepOut ∨ r.rule = .masked) := by
    simp [LookupResult.withheld]
  cases side : c.side <;> simp [Criterion.takes, only, side]

theorem State.matching_nodup (s : State) (b : Board) (f : Finding) : (s.matching b f).Nodup := List.nodup_range.filter _

theorem State.reaching_eq (s : State) (b : Board) (hits : List Nat) : s.reaching b hits =
    hits.filter fun j => decide (b.tally j < (s.criterion j).threshold ∧ min 255 (b.tally j + 1) = (s.criterion j).threshold) :=
  List.filter_congr fun _ _ => (Bool.decide_and _ _).symm

/-- A finding taken is one write of its board, and then the raises of the criteria reached. -/
theorem State.takeFinding_eq (hb : s.board slot = some b) : s.takeFinding slot b f =
    (s.reaching b (s.matching b f)).foldl (fun u j => u.raise (s.criterion j).reason slot)
      (s.setBoard slot (some ((b.record f).raiseTallies (s.matching b f)))) := by
  rw [State.takeFinding, State.modBoardQuiet_some hb]

/-! ## FINDING (R112) -/

/-- Test 2 of R112, after the side is read. -/
theorem finding_inRange {kind x y : Nat} :
    (!(slotOk slot && within 1 5 kind && coordOk x && coordOk y)) = true ↔
      ¬(slot < 32 ∧ 1 ≤ kind ∧ kind ≤ 5 ∧ x < 1024 ∧ y < 1024) := by
  simp only [Config.slots, Bool.not_eq_true', Bool.and_eq_false_iff, decide_eq_false_iff_not]
  omega

theorem execFinding_refused {t : Byte} {kind side x y : Nat} {code : ResultCode}
    (h : firstFailure [
      (decide (s.line.mode ≠ .initializing), .wrongMode),
      (decide (slot < 32 ∧ 1 ≤ kind ∧ kind ≤ 5 ∧ side < 2 ∧ x < 1024 ∧ y < 1024), .outOfRange),
      ((s.board slot).isSome, .notFound),
      ((s.board slot).any fun b => decide (b.life = .flashing ∨ b.life = .ovenReady), .wrongState)] = some code) :
    execFinding t slot kind side x y s = .next (s.replied (.finding t slot kind side x y) 0x35 code .empty) := by
  have spelled (hs : side < 2) : ∃ d, sideOf side = some d :=
    Option.isSome_iff_exists.mp ((sideOf_isSome side).trans (decide_eq_true hs))
  refine State.request_refused h (fun hrange => ?_) (fun hrange hb => ?_) fun hrange b hb hts => ?_
  · split
    · rfl
    next d hd =>
      exact if_pos (finding_inRange.mpr fun ⟨hslot, h1, h5, hx, hy⟩ => hrange ⟨hslot, h1, h5, sideOf_lt hd, hx, hy⟩)
  · obtain ⟨hslot, h1, h5, hs, hx, hy⟩ := hrange
    obtain ⟨d, hd⟩ := spelled hs
    simp only [hd, if_neg (mt finding_inRange.mp (not_not.mpr ⟨hslot, h1, h5, hx, hy⟩)), State.take_board, hb]
    rfl
  · obtain ⟨hslot, h1, h5, hs, hx, hy⟩ := hrange
    obtain ⟨d, hd⟩ := spelled hs
    obtain ⟨closed, rfl⟩ := firstFailure_single hts
    rw [hb, Option.any_some, ← b.takesFindings_eq] at closed
    simp only [hd, if_neg (mt finding_inRange.mp (not_not.mpr ⟨hslot, h1, h5, hx, hy⟩)), State.take_board, hb, closed,
      Bool.not_false, if_true]
    rfl

theorem execFinding_accepted {t : Byte} {kind side x y : Nat} {d : Side} (hmode : s.line.mode ≠ .initializing)
    (hslot : slot < 32) (h1 : 1 ≤ kind) (h5 : kind ≤ 5) (hd : sideOf side = some d) (hx : x < 1024) (hy : y < 1024)
    (hb : s.board slot = some b) (hl : b.life = .flashing ∨ b.life = .ovenReady) :
    execFinding t slot kind side x y s =
      let i : Instr := .finding t slot kind side x y
      let f : Finding := ⟨kind, d, x, y, s.clock⟩
      .next ((((s.take i).takeFinding slot b f).answer (s.header i) 0x35 .ok (s.findingBody slot b f)).settle false
        (s.take i)) := by
  have opened : b.takesFindings = true := b.takesFindings_eq.trans (decide_eq_true hl)
  rw [execFinding, State.request_passed hmode]
  simp only [hd, if_neg (mt finding_inRange.mp (not_not.mpr ⟨hslot, h1, h5, hx, hy⟩)), State.take_board, hb, opened,
    Bool.not_true, Bool.false_eq_true, if_false]
  rfl

/-- Settles O33: the tests, and then one write of the board and the raises of the criteria reached. -/
theorem findingTaken : Obligations.FindingTaken := by
  unfold Obligations.FindingTaken
  refine fun t slot kind side x y s => ⟨fun code h => execFinding_refused h, ?_⟩
  intro b d hm hk h1 h5 hd hx hy hb hl seen hits reached stores
  let f : Finding := ⟨kind, d, x, y, s.clock⟩
  have matched : s.matching b f = hits := List.filter_congr fun j _ => (s.criterion j).takes_eq seen
  have reaches : s.reaching b (s.matching b f) = reached := by rw [matched]; exact s.reaching_eq b hits
  let b1 := (b.record f).raiseTallies hits
  have tallied : b1 = { b.record f with tallies := b1.tallies } := (b.record f).raiseTallies_eq hits
  refine ⟨b1, ?_, fun j => ?_, ?_⟩
  · rw [b.record_eq f] at tallied
    exact tallied
  · have nodup : hits.Nodup := matched ▸ s.matching_nodup b f
    rw [Board.raiseTallies_tally nodup, Board.record_tally]
  · have taken (i : Instr) : (s.take i).takeFinding slot b f =
        reached.foldl (fun u j => u.raise (s.criterion j).reason slot) ((s.take i).setBoard slot (some b1)) := by
      rw [State.takeFinding_eq (s := s.take i) hb]
      exact congrArg₂ (fun rs hs => List.foldl (fun u j => u.raise (s.criterion j).reason slot)
        ((s.take i).setBoard slot (some ((b.record f).raiseTallies hs))) rs) reaches matched
    have body : s.findingBody slot b f = .finding slot b.tag stores b1.findings.length b1.overflow
        (reached.map fun j => (j, (s.criterion j).reason)) := by
      rw [State.findingBody, reaches, tallied]
      rfl
    refine (execFinding_accepted hm hk h1 h5 hd hx hy hb hl).trans ?_
    dsimp only
    rw [taken, body]

end Sys2Proof.Machine
end

section
/-! The mask sites of the boards through a raise, the report of a change and the start test: none of them changes a site. -/

namespace Sys2Proof.Machine

variable {s : State}

/-- The mask sites of the board in a slot. -/
def State.sitesAt (j : Nat) (s : State) : Option (List (Nat × SiteState)) := (s.board j).map (·.sites)

theorem State.sitesAt_some {j : Nat} {b : Board} (h : s.board j = some b) : s.sitesAt j = some b.sites := by
  rw [State.sitesAt, h, Option.map_some]

/-! ## Updates -/

@[simp] theorem State.post_sitesAt (n : Notice) (j : Nat) : (s.post n).sitesAt j = s.sitesAt j := by
  rw [State.sitesAt, State.post_board]; rfl

@[simp] theorem State.modBoard_sitesAt (k j : Nat) (f : Board → Board) (hf : ∀ b, (f b).sites = b.sites) :
    (s.modBoard k f).sitesAt j = s.sitesAt j := by
  rw [State.sitesAt, State.modBoard_board, State.sitesAt]
  split
  next e => subst e; cases s.board j <;> simp [hf]
  next => rfl

@[simp] theorem State.modBoardQuiet_sitesAt (k j : Nat) (f : Board → Board) (hf : ∀ b, (f b).sites = b.sites) :
    (s.modBoardQuiet k f).sitesAt j = s.sitesAt j := by
  by_cases e : j = k
  · subst e
    rw [State.sitesAt, State.modBoardQuiet_board, State.sitesAt]
    cases s.board j <;> simp [hf]
  · rw [State.sitesAt, (State.onlyAt_modBoardQuiet k f).other j e]; rfl

@[simp] theorem State.modUnit_sitesAt (a : Fin 6) (f : Applicator → Applicator) (j : Nat) :
    (s.modUnit a f).sitesAt j = s.sitesAt j := by
  rw [State.sitesAt, State.modUnit_board]; rfl

@[simp] theorem State.modLane_sitesAt (l : Fin 2) (f : Lane → Lane) (j : Nat) : (s.modLane l f).sitesAt j = s.sitesAt j := rfl

@[simp] theorem State.setStatus_sitesAt (l : Fin 2) (st : LaneStatus) (j : Nat) :
    (s.setStatus l st).sitesAt j = s.sitesAt j := by
  rw [State.setStatus_rest]; rfl

@[simp] theorem State.clearShuttle_sitesAt (j : Nat) : s.clearShuttle.sitesAt j = s.sitesAt j := rfl

/-! ## Lanes and bays -/

@[simp] theorem State.toFlashing_sitesAt (k j : Nat) (f : Board → Board) (hf : ∀ b, (f b).sites = b.sites) :
    (s.toFlashing k f).sitesAt j = s.sitesAt j := by
  rw [State.sitesAt, State.toFlashing, State.requestBay_board]
  exact State.modBoard_sitesAt k j _ hf

@[simp] theorem State.clearNeed_sitesAt (l : Fin 2) (j : Nat) : (s.clearNeed l).sitesAt j = s.sitesAt j :=
  State.modUnit_sitesAt _ _ j

@[simp] theorem State.stopLane_sitesAt (l : Fin 2) (j : Nat) : (s.stopLane l).sitesAt j = s.sitesAt j := by
  simp [State.stopLane]

@[simp] theorem State.laneOver_sitesAt (l : Fin 2) (j : Nat) : (s.laneOver l).sitesAt j = s.sitesAt j := by
  have waits : (s.stopWaiting l).sitesAt j = s.sitesAt j := by unfold State.stopWaiting; split <;> simp
  unfold State.laneOver
  dsimp only
  split <;> simp [waits]

@[simp] theorem State.abandonBoard_sitesAt (k j : Nat) : (s.abandonBoard k).sitesAt j = s.sitesAt j :=
  State.toFlashing_sitesAt k j _ fun _ => rfl

@[simp] theorem State.startBoard_sitesAt (l : Fin 2) (k j : Nat) : (s.startBoard l k).sitesAt j = s.sitesAt j := by
  simp [State.startBoard]

@[simp] theorem State.startTest_sitesAt (l : Fin 2) (j : Nat) : (s.startTest l).sitesAt j = s.sitesAt j := by
  unfold State.startTest
  split
  · rfl
  · split
    · split <;> simp
    · rfl

@[simp] theorem State.departDisarmed_sitesAt (k j : Nat) : (s.departDisarmed k).sitesAt j = s.sitesAt j := by
  unfold State.departDisarmed
  split
  · rfl
  · split
    · split
      · simp
      · split <;> simp
    · rfl

/-! ## Raises and reports -/

@[simp] theorem State.raiseCore_sitesAt (q : Bool) (k n j : Nat) : (s.raiseCore q k n).sitesAt j = s.sitesAt j := by
  by_cases e : j = k
  · subst e
    rw [State.sitesAt, State.raiseCore_board, State.sitesAt, Option.map_map]
    refine congrArg (Option.map · (s.board j)) (funext fun b => ?_)
    simp only [Function.comp_apply]
    split_ifs <;> rfl
  · rw [State.sitesAt, (State.onlyAt_raiseCore q k n).other j e]; rfl

@[simp] theorem State.leaveReady_sitesAt (k j : Nat) : (s.leaveReady k).sitesAt j = s.sitesAt j := by
  unfold State.leaveReady
  split
  · rfl
  · split <;> simp

@[simp] theorem State.testReady_sitesAt (k j : Nat) : (s.testReady k).sitesAt j = s.sitesAt j := by
  unfold State.testReady
  split
  · rfl
  · split <;> simp

@[simp] theorem State.withdraw_sitesAt (k j : Nat) : (s.withdraw k).sitesAt j = s.sitesAt j := by
  unfold State.withdraw State.heldOver
  split
  · simp
  · split <;> simp [State.openExpiry]

theorem State.reactSpraying_sitesAt (k : Nat) (b : Board) (j : Nat) : (s.reactSpraying k b).sitesAt j = s.sitesAt j := by
  unfold State.reactSpraying
  repeat' split
  all_goals simp [State.abandon]

theorem State.reactBuffered_sitesAt (k : Nat) (w : Bool) (j : Nat) : (s.reactBuffered k w).sitesAt j = s.sitesAt j := by
  unfold State.reactBuffered
  dsimp only
  repeat' split
  all_goals simp

theorem State.reactAtSpray_sitesAt (k : Nat) (b : Board) (w : Bool) (j : Nat) :
    (s.reactAtSpray k b w).sitesAt j = s.sitesAt j := by
  unfold State.reactAtSpray
  split
  · exact State.toFlashing_sitesAt k j _ fun _ => rfl
  · split <;> simp

@[simp] theorem State.react_sitesAt (k : Nat) (w : Bool) (j : Nat) : (s.react k w).sitesAt j = s.sitesAt j := by
  unfold State.react
  split
  · rfl
  next b _ =>
    cases b.life with
    | queued => rfl
    | atSpray => exact State.reactAtSpray_sitesAt k b w j
    | spraying => exact State.reactSpraying_sitesAt k b j
    | flashing => exact State.reactBuffered_sitesAt k w j
    | ovenReady => exact State.reactBuffered_sitesAt k w j
    | inOven => rfl

@[simp] theorem State.raise_sitesAt (n k j : Nat) : (s.raise n k).sitesAt j = s.sitesAt j := by
  simp [State.raise]

end Sys2Proof.Machine
end

section
/-! MASK_REPORT and the expiry of a mask wait (O32). -/

namespace Sys2Proof.Machine

variable {s : State} {slot k : Nat} {b : Board} {v : SiteState}

/-! ## The sites of a board (R107 to R110) -/

theorem Board.setSite_site (b : Board) (k : Nat) (v : SiteState) : (b.setSite k v).site k = (b.site k).map fun _ => v := by
  simp only [Board.site, Board.setSite]
  induction b.sites with
  | nil => rfl
  | cons p ps ih =>
    by_cases e : p.1 = k
    · simp [e]
    · simpa [e] using ih

theorem Board.becomesMissing_iff (b b1 : Board) : (!b.masksMissing && b1.masksMissing) = true ↔
    (∀ p ∈ b.sites, p.2 ≠ .absent) ∧ ∃ p ∈ b1.sites, p.2 = .absent := by
  simp [Board.masksMissing]

theorem Board.unread_iff (b : Board) : b.unread = true ↔ ∃ p ∈ b.sites, p.2 = .unread := by
  simp [Board.unread]

/-- R111: the mask wait of a board ends where no site is UNREAD, and else nothing is written. -/
theorem State.endMaskWait_eq (h : s.Placed slot b) : s.modBoardQuiet slot Board.endMaskWait =
    if ∃ p ∈ b.sites, p.2 = .unread then s else s.modBoardQuiet slot fun x => { x with maskWait := none } := by
  split
  next unread => exact h.modBoardQuiet (if_pos (b.unread_iff.mpr unread))
  next read =>
    have ended : b.endMaskWait = { b with maskWait := none } := if_neg (mt b.unread_iff.mp read)
    rw [State.modBoardQuiet_some h.board, State.modBoardQuiet_some h.board, ended]

/-! ## A site state written (R108) -/

/-- The state of MASK_REPORT after the raise of R109. -/
def State.siteWritten (slot k : Nat) (v : SiteState) (b : Board) (s : State) : State :=
  let b1 := b.setSite k v
  let s1 := s.setBoard slot (some b1)
  if (∀ p ∈ b.sites, p.2 ≠ .absent) ∧ (∃ p ∈ b1.sites, p.2 = .absent) then s1.raise 1 slot else s1

/-- The board stands in its place after the raise, with its sites as they were written. -/
theorem State.siteWritten_placed (s : State) (slot k : Nat) (v : SiteState) (b : Board) :
    ∃ b2, (s.siteWritten slot k v b).Placed slot b2 ∧ b2.sites = (b.setSite k v).sites := by
  have start := s.placed_setBoard slot (b.setSite k v)
  unfold State.siteWritten
  dsimp only
  split
  · obtain ⟨b2, placed⟩ := (Evolves.refl.raise 1 slot).placed ⟨_, start⟩
    have sites := State.raise_sitesAt (s := s.setBoard slot (some (b.setSite k v))) 1 slot slot
    rw [State.sitesAt_some placed.board, State.sitesAt_some start.board] at sites
    exact ⟨b2, placed, Option.some.inj sites⟩
  · exact ⟨_, start, rfl⟩

theorem State.reportMask_eq (hb : s.board slot = some b) : s.reportMask slot k v b =
    (let s2 := s.siteWritten slot k v b
    let s3 := if ∃ p ∈ (b.setSite k v).sites, p.2 = .unread then s2
      else s2.modBoardQuiet slot fun x => { x with maskWait := none }
    if b.life = .atSpray ∧ b.site k ≠ some v then s3.startTest b.lane else s3) := by
  have written : (if !b.masksMissing && (b.setSite k v).masksMissing then (s.setBoard slot (some (b.setSite k v))).raise 1 slot
      else s.setBoard slot (some (b.setSite k v))) = s.siteWritten slot k v b :=
    if_congr (b.becomesMissing_iff _) rfl rfl
  obtain ⟨b2, placed, sites⟩ := s.siteWritten_placed slot k v b
  have waits := State.endMaskWait_eq placed
  rw [sites] at waits
  simp only [State.reportMask, State.modBoardQuiet_some hb, written, waits]

/-- A mask report leaves the board in its slot, with its sites as written. -/
theorem State.reportMask_board (hb : s.board slot = some b) :
    ∃ b4, (s.reportMask slot k v b).board slot = some b4 ∧ b4.sites = (b.setSite k v).sites := by
  obtain ⟨b2, placed, sites⟩ := s.siteWritten_placed slot k v b
  have kept : (s.reportMask slot k v b).sitesAt slot = (s.siteWritten slot k v b).sitesAt slot := by
    rw [State.reportMask_eq hb]
    dsimp only
    split <;> split <;> simp
  rw [State.sitesAt_some placed.board, State.sitesAt, Option.map_eq_some_iff] at kept
  obtain ⟨b4, hb4, h4⟩ := kept
  exact ⟨b4, hb4, h4.trans sites⟩

theorem maskBody_eq {old : SiteState} {after : Board} (ho : b.site k = some old)
    (ha : after.sites = (b.setSite k v).sites) : maskBody slot k b after =
      .maskReport slot b.tag k old v ((b.setSite k v).sites.any fun p => decide (p.2 = .absent)) after.maskWait.isSome := by
  have now : after.site k = some v := by
    have same : after.site k = (b.setSite k v).site k := by rw [Board.site, ha]; rfl
    rw [same, Board.setSite_site, ho, Option.map_some]
  rw [maskBody, ho, now, Board.masksMissing, ha]
  rfl

/-! ## MASK_REPORT -/

theorem reportOf_of_lt {n : Nat} (h : n < 2) : reportOf n = some (if n = 0 then .present else .absent) :=
  match n, h with
  | 0, _ => rfl
  | 1, _ => rfl

theorem reportOf_lt {n : Nat} {v : SiteState} (h : reportOf n = some v) : n < 2 :=
  match n with
  | 0 => by decide
  | 1 => by decide
  | n + 2 => nomatch h

/-- Test 2 of R108, after the state is read. -/
theorem maskReport_inRange : (!(slotOk slot && within 1 16 k)) = true ↔ ¬(slot < 32 ∧ 1 ≤ k ∧ k ≤ 16) := by
  simp only [Config.slots, Bool.not_eq_true', Bool.and_eq_false_iff, decide_eq_false_iff_not]
  omega

theorem Board.takesMasks_eq (b : Board) :
    b.takesMasks = decide (b.life = .queued ∨ b.life = .atSpray ∨ b.life = .spraying) := by
  simp only [Board.takesMasks, Board.beforeBuffer, Bool.decide_or, Bool.or_assoc]

theorem execMaskReport_refused {t : Byte} {n : Nat} {code : ResultCode}
    (h : firstFailure [
      (decide (s.line.mode ≠ .initializing), .wrongMode),
      (decide (slot < 32 ∧ 1 ≤ k ∧ k ≤ 16 ∧ n < 2), .outOfRange),
      ((s.board slot).isSome, .notFound),
      ((s.board slot).any fun b => (b.site k).isSome, .outOfRange),
      ((s.board slot).any fun b => decide (b.life = .queued ∨ b.life = .atSpray ∨ b.life = .spraying), .wrongState)] =
      some code) :
    execMaskReport t slot k n s = .next (s.replied (.maskReport t slot k n) 0x34 code .empty) := by
  refine State.request_refused h (fun hrange => ?_) (fun hrange hb => ?_) fun hrange b hb hts => ?_
  · split
    · rfl
    next v hv =>
      exact if_pos (maskReport_inRange.mpr fun ⟨hslot, h1, h16⟩ => hrange ⟨hslot, h1, h16, reportOf_lt hv⟩)
  · obtain ⟨hslot, h1, h16, hn⟩ := hrange
    simp only [reportOf_of_lt hn, if_neg (mt maskReport_inRange.mp (not_not.mpr ⟨hslot, h1, h16⟩)), State.take_board, hb]
    rfl
  · obtain ⟨hslot, h1, h16, hn⟩ := hrange
    simp only [hb, Option.any_some, ← b.takesMasks_eq, firstFailure_cons, firstFailure_nil] at hts
    simp only [reportOf_of_lt hn, if_neg (mt maskReport_inRange.mp (not_not.mpr ⟨hslot, h1, h16⟩)), State.take_board, hb]
    cases hs : b.site k with
    | none =>
      simp only [hs, Option.isSome_none, Bool.false_eq_true, if_false, Option.some.injEq] at hts
      simp only [Option.isNone_none, if_true, ← hts]
      rfl
    | some old =>
      simp only [hs, Option.isSome_some, if_true] at hts
      cases takes : b.takesMasks with
      | true => simp [takes] at hts
      | false =>
        simp only [takes, Bool.false_eq_true, if_false, Option.some.injEq] at hts
        simp only [Option.isNone_some, Bool.false_eq_true, if_false, Bool.not_false, if_true, ← hts]
        rfl

theorem execMaskReport_accepted {t : Byte} {n : Nat} {old : SiteState} (hmode : s.line.mode ≠ .initializing)
    (hslot : slot < 32) (h1 : 1 ≤ k) (h16 : k ≤ 16) (hv : reportOf n = some v) (hb : s.board slot = some b)
    (ho : b.site k = some old) (hl : b.life = .queued ∨ b.life = .atSpray ∨ b.life = .spraying) :
    execMaskReport t slot k n s =
      let i : Instr := .maskReport t slot k n
      let u := (s.take i).reportMask slot k v b
      .next ((u.answer (s.header i) 0x34 .ok (.maskReport slot b.tag k old v
        ((b.setSite k v).sites.any fun p => decide (p.2 = .absent)) ((u.board slot).any fun x => x.maskWait.isSome))).settle
          false (s.take i)) := by
  have takes : b.takesMasks = true := b.takesMasks_eq.trans (decide_eq_true hl)
  have board (i : Instr) : (s.take i).board slot = some b := hb
  obtain ⟨b4, hb4, sites⟩ := State.reportMask_board (v := v) (k := k) (board (.maskReport t slot k n))
  rw [execMaskReport, State.request_passed hmode]
  simp only [hv, if_neg (mt maskReport_inRange.mp (not_not.mpr ⟨hslot, h1, h16⟩)), board, ho, takes, Option.isNone_some,
    Bool.not_true, Bool.false_eq_true, if_false, hb4, Option.getD_some, Option.any_some, maskBody_eq ho sites]

/-! ## The expiry of a mask wait (R111) -/

theorem State.maskWaitExpiry_idle (h : ∀ b, s.board slot = some b → b.maskWait = none) : s.maskWaitExpiry slot = s := by
  have none : (s.board slot).bind (·.maskWait) = none := Option.bind_eq_none_iff.mpr h
  simp only [State.maskWaitExpiry, none]

theorem State.maskWaitExpiry_due {d : Nat} (hb : s.board slot = some b) (hd : b.maskWait = some d) :
    s.maskWaitExpiry slot =
      (((s.reach d).setBoard slot (some { b with maskWait := none })).raise 2 slot).settle false s := by
  have board : (s.reach d).board slot = some b := hb
  simp only [State.maskWaitExpiry, hb, Option.bind_some, hd, State.modBoardQuiet_some board]

/-- Settles O32: the tests, and then the steps of a report as `State.reportMask_eq` has them; the expiry by whether a mask wait
runs. -/
theorem masks : Obligations.Masks := by
  unfold Obligations.Masks
  refine ⟨fun t slot k v s => ⟨fun code h => execMaskReport_refused h, ?_⟩, fun slot s => ⟨fun h => ?_, fun b d hb hd => ?_⟩⟩
  · intro b old hm hk h1 h16 hv hb ho hl new b1 s1 s2 s3 s4
    have moved : b.site k ≠ some new ↔ old ≠ new := by rw [ho, ne_eq, Option.some.injEq]
    have reported : (s.take (.maskReport t slot k v)).reportMask slot k new b = s4 :=
      (State.reportMask_eq (s := s.take _) hb).trans (if_congr (and_congr_right' moved) rfl rfl)
    refine (execMaskReport_accepted hm hk h1 h16 (reportOf_of_lt hv) hb ho hl).trans ?_
    dsimp only
    rw [show (s.take (.maskReport t slot k v)).reportMask slot k (if v = 0 then .present else .absent) b = s4 from reported]
    rfl
  · exact congrArg Host.Outcome.next (State.maskWaitExpiry_idle h)
  · exact congrArg Host.Outcome.next (State.maskWaitExpiry_due hb hd)

end Sys2Proof.Machine
end

section
/-! The shuttle decision (O35): a marked board goes before any admission (R127), the board admitted is the first by the keys of
R128, and the end of a step makes the decision where it was prompted. -/

namespace Sys2Proof.Machine

variable {s s0 : State}

/-! ## The marked board in the lowest bay (R127) -/

theorem allBays_findSome? {β : Type} {f : Fin 8 → Option β} {n : Fin 8} {x : β} (hit : f n = some x)
    (low : ∀ m, m < n → f m = none) : allBays.findSome? f = some x := by
  have split : ∀ n : Fin 8, allBays = allBays.take n ++ n :: allBays.drop (n + 1) := by decide
  have below : ∀ n : Fin 8, ∀ m ∈ allBays.take n, m < n := by decide
  exact List.findSome?_eq_some_iff.2 ⟨_, n, _, split n, hit, fun m hm => low m (below n m hm)⟩

theorem mem_allBays (n : Fin 8) : n ∈ allBays := by
  revert n; decide

/-- A marked FLASHING board stands in the bay. -/
def State.MarkedIn (s : State) (n : Fin 8) : Prop :=
  ∃ slot b, s.bay n = .occupied slot ∧ s.board slot = some b ∧ b.life = .flashing ∧ b.mark ≠ none

/-- What `State.divertChoice` finds in one bay. -/
def State.divertIn (s : State) (n : Fin 8) : Option (Fin 8 × Nat) :=
  match s.bay n with
  | .occupied slot =>
    if (s.board slot).any fun b => decide (b.life = .flashing) && b.mark.isSome then some (n, slot) else none
  | .empty => none
  | .reserved _ => none

theorem State.divertChoice_eq (s : State) : s.divertChoice = allBays.findSome? s.divertIn := rfl

theorem State.divertIn_marked {n : Fin 8} {slot : Nat} {b : Board} (hn : s.bay n = .occupied slot)
    (hb : s.board slot = some b) (hl : b.life = .flashing) (hm : b.mark ≠ none) : s.divertIn n = some (n, slot) := by
  simp [State.divertIn, hn, hb, hl, Option.isSome_iff_ne_none, hm]

theorem State.divertIn_none {n : Fin 8} (h : ¬s.MarkedIn n) : s.divertIn n = none := by
  unfold State.divertIn
  split
  next slot hn =>
    refine if_neg fun found => ?_
    obtain ⟨b, hb, hp⟩ := (Option.any_eq_true _ _).1 found
    rw [Bool.and_eq_true, decide_eq_true_eq, Option.isSome_iff_ne_none] at hp
    exact h ⟨slot, b, hn, hb, hp.1, hp.2⟩
  · rfl
  · rfl

theorem State.divertChoice_some {n : Fin 8} {slot : Nat} {b : Board} (hn : s.bay n = .occupied slot)
    (hb : s.board slot = some b) (hl : b.life = .flashing) (hm : b.mark ≠ none) (low : ∀ m, m < n → ¬s.MarkedIn m) :
    s.divertChoice = some (n, slot) :=
  allBays_findSome? (State.divertIn_marked hn hb hl hm) fun m hm => State.divertIn_none (low m hm)

theorem State.divertChoice_none (h : ∀ n, ¬s.MarkedIn n) : s.divertChoice = none :=
  List.findSome?_eq_none_iff.2 fun n _ => State.divertIn_none (h n)

/-! ## The keys of R128 -/

/-- A time as a key: an absent one comes after every present one. -/
def timeKey : Option Nat → List Nat
  | some d => [0, d]
  | none => [1, 0]

/-- The four keys of R128 for a board in a bay. -/
def Board.admissionKey (last : Fin 2) (n : Fin 8) (b : Board) : List Nat :=
  timeKey b.openDeadline ++ timeKey b.sprayEnd ++ [if b.lane = last then 1 else 0, n.val]

theorem timeKey_append_lt (x y : Option Nat) (u v : List Nat) :
    timeKey x ++ u < timeKey y ++ v ↔ earlier x y = true ∨ x = y ∧ u < v := by
  cases x <;> cases y <;> simp [timeKey, earlier, List.cons_lt_cons_iff]

theorem earlier_irrefl (x : Option Nat) : earlier x x = false := by
  cases x <;> simp [earlier]

/-- The first three keys decide by `Board.admittedBefore`, and the bay decides between boards that have them equal. -/
theorem Board.admissionKey_lt_iff {last : Fin 2} {n m : Fin 8} {a b : Board} :
    a.admissionKey last n < b.admissionKey last m ↔ Board.admittedBefore last a b = true ∨
      a.openDeadline = b.openDeadline ∧ a.sprayEnd = b.sprayEnd ∧ (a.lane = last ↔ b.lane = last) ∧ n < m := by
  have lanes : [if a.lane = last then 1 else 0, n.val] < [if b.lane = last then 1 else 0, m.val] ↔
      (a.lane ≠ last ∧ b.lane = last) ∨ (a.lane = last ↔ b.lane = last) ∧ n < m := by
    by_cases ha : a.lane = last <;> by_cases hb : b.lane = last <;> simp [List.cons_lt_cons_iff, ha, hb]
  rw [Board.admissionKey, Board.admissionKey, List.append_assoc, List.append_assoc, timeKey_append_lt, timeKey_append_lt, lanes,
    Board.admittedBefore]
  by_cases ho : a.openDeadline = b.openDeadline
  · by_cases hs : a.sprayEnd = b.sprayEnd
    · simp [ho, hs, earlier_irrefl]
    · simp [ho, hs, earlier_irrefl]
  · simp [ho]

theorem bestReady_mem {last : Fin 2} {cs : List (Fin 8 × Nat × Board)} {d : Fin 8 × Nat × Board}
    (h : bestReady last cs = some d) : d ∈ cs := by
  induction cs generalizing d with
  | nil => cases h
  | cons c cs ih =>
    unfold bestReady at h
    split at h
    · cases h; exact .head _
    next e he =>
      split at h <;> cases h
      · exact .tail _ (ih he)
      · exact .head _

/-- In a list in bay order the candidate before every other by the four keys is the best. -/
theorem bestReady_eq {last : Fin 2} {cs : List (Fin 8 × Nat × Board)} {x : Fin 8 × Nat × Board}
    (sorted : cs.Pairwise fun c d => c.1 < d.1) (hx : x ∈ cs)
    (first : ∀ d ∈ cs, d.1 ≠ x.1 → x.2.2.admissionKey last x.1 < d.2.2.admissionKey last d.1) :
    bestReady last cs = some x := by
  induction cs with
  | nil => cases hx
  | cons c cs ih =>
    obtain ⟨above, sorted⟩ := List.pairwise_cons.1 sorted
    unfold bestReady
    rcases List.mem_cons.1 hx with rfl | hx
    · split
      · rfl
      next d hd =>
        have mem := bestReady_mem hd
        have key := first d (.tail _ mem) (above d mem).ne'
        exact if_neg fun before => lt_asymm key (Board.admissionKey_lt_iff.2 (.inl before))
    · rw [ih sorted hx fun d hd => first d (.tail _ hd)]
      have before : Board.admittedBefore last x.2.2 c.2.2 = true :=
        (Board.admissionKey_lt_iff.1 (first c (.head _) (above x hx).ne)).resolve_right
          fun ⟨_, _, _, hlt⟩ => lt_asymm hlt (above x hx)
      exact if_pos before

/-! ## The board admitted (R128) -/

/-- An OVEN_READY board stands in the bay. -/
def State.ReadyIn (s : State) (n : Fin 8) (slot : Nat) (b : Board) : Prop :=
  s.bay n = .occupied slot ∧ s.board slot = some b ∧ b.life = .ovenReady

/-- What `State.readyBoards` lists of one bay. -/
def State.readyIn (s : State) (n : Fin 8) : Option (Fin 8 × Nat × Board) :=
  match s.bay n with
  | .occupied slot =>
    match s.board slot with
    | some b => if b.life = .ovenReady then some (n, slot, b) else none
    | none => none
  | .empty => none
  | .reserved _ => none

theorem State.readyBoards_eq (s : State) : s.readyBoards = allBays.filterMap s.readyIn := rfl

theorem State.readyIn_of_ready {n : Fin 8} {slot : Nat} {b : Board} (h : s.ReadyIn n slot b) :
    s.readyIn n = some (n, slot, b) := by
  obtain ⟨hn, hb, hl⟩ := h
  simp only [State.readyIn, hn, hb, if_pos hl]

theorem State.ready_of_readyIn {n : Fin 8} {c : Fin 8 × Nat × Board} (h : s.readyIn n = some c) :
    c.1 = n ∧ s.ReadyIn n c.2.1 c.2.2 := by
  unfold State.readyIn at h
  split at h
  next slot hn =>
    split at h
    next b hb =>
      split at h <;> cases h
      next hl => exact ⟨rfl, hn, hb, hl⟩
    · cases h
  · cases h
  · cases h

theorem State.mem_readyBoards {n : Fin 8} {slot : Nat} {b : Board} : (n, slot, b) ∈ s.readyBoards ↔ s.ReadyIn n slot b := by
  rw [State.readyBoards_eq, List.mem_filterMap]
  constructor
  · rintro ⟨m, _, hm⟩
    obtain ⟨rfl, ready⟩ := State.ready_of_readyIn hm
    exact ready
  · exact fun ready => ⟨n, mem_allBays n, State.readyIn_of_ready ready⟩

theorem State.readyBoards_sorted (s : State) : s.readyBoards.Pairwise fun c d => c.1 < d.1 := by
  have bays : allBays.Pairwise (· < ·) := by decide
  refine bays.filterMap s.readyIn fun m n hmn c hc d hd => ?_
  rwa [(State.ready_of_readyIn hc).1, (State.ready_of_readyIn hd).1]

theorem State.admitChoice_some {n : Fin 8} {slot : Nat} {b : Board} (ready : s.ReadyIn n slot b)
    (first : ∀ m slot' b', s.ReadyIn m slot' b' → m ≠ n →
      b.admissionKey s.oven.lastEntered n < b'.admissionKey s.oven.lastEntered m) : s.admitChoice = some (n, slot) := by
  have best : bestReady s.oven.lastEntered s.readyBoards = some (n, slot, b) :=
    bestReady_eq s.readyBoards_sorted (State.mem_readyBoards.2 ready)
      fun d hd => first d.1 d.2.1 d.2.2 (State.mem_readyBoards.1 hd)
  rw [State.admitChoice, best]
  rfl

theorem State.admitChoice_none (h : ∀ n slot b, ¬s.ReadyIn n slot b) : s.admitChoice = none := by
  have empty : s.readyBoards = [] := List.eq_nil_iff_forall_not_mem.2 fun ⟨n, slot, b⟩ hc =>
    h n slot b (State.mem_readyBoards.1 hc)
  rw [State.admitChoice, empty]
  rfl

/-! ## The decision (R127) -/

theorem LineMode.shuttleRuns_iff {m : LineMode} : m.shuttleRuns = true ↔ m = .run ∨ m = .drain ∨ m = .config := by
  simp [LineMode.shuttleRuns, or_assoc]

theorem State.admissionOpen_iff : s.admissionOpen = true ↔ s.oven.occupancy.length < 12 ∧
    (s.oven.entryStart.countP fun e => decide (s.clock < e.time + 1000 * s.line.limits.entryLength)) <
      s.line.limits.entryLimit ∧
    (∀ z, (s.zone z).stale = false) ∧ s.oven.staged = none := by
  have zones : s.anyStale = false ↔ ∀ z, (s.zone z).stale = false := by
    have mem : ∀ z, z ∈ allZones := by decide
    simp [State.anyStale, mem]
  simp only [State.admissionOpen, Bool.and_eq_true, decide_eq_true_eq, Bool.not_eq_true', zones, State.stagedPending,
    Option.isSome_eq_false_iff, Option.isNone_iff_eq_none, and_assoc]
  rfl

theorem State.decideShuttle_still (h : ¬(s.oven.shuttle = none ∧ s.line.mode.shuttleRuns = true)) : s.decideShuttle = s := by
  refine if_pos ?_
  rw [Option.isSome_iff_ne_none, Bool.not_eq_true', ← Bool.not_eq_true]
  exact not_and_or.1 h

theorem State.decideShuttle_divert {n : Fin 8} {slot : Nat} (free : s.oven.shuttle = none)
    (runs : s.line.mode.shuttleRuns = true) (h : s.divertChoice = some (n, slot)) : s.decideShuttle =
      (s.startShuttle .divert n slot).modBoard slot fun b => { b with loc := .toDivert } := by
  simp [State.decideShuttle, free, runs, h]

theorem State.decideShuttle_admit {n : Fin 8} {slot : Nat} (free : s.oven.shuttle = none)
    (runs : s.line.mode.shuttleRuns = true) (unmarked : s.divertChoice = none) (opened : s.admissionOpen = true)
    (h : s.admitChoice = some (n, slot)) : s.decideShuttle = s.startShuttle .admission n slot := by
  simp [State.decideShuttle, free, runs, unmarked, opened, h]

theorem State.decideShuttle_idle (unmarked : s.divertChoice = none) (h : s.admissionOpen = true → s.admitChoice = none) :
    s.decideShuttle = s := by
  unfold State.decideShuttle
  split
  · rfl
  · simp only [unmarked]
    split
    next opened => simp only [h opened]
    · rfl

/-! ## The end of a drain (R168) -/

theorem Board.beforeBuffer_iff {b : Board} :
    b.beforeBuffer = true ↔ b.life = .queued ∨ b.life = .atSpray ∨ b.life = .spraying := by
  simp [Board.beforeBuffer, or_assoc]

theorem State.drained_iff :
    s.drained = true ↔ ∀ k b, k < 32 → s.board k = some b → ¬(b.life = .queued ∨ b.life = .atSpray ∨ b.life = .spraying) := by
  simp only [State.drained, List.all_eq_true, Bool.not_eq_true', ← Bool.not_eq_true, Board.beforeBuffer_iff, Prod.forall,
    State.mem_boards, and_imp]
  rfl

theorem leftBeforeBuffer_iff : leftBeforeBuffer s0 s = true ↔ ∃ k b, k < 32 ∧ s0.board k = some b ∧
    (b.life = .queued ∨ b.life = .atSpray ∨ b.life = .spraying) ∧ (s.board k).any Board.beforeBuffer = false := by
  simp only [leftBeforeBuffer, List.any_eq_true, Bool.and_eq_true, Bool.not_eq_true', Board.beforeBuffer_iff, Prod.exists,
    State.mem_boards, and_assoc]
  rfl

/-- With no board left before the buffer, a board has left it where one stood there as the step began. -/
theorem State.drainEnd_condition : (s.line.mode = .drain ∧ leftBeforeBuffer s0 s = true ∧ s.drained = true) ↔
    s.line.mode = .drain ∧
      (∀ k b, k < 32 → s.board k = some b → ¬(b.life = .queued ∨ b.life = .atSpray ∨ b.life = .spraying)) ∧
      ∃ k b, k < 32 ∧ s0.board k = some b ∧ (b.life = .queued ∨ b.life = .atSpray ∨ b.life = .spraying) := by
  rw [leftBeforeBuffer_iff, State.drained_iff]
  constructor
  · rintro ⟨drain, ⟨k, b, hk, hb, early, -⟩, gone⟩
    exact ⟨drain, gone, k, b, hk, hb, early⟩
  · rintro ⟨drain, gone, k, b, hk, hb, early⟩
    refine ⟨drain, ⟨k, b, hk, hb, early, (Option.any_eq_false _ _).2 fun b' hb' => ?_⟩, gone⟩
    exact Bool.not_eq_true _ ▸ mt Board.beforeBuffer_iff.1 (gone k b' hk hb')

/-! ## The prompts (R127) -/

theorem State.readyAt_iff {k : Nat} : s.readyAt k = true ↔ ∃ b, s.board k = some b ∧ b.life = .ovenReady := by
  simp [State.readyAt, Option.any_eq_true]

theorem State.markedInBay_iff {k : Nat} :
    s.markedInBay k = true ↔ ∃ b n, s.board k = some b ∧ b.mark ≠ none ∧ b.loc = .bay n := by
  simp [State.markedInBay, Option.any_eq_true, Option.isSome_iff_ne_none, Location.isBay_iff]

theorem shuttlePrompt_iff : shuttlePrompt s0 s = true ↔
    s0.oven.shuttle ≠ none ∧ s.oven.shuttle = none ∨ s0.line.mode ≠ s.line.mode ∨
      ∃ k, k < 32 ∧ (s.readyAt k = true ∧ ¬s0.readyAt k = true ∨ s.markedInBay k = true ∧ ¬s0.markedInBay k = true) := by
  simp [shuttlePrompt, Option.isSome_iff_ne_none, or_assoc, Config.slots]

/-! ## The statement -/

/-- Settles O35: the decision by the choices of R127 and R128, and the end of a step by the drain's condition and the prompts. -/
theorem shuttleDecision : Obligations.ShuttleDecision := by
  unfold Obligations.ShuttleDecision
  refine ⟨fun s => ⟨fun h => ?_, fun n slot b free hn hb hl hm low => ?_, fun unmarked closed => ?_, fun unmarked empty => ?_,
    fun n slot b free unmarked opened ready first => ?_⟩, ?_⟩
  · exact State.decideShuttle_still (mt (And.imp_right LineMode.shuttleRuns_iff.1) h)
  · exact State.decideShuttle_divert free.1 (LineMode.shuttleRuns_iff.2 free.2) (State.divertChoice_some hn hb hl hm low)
  · exact State.decideShuttle_idle (State.divertChoice_none unmarked) fun opened => absurd (State.admissionOpen_iff.1 opened) closed
  · exact State.decideShuttle_idle (State.divertChoice_none unmarked) fun _ => State.admitChoice_none empty
  · exact State.decideShuttle_admit free.1 (LineMode.shuttleRuns_iff.2 free.2) (State.divertChoice_none unmarked)
      (State.admissionOpen_iff.2 opened) (State.admitChoice_some ready first)
  · intro s s0 u prompt early s1 drained ready marked prompted ended kept
    have close : s1.drainEnd s0 = u := by
      by_cases h : drained
      · refine (if_pos (State.drainEnd_condition.2 h)).trans ((ended h).trans ?_).symm
        rw [State.setMode, h.1]
      · exact (if_neg (mt State.drainEnd_condition.1 h)).trans (kept h).symm
    have asked : (prompt || shuttlePrompt s0 u) = true ↔ prompted := by
      simp only [Bool.or_eq_true, shuttlePrompt_iff, State.readyAt_iff, State.markedInBay_iff]
      rfl
    have settled : s.settle prompt s0 = if prompt || shuttlePrompt s0 u then u.decideShuttle else u := by
      rw [← close]
      rfl
    exact ⟨fun h => settled.trans (if_pos (asked.2 h)), fun h => settled.trans (if_neg (mt asked.1 h))⟩

end Sys2Proof.Machine
end

section
/-! The ends of a shuttle operation (O36): entry, divert and the two deadlines, each with its operation and without it. -/

namespace Sys2Proof.Machine

variable {s : State} {o : ShuttleOp}

/-! ## Without the operation (R131, R132) -/

theorem State.without_admission (h : ∀ o, s.oven.shuttle = some o → o.kind = .divert) :
    s.ovenEnter = s.post .oven ∧ s.admitDeadline = s := by
  unfold State.ovenEnter State.admitDeadline
  cases ho : s.oven.shuttle with
  | none => exact ⟨rfl, rfl⟩
  | some o => simp only [h o ho, and_self]

theorem State.without_divert (h : ∀ o, s.oven.shuttle = some o → o.kind = .admission) :
    s.divertPass = s.post .oven ∧ s.divertDeadline = s := by
  unfold State.divertPass State.divertDeadline
  cases ho : s.oven.shuttle with
  | none => exact ⟨rfl, rfl⟩
  | some o => simp only [h o ho, and_self]

/-! ## With the operation (R130 to R132) -/

theorem State.admitDeadline_ends (h : s.oven.shuttle = some o) (hk : o.kind = .admission) :
    s.admitDeadline = ((s.reach o.deadline).withdraw o.slot).settle false s := by
  simp only [State.admitDeadline, h, hk]

theorem State.divertDeadline_ends (h : s.oven.shuttle = some o) (hk : o.kind = .divert) : s.divertDeadline =
    ((((s.reach o.deadline).clearShuttle).modBoard o.slot fun b => { b with loc := .bay o.bay }).post .oven).settle
      false s := by
  simp only [State.divertDeadline, h, hk]

theorem markDisposition_some (m : Mark) :
    markDisposition (some m) = match m with | .rework => .rework | .scrap => .scrap := by
  cases m <;> rfl

theorem State.divertPass_ends {b : Board} {m : Mark} (h : s.oven.shuttle = some o) (hk : o.kind = .divert)
    (hb : s.board o.slot = some b) (hm : b.mark = some m) : s.divertPass =
      (s.clearShuttle.retire false o.slot (markDisposition (some m))).settle false s := by
  have marked : s.markAt o.slot = some m := by rw [State.markAt, hb, Option.bind_some, hm]
  simp only [State.divertPass, h, hk, marked]

theorem State.ovenEnter_ends (h : s.oven.shuttle = some o) (hk : o.kind = .admission) : s.ovenEnter = s.enterOven o := by
  simp only [State.ovenEnter, h, hk]

/-- What a change of a board does depends on that board alone. -/
theorem State.modBoard_const {slot : Nat} {b : Board} (hb : s.board slot = some b) (f : Board → Board) :
    s.modBoard slot f = s.modBoard slot fun _ => f b := by
  simp only [State.modBoard, hb]

theorem State.enterOven_eq {b : Board} (hb : s.board o.slot = some b) : s.enterOven o =
    let s1 := s.modBoard o.slot fun _ => s.entered b
    ((State.freeBay o.bay { s1 with oven := { s1.oven with
      occupancy := s.oven.occupancy ++ [o.slot]
      entryStart := entryAppended s.clock s.oven.entryStart
      lastEntered := b.lane } }).clearShuttle).settle false s := by
  simp only [State.enterOven, hb, Option.elim_some, s.modBoard_const hb, State.modBoard_oven]

/-- Settles O36: each event and each deadline by the operation it finds. -/
theorem shuttleEnds : Obligations.ShuttleEnds := by
  unfold Obligations.ShuttleEnds
  refine fun s => ⟨fun init => ⟨?_, ?_⟩, fun run h => ?_, fun run h => ?_, fun h => ?_, fun h => ?_, fun o ho =>
    ⟨fun hk => ?_, fun hk => ?_, fun hk run b m hb hm => ?_, fun hk run b hb => ?_⟩⟩
  · exact congrArg Host.Outcome.next (if_pos init)
  · exact congrArg Host.Outcome.next (if_pos init)
  · exact congrArg Host.Outcome.next ((if_neg run).trans (State.without_admission h).1)
  · exact congrArg Host.Outcome.next ((if_neg run).trans (State.without_divert h).1)
  · exact congrArg Host.Outcome.next (State.without_admission h).2
  · exact congrArg Host.Outcome.next (State.without_divert h).2
  · exact congrArg Host.Outcome.next (State.admitDeadline_ends ho hk)
  · exact congrArg Host.Outcome.next (State.divertDeadline_ends ho hk)
  · refine congrArg Host.Outcome.next ((if_neg run).trans ((State.divertPass_ends ho hk hb hm).trans ?_))
    rw [markDisposition_some]
    rfl
  · exact congrArg Host.Outcome.next ((if_neg run).trans ((State.ovenEnter_ends ho hk).trans (State.enterOven_eq hb)))

end Sys2Proof.Machine
end

section
/-! Zone samples, stale zones and zone changes, and the credit of one board (O37). -/

namespace Sys2Proof.Machine

variable {s : State} {slot : Nat} {b : Board}

/-! ## Zone samples (R137) -/

theorem zoneOf_outside {n : Nat} (h : n = 0 ∨ 4 < n) : zoneOf n = none :=
  dif_neg (by omega)

theorem zoneOf_succ (z : Fin 4) : zoneOf (z.val + 1) = some z :=
  dif_pos (by omega)

theorem zoneOf_inside {n : Nat} (h1 : 1 ≤ n) (h4 : n ≤ 4) : ∃ z, zoneOf n = some z :=
  ⟨_, dif_pos ⟨h1, h4⟩⟩

theorem clampTemp_eq (x : BitVec 16) : clampTemp x = (max 0 (min 3000 x.toInt)).toNat := by
  have limit : Config.tempLimit = 3000 := rfl
  rw [clampTemp, limit]
  omega

theorem State.zoneSample_outside {n : Nat} (h : n = 0 ∨ 4 < n) (x : BitVec 16) (f : Bool) :
    s.zoneSample n x f = s.post .oven := by
  simp only [State.zoneSample, zoneOf_outside h]

theorem State.zoneSample_fault {n : Nat} (h1 : 1 ≤ n) (h4 : n ≤ 4) (x : BitVec 16) : s.zoneSample n x true = s := by
  obtain ⟨z, hz⟩ := zoneOf_inside h1 h4
  simp only [State.zoneSample, hz, if_true]

theorem State.zoneSample_valid (z : Fin 4) (x : BitVec 16) :
    s.zoneSample (z.val + 1) x false = s.validSample z (clampTemp x) := by
  simp [State.zoneSample, zoneOf_succ]

/-- The boards credited are those that stand in the zone before the sample. -/
theorem State.creditZone_of {t : State} (z x : Nat) (ho : t.oven.occupancy = s.oven.occupancy) (hb : t.board = s.board) :
    t.creditZone z x = (s.oven.occupancy.filter fun k => (s.board k).any fun b => decide (b.zone = some z)).foldl
      (fun w k => w.creditBoard x k) t := by
  have zone : t.inZone z = fun k => (s.board k).any fun b => decide (b.zone = some z) := by
    funext k
    rw [State.inZone, hb]
  rw [State.creditZone, ho, zone]

theorem State.validSample_eq (z : Fin 4) (t : Nat) : s.validSample z t =
    let u := s.setZone z ⟨t, some s.clock, false, some (s.clock + 3000)⟩
    ((s.oven.occupancy.filter fun k => (s.board k).any fun b => decide (b.zone = some (z.val + 1))).foldl
      (fun w k => w.creditBoard t k) (if (s.zone z).stale then u.post .oven else u)).settle (s.zone z).stale s := by
  refine congrArg (fun v : State => v.settle (s.zone z).stale s) (State.creditZone_of _ _ ?_ ?_)
  · split
    · rw [State.post_record]; rfl
    · rfl
  · split
    · rw [State.post_record]; rfl
    · rfl

/-! ## A stale zone (R138, R131) -/

theorem State.post_of_mem {n : Notice} (h : n ∈ s.notices) : s.post n = s := by
  simp [State.post, h]

/-- A withdrawal after an OVEN notice posts no other. -/
theorem State.withdrawAny_posted (s : State) : (s.post .oven).withdrawAny =
    match s.oven.shuttle with
    | some o => if o.kind = ShuttleKind.admission then (s.post .oven).clearShuttle.heldOver o.slot else s.post .oven
    | none => s.post .oven := by
  have once : (s.post .oven).clearShuttle.post .oven = (s.post .oven).clearShuttle :=
    State.post_of_mem ((s.mem_post _ _).2 (.inl rfl))
  have shuttle : (s.post .oven).oven.shuttle = s.oven.shuttle := by rw [State.post_record]
  unfold State.withdrawAny
  rw [shuttle]
  cases s.oven.shuttle with
  | none => rfl
  | some o => cases hk : o.kind <;> simp [hk, State.withdraw, once]

theorem State.zoneStale_due {z : Fin 4} {d : Nat} (h : (s.zone z).deadline = some d) : s.zoneStale z =
    let u := ((s.reach d).setZone z { s.zone z with stale := true, deadline := none }).post .oven
    (match s.oven.shuttle with
      | some o => if o.kind = ShuttleKind.admission then u.clearShuttle.heldOver o.slot else u
      | none => u).settle false s := by
  rw [State.zoneStale, h]
  exact congrArg (fun v : State => v.settle false s) (State.withdrawAny_posted _)

/-! ## Zone changes (R139) -/

/-- The end time of zones 1 to 3. -/
def OvenSettings.endOf (v : OvenSettings) : Nat → Nat
  | 1 => v.end1
  | 2 => v.end2
  | _ => v.end3

theorem OvenSettings.zoneEnd_eq {v : OvenSettings} {z : Nat} (h1 : 1 ≤ z) (h3 : z ≤ 3) : v.zoneEnd z = some (v.endOf z) := by
  obtain rfl | rfl | rfl : z = 1 ∨ z = 2 ∨ z = 3 := by omega
  all_goals rfl

theorem State.zoneChange_due {e z : Nat} (hb : s.board slot = some b) (hl : b.life = .inOven) (he : b.ovenEntry = some e)
    (hz : b.zone = some z) (h1 : 1 ≤ z) (h3 : z ≤ 3) : s.zoneChange slot =
      (s.reach (e + 1000 * s.oven.settings.endOf z)).setBoard slot (some { b with zone := some (z + 1) }) := by
  have due : s.zoneChangeAt b = some (e + 1000 * s.oven.settings.endOf z) := by
    simp only [State.zoneChangeAt, he, hz, Option.bind_some, OvenSettings.zoneEnd_eq h1 h3, hl, if_true]
  have board : (s.reach (e + 1000 * s.oven.settings.endOf z)).board slot = some b := hb
  simp only [State.zoneChange, hb, Option.bind_some, due, State.modBoardQuiet_some board, hz, Option.map_some]

theorem State.zoneChangeAt_none (h : b.life ≠ .inOven ∨ b.zone = some 4) : s.zoneChangeAt b = none := by
  unfold State.zoneChangeAt
  split
  next e z he hz =>
    refine if_neg fun inside => ?_
    rcases h with outside | last
    · exact outside inside
    · rw [last] at hz
      cases hz
  · rfl

theorem State.zoneChange_idle (h : ∀ b, s.board slot = some b → b.life ≠ .inOven ∨ b.zone = some 4) :
    s.zoneChange slot = s := by
  have none : (s.board slot).bind s.zoneChangeAt = none :=
    Option.bind_eq_none_iff.mpr fun b hb => State.zoneChangeAt_none (h b hb)
  rw [State.zoneChange, none]

/-! ## The credit of one board (R140, R142, R143) -/

theorem creditTime_eq (now last : Nat) : creditTime now last = (min 2000 (now - last), decide (2000 < now - last)) := by
  have limit : Config.creditLimit = 2000 := rfl
  unfold creditTime
  rw [limit]
  split
  next h => rw [min_eq_left h.le, decide_eq_true h]
  next h => rw [min_eq_right (not_lt.1 h), decide_eq_false h]

/-- A temperature above the max_temp of a material that the board has used. -/
def State.Hot (s : State) (t : Nat) (b : Board) : Prop := ∃ m ∈ b.used.members, (s.mat m).maxTemp < t

theorem State.hot_iff {t : Nat} : (b.used.members.any fun m => decide ((s.mat m).maxTemp < t)) = true ↔ s.Hot t b := by
  simp [State.Hot]

/-- The board with its time and accumulators credited. -/
def State.dosed (s : State) (t last : Nat) (b : Board) : Board := { b with
  lastCredit := some s.clock
  doseGap := b.doseGap || decide (2000 < s.clock - last)
  accs := b.accs.map fun a => a.credit ((s.mat a.material).rate t) (min 2000 (s.clock - last)) }

theorem State.credited_eq {t last : Nat} (hl : b.lastCredit = some last) : s.credited t b =
    { s.dosed t last b with
      overTemp := b.overTemp || b.used.members.any fun m => decide ((s.mat m).maxTemp < t) } := by
  simp only [State.credited, State.dosed, hl, Option.getD_some, creditTime_eq]

theorem State.credited_seen {t last : Nat} (hl : b.lastCredit = some last) (h : ¬s.Hot t b ∨ b.overTemp = true) :
    s.credited t b = s.dosed t last b := by
  have same : (b.overTemp || b.used.members.any fun m => decide ((s.mat m).maxTemp < t)) = b.overTemp := by
    rcases h with cool | seen
    · rw [Bool.eq_false_of_not_eq_true (mt State.hot_iff.1 cool), Bool.or_false]
    · rw [seen, Bool.true_or]
  rw [State.credited_eq hl, same]
  rfl

theorem State.credited_first {t last : Nat} (hl : b.lastCredit = some last) (h : s.Hot t b) :
    s.credited t b = { s.dosed t last b with overTemp := true } := by
  rw [State.credited_eq hl, State.hot_iff.2 h, Bool.or_true]

theorem State.creditBoard_eq {t : Nat} (hb : s.board slot = some b) : s.creditBoard t slot =
    if b.overTemp = false ∧ (s.credited t b).overTemp = true then (s.setBoard slot (some (s.credited t b))).raise 10 slot
    else s.setBoard slot (some (s.credited t b)) := by
  simp only [State.creditBoard, hb, State.modBoardQuiet_some hb, Bool.and_eq_true, Bool.not_eq_true']

theorem State.creditBoard_seen {t last : Nat} (hb : s.board slot = some b) (hl : b.lastCredit = some last)
    (h : ¬s.Hot t b ∨ b.overTemp = true) : s.creditBoard t slot = s.setBoard slot (some (s.dosed t last b)) := by
  rw [State.creditBoard_eq hb, State.credited_seen hl h]
  exact if_neg fun ⟨clear, set⟩ => Bool.false_ne_true (clear.symm.trans set)

theorem State.creditBoard_first {t last : Nat} (hb : s.board slot = some b) (hl : b.lastCredit = some last)
    (h : s.Hot t b) (clear : b.overTemp = false) : s.creditBoard t slot =
      (s.setBoard slot (some { s.dosed t last b with overTemp := true })).raise 10 slot := by
  rw [State.creditBoard_eq hb, State.credited_first hl h]
  exact if_pos ⟨clear, rfl⟩

/-! ## The statement -/

/-- Settles O37: a sample by its zone and fault mark, the two expiries by their timers, and the credit of a board by whether a
max_temp is first seen passed. -/
theorem zoneEvents : Obligations.ZoneEvents := by
  unfold Obligations.ZoneEvents
  refine ⟨fun n x slot s => ⟨fun f init => ?_, fun f run h => ?_, fun run h1 h4 => ?_, fun z run hz => ?_,
    fun z => ⟨fun h => ?_, fun d h => ?_⟩, fun b e z hb hl he hz h1 h3 => ?_, fun h => ?_⟩, fun t slot s b last hb hl =>
    ⟨fun cool => ?_, fun _ seen => ?_, fun hot clear => ?_⟩⟩
  · exact congrArg Host.Outcome.next (if_pos init)
  · exact congrArg Host.Outcome.next ((if_neg run).trans (State.zoneSample_outside h x f))
  · exact congrArg Host.Outcome.next ((if_neg run).trans (State.zoneSample_fault h1 h4 x))
  · subst hz
    refine congrArg Host.Outcome.next ((if_neg run).trans ((State.zoneSample_valid z x).trans ?_))
    rw [clampTemp_eq, State.validSample_eq]
  · exact congrArg Host.Outcome.next (by rw [State.zoneStale, h])
  · exact congrArg Host.Outcome.next (State.zoneStale_due h)
  · exact congrArg Host.Outcome.next (State.zoneChange_due hb hl he hz h1 h3)
  · exact congrArg Host.Outcome.next (State.zoneChange_idle h)
  · exact State.creditBoard_seen hb hl (.inl cool)
  · exact State.creditBoard_seen hb hl (.inr seen)
  · exact State.creditBoard_first hb hl hot clear

end Sys2Proof.Machine
end

section
/-! The rate at a temperature (O39) and the credit of one accumulator (O40). -/

namespace Sys2Proof.Machine

/-! ## The rate (R141) -/

/-- A share `d` of `w` of a change `c`, truncated toward zero, lies between no change and the whole of it. -/
theorem tdiv_share_between {c d w : Int} (hd : 0 ≤ d) (hdw : d ≤ w) (hw : 0 < w) :
    min 0 c ≤ Int.tdiv (c * d) w ∧ Int.tdiv (c * d) w ≤ max 0 c := by
  have share {x : Int} (hx : 0 ≤ x) : 0 ≤ Int.tdiv (x * d) w ∧ Int.tdiv (x * d) w ≤ x := by
    rw [Int.tdiv_eq_ediv_of_nonneg (mul_nonneg hx hd)]
    exact ⟨Int.ediv_nonneg (mul_nonneg hx hd) hw.le,
      Int.ediv_le_of_le_mul hw (mul_le_mul_of_nonneg_left hdw hx)⟩
  rcases le_total 0 c with rises | falls
  · have up := share rises
    omega
  · have down := share (neg_nonneg.2 falls)
    rw [neg_mul, Int.neg_tdiv] at down
    omega

/-- The interpolated rate lies between the rates of its two points, so nothing is cut off below 0. -/
theorem interpolate_spec {p q : Nat × Nat} {t : Nat} (hp : p.1 ≤ t) (hq : t < q.1) :
    (interpolate p q t : Int) = p.2 + Int.tdiv (((q.2 : Int) - p.2) * ((t : Int) - p.1)) ((q.1 : Int) - p.1) ∧
      min p.2 q.2 ≤ interpolate p q t ∧ interpolate p q t ≤ max p.2 q.2 := by
  have share := tdiv_share_between (c := (q.2 : Int) - p.2) (d := (t : Int) - p.1) (w := (q.1 : Int) - p.1)
    (by omega) (by omega) (by omega)
  unfold interpolate
  omega

theorem interpolate_at (p q : Nat × Nat) : interpolate p q p.1 = p.2 := by
  simp [interpolate]

theorem rateFrom_first {p : Nat × Nat} {rest : List (Nat × Nat)} {t : Nat} (h : t ≤ p.1) :
    rateFrom (p :: rest) t = p.2 := by
  cases rest with
  | nil => rfl
  | cons q rest => exact if_pos h

/-- The points below the last one that the temperature reaches do not count. -/
theorem rateFrom_skip {before : List (Nat × Nat)} {p : Nat × Nat} {rest : List (Nat × Nat)} {t : Nat}
    (below : ∀ o ∈ before, o.1 < p.1) (hp : p.1 ≤ t) :
    rateFrom (before ++ p :: rest) t = rateFrom (p :: rest) t := by
  induction before with
  | nil => rfl
  | cons o before ih =>
    obtain ⟨lowest, others⟩ := List.forall_mem_cons.1 below
    have past : ¬t ≤ o.1 := by omega
    refine Eq.trans ?_ (ih others)
    cases before with
    | nil => exact (if_neg past).trans (if_neg (by omega))
    | cons o' before =>
      have ordered : o'.1 < p.1 := others o' List.mem_cons_self
      exact (if_neg past).trans (if_neg (by omega))

/-- At the interval's first point its rate answers, which is what interpolation gives there. -/
theorem rateFrom_interval {p q : Nat × Nat} {after : List (Nat × Nat)} {t : Nat} (hp : p.1 ≤ t) (hq : t < q.1) :
    rateFrom (p :: q :: after) t = interpolate p q t := by
  rcases hp.eq_or_lt with rfl | above
  · rw [rateFrom_first le_rfl, interpolate_at]
  · exact (if_neg above.not_ge).trans (if_pos hq)

/-- In an ascending table the points before a point are below it. -/
theorem ascending_below {before rest : List (Nat × Nat)} {p : Nat × Nat}
    (h : (before ++ p :: rest).Pairwise fun a b => a.1 < b.1) : ∀ o ∈ before, o.1 < p.1 :=
  fun o ho => (List.pairwise_append.1 h).2.2 o ho p List.mem_cons_self

/-- Settles O39: the first point, the last point, and the interval after the points that the temperature has passed. -/
theorem cureRate : Obligations.CureRate := by
  unfold Obligations.CureRate
  intro m t ascending
  refine ⟨fun p head low => ?_, fun p last high => ?_, fun before p q after points hp hq => ?_⟩
  · obtain ⟨rest, points⟩ := List.head?_eq_some_iff.1 head
    rw [MaterialRecord.rate, points, rateFrom_first low]
  · obtain ⟨before, points⟩ := List.getLast?_eq_some_iff.1 last
    rw [points] at ascending
    rw [MaterialRecord.rate, points, rateFrom_skip (ascending_below ascending) high]
    rfl
  · rw [points] at ascending
    rw [MaterialRecord.rate, points, rateFrom_skip (ascending_below ascending) hp, rateFrom_interval hp hq]
    exact interpolate_spec hp hq

/-! ## The credit of one accumulator (R142) -/

variable {a : Accumulator} {r dt : Nat}

theorem Accumulator.credit_full (h : a.saturated = true ∨ Config.doseLimit < a.dose + (r * dt + a.rest) / 256) :
    a.credit r dt = { a with dose := Config.doseLimit, rest := 0, saturated := true } :=
  if_pos (by simpa using h)

theorem Accumulator.credit_within (clear : a.saturated = false)
    (h : a.dose + (r * dt + a.rest) / 256 ≤ Config.doseLimit) : a.credit r dt =
      { a with dose := a.dose + (r * dt + a.rest) / 256, rest := (r * dt + a.rest) % 256 } :=
  if_neg (by simpa [clear] using h)

theorem Accumulator.credit_cases (a : Accumulator) (r dt : Nat) :
    (a.saturated = true ∨ Config.doseLimit < a.dose + (r * dt + a.rest) / 256) ∨
      a.saturated = false ∧ a.dose + (r * dt + a.rest) / 256 ≤ Config.doseLimit := by
  rw [← not_lt, ← Bool.not_eq_true, ← not_or]
  exact em _

theorem Accumulator.credit_material (a : Accumulator) (r dt : Nat) : (a.credit r dt).material = a.material := by
  rcases a.credit_cases r dt with full | ⟨clear, within⟩
  · rw [credit_full full]
  · rw [credit_within clear within]

theorem Accumulator.dose_le_credit (h : a.dose ≤ Config.doseLimit) (r dt : Nat) : a.dose ≤ (a.credit r dt).dose := by
  rcases a.credit_cases r dt with full | ⟨clear, within⟩
  · rw [credit_full full]
    exact h
  · rw [credit_within clear within]
    exact Nat.le_add_right _ _

/-- Quotient and remainder by 256 together lose nothing of what is credited. -/
theorem Accumulator.credit_exact (clear : a.saturated = false)
    (h : a.dose + (r * dt + a.rest) / 256 ≤ Config.doseLimit) :
    256 * (a.credit r dt).dose + (a.credit r dt).rest = 256 * a.dose + a.rest + r * dt ∧
      (a.credit r dt).saturated = false := by
  rw [credit_within clear h]
  refine ⟨?_, clear⟩
  have parts := Nat.div_add_mod (r * dt + a.rest) 256
  dsimp only
  omega

theorem Accumulator.credit_stands
    (h : a.saturated = true ∨ Config.doseLimit < a.dose + (r * dt + a.rest) / 256) :
    (a.credit r dt).dose = Config.doseLimit ∧ (a.credit r dt).rest = 0 ∧ (a.credit r dt).saturated = true := by
  rw [credit_full h]
  exact ⟨rfl, rfl, rfl⟩

/-- Settles O40: the time credited, then the accumulator by whether its dose would pass the limit or has been marked. -/
theorem doseCredit : Obligations.DoseCredit := by
  unfold Obligations.DoseCredit
  intro a r now last hdose _ _
  rw [creditTime_eq]
  intro dt u
  have range : u.InRange := a.credit_inRange r dt
  exact ⟨rfl, decide_eq_true_iff, a.credit_material r dt, Accumulator.dose_le_credit hdose r dt, range.dose, range.rest,
    fun within clear => Accumulator.credit_exact clear within,
    fun passes => Accumulator.credit_stands (.inr passes),
    fun marked => Accumulator.credit_stands (.inl marked)⟩

end Sys2Proof.Machine
end

section
/-! HOLD_TAKE: the candidates, their order and the one taken; HOLD_STATUS: its tests and its boards (O44). -/

namespace Sys2Proof.Machine

variable {s : State} {slot n : Nat} {b : Board} {c d : Candidate}

/-! ## The candidates (R159) -/

theorem NumSet.has_leave {w : Nat} (x : NumSet w) (i j : Nat) : (x.leave i).has j = (x.has j && decide (j ≠ i)) := by
  by_cases hj : j < w
  · simp [NumSet.leave, NumSet.has, hj, eq_comm]
  · simp [NumSet.leave, NumSet.has, BitVec.getLsbD_of_ge, not_lt.mp hj]

/-- A candidate is an occupied slot with an unmasked reason that stands pending on its board. -/
def State.IsCandidate (s : State) (slot n : Nat) : Prop :=
  slot < 32 ∧ n < 16 ∧ (s.route n).masked = false ∧ ∃ b, s.board slot = some b ∧ b.pendingSet.has n = true

theorem State.mem_candidates : c ∈ s.candidates ↔ s.IsCandidate c.slot c.reason := by
  obtain ⟨k, m⟩ := c
  simp only [State.candidates, State.IsCandidate, List.mem_flatMap, List.mem_map, List.mem_filter, NumSet.mem_members,
    State.mem_boards, Candidate.mk.injEq, Bool.not_eq_true']
  constructor
  · rintro ⟨⟨j, b⟩, ⟨hj, hb⟩, i, ⟨⟨hi, hp⟩, hm⟩, rfl, rfl⟩
    exact ⟨hj, hi, hm, b, hb, hp⟩
  · rintro ⟨hk, hm, hu, b, hb, hp⟩
    exact ⟨(k, b), ⟨hk, hb⟩, m, ⟨⟨hm, hp⟩, hu⟩, rfl, rfl⟩

theorem State.boards_pairwise (s : State) : s.boards.Pairwise fun p q => p.1 ≠ q.1 := by
  refine List.pairwise_filterMap.mpr (List.nodup_range.imp fun {j k} hjk p hp q hq => ?_)
  obtain ⟨_, _, rfl⟩ := Option.map_eq_some_iff.mp hp
  obtain ⟨_, _, rfl⟩ := Option.map_eq_some_iff.mp hq
  exact hjk

theorem State.candidates_nodup (s : State) : s.candidates.Nodup := by
  refine List.nodup_flatMap.mpr ⟨fun p _ => ?_, s.boards_pairwise.imp fun {p q} apart => ?_⟩
  · exact ((List.nodup_range.filter _).filter _).map fun i j h => (Candidate.mk.inj h).2
  · intro c hp hq
    obtain ⟨_, _, rfl⟩ := List.mem_map.mp hp
    obtain ⟨_, _, same⟩ := List.mem_map.mp hq
    exact apart (Candidate.mk.inj same).1.symm

/-! ## The order of a take (R159) -/

/-- Below 32 the last-taken slot gives the rotation in which the slot after it stands first. -/
theorem rotation_eq {last : Nat} (h : last < 32) (slot : Nat) : rotation last slot = (slot + 31 - last) % 32 := by
  unfold rotation
  omega

/-- The key orders as its three parts do, one after another, as the last two stay below their factors. -/
theorem State.takeKey_lt (hc : c.reason < 16) (hd : d.reason < 16)
    (h : (s.route c.reason).priority < (s.route d.reason).priority ∨
      (s.route c.reason).priority = (s.route d.reason).priority ∧
        (rotation s.hold.lastTaken c.slot < rotation s.hold.lastTaken d.slot ∨
          rotation s.hold.lastTaken c.slot = rotation s.hold.lastTaken d.slot ∧ c.reason < d.reason)) :
    s.takeKey c < s.takeKey d := by
  have turn (slot : Nat) : rotation s.hold.lastTaken slot < 32 := Nat.mod_lt _ (by decide)
  have first := turn c.slot
  have second := turn d.slot
  unfold State.takeKey
  omega

theorem State.takeChoice_none (h : ∀ k m, ¬s.IsCandidate k m) : s.takeChoice = none := by
  have empty : s.candidates = [] := List.eq_nil_iff_forall_not_mem.mpr fun c hc => h _ _ (State.mem_candidates.mp hc)
  rw [State.takeChoice, empty]
  rfl

theorem State.takeChoice_of_first (hlast : s.hold.lastTaken < 32) (hc : s.IsCandidate slot n)
    (first : ∀ k m, s.IsCandidate k m → (k, m) ≠ (slot, n) → (s.route n).priority < (s.route m).priority ∨
      (s.route n).priority = (s.route m).priority ∧
        ((slot + 31 - s.hold.lastTaken) % 32 < (k + 31 - s.hold.lastTaken) % 32 ∨
          (slot + 31 - s.hold.lastTaken) % 32 = (k + 31 - s.hold.lastTaken) % 32 ∧ n < m)) :
    s.takeChoice = some ⟨slot, n⟩ := by
  refine firstBy_of_least (State.mem_candidates.mpr hc) fun d hd other => ?_
  obtain ⟨k, m⟩ := d
  have hd := State.mem_candidates.mp hd
  obtain ⟨-, hn, -⟩ := hc
  have ⟨_, hm, _⟩ := hd
  refine State.takeKey_lt hn hm ?_
  simp only [rotation_eq hlast]
  exact first k m hd fun same => other (by rw [(Prod.mk.inj same).1, (Prod.mk.inj same).2])

/-! ## The take (R159) -/

theorem State.takeReason_eq (hb : s.board slot = some b) (n : Nat) : s.takeReason ⟨slot, n⟩ =
    { s.setBoard slot (some { b with pendingSet := b.pendingSet.leave n, inService := b.inService.join n }) with
      hold := { s.hold with lastTaken := slot } } := by
  simp only [State.takeReason, State.modBoardQuiet_some hb]
  rfl

theorem State.takeReason_route (c : Candidate) (m : Nat) : (s.takeReason c).route m = s.route m := by
  have rest := (State.onlyAt_modBoardQuiet (s := s) c.slot fun b => { b with
    pendingSet := b.pendingSet.leave c.reason, inService := b.inService.join c.reason }).rest
  exact (congrArg (fun u : State => u.route m) rest :)

theorem State.takeReason_board (c : Candidate) (k : Nat) : (s.takeReason c).board k =
    if k = c.slot then (s.board k).map fun b => { b with
      pendingSet := b.pendingSet.leave c.reason, inService := b.inService.join c.reason } else s.board k := by
  split
  next same =>
    subst same
    exact State.modBoardQuiet_board c.slot _
  next other => exact (State.onlyAt_modBoardQuiet c.slot _).other k other

/-- A take leaves every candidate but the one taken. -/
theorem State.takeReason_isCandidate (c : Candidate) (k m : Nat) :
    (s.takeReason c).IsCandidate k m ↔ s.IsCandidate k m ∧ ¬(k = c.slot ∧ m = c.reason) := by
  simp only [State.IsCandidate, State.takeReason_route, State.takeReason_board]
  by_cases hk : k = c.slot
  · simp [hk, NumSet.has_leave, ← and_assoc]
  · simp [hk]

theorem State.takeReason_candidates_length (hc : c ∈ s.candidates) :
    (s.takeReason c).candidates.length = s.candidates.length - 1 := by
  rw [← List.length_erase_of_mem hc]
  refine ((List.perm_ext_iff_of_nodup (State.candidates_nodup _) (s.candidates_nodup.erase c)).mpr fun d => ?_).length_eq
  rw [s.candidates_nodup.mem_erase_iff, State.mem_candidates, State.mem_candidates, State.takeReason_isCandidate, and_comm]
  obtain ⟨k, m⟩ := d
  obtain ⟨slot, n⟩ := c
  rw [Ne, Candidate.mk.injEq]

/-! ## HOLD_TAKE -/

theorem execHoldTake_eq (t : Byte) : execHoldTake t s = .next (
    let i : Instr := .holdTake t
    if s.line.mode = .initializing then s.replied i 0x38 .wrongMode .empty
    else
      match s.takeChoice with
      | none => s.replied i 0x38 .ok .empty
      | some c => ((s.take i).takeReason c).answer (s.header i) 0x38 .ok
          (.holdTake (s.takeView c) ((s.take i).takeReason c).candidates.length)) := by
  rw [execHoldTake, State.request_unlessInit]
  rfl

theorem execHoldTake_taken {t : Byte} (hmode : s.line.mode ≠ .initializing) (hc : s.takeChoice = some ⟨slot, n⟩)
    (hb : s.board slot = some b) :
    execHoldTake t s =
      let i : Instr := .holdTake t
      .next ({ (s.take i).setBoard slot (some { b with
          pendingSet := b.pendingSet.leave n, inService := b.inService.join n }) with
        hold := { s.hold with lastTaken := slot } }.answer (s.header i) 0x38 .ok
          (.holdTake ⟨slot, b.tag, n, s.route n⟩ (s.candidates.length - 1))) := by
  let u := s.take (.holdTake t)
  have view : s.takeView ⟨slot, n⟩ = ⟨slot, b.tag, n, s.route n⟩ := by
    simp only [State.takeView, hb]
    rfl
  have left : (u.takeReason ⟨slot, n⟩).candidates.length = s.candidates.length - 1 :=
    State.takeReason_candidates_length (s := u) (firstBy_mem _ hc)
  simp only [execHoldTake_eq, if_neg hmode, hc, view]
  rw [show (State.takeReason _ (s.take _)).candidates.length = _ from left, State.takeReason_eq (s := u) hb]
  rfl

/-! ## HOLD_STATUS (R162) -/

theorem execHoldStatus_eq (t : Byte) (slot first : Nat) : execHoldStatus t slot first s = .next (
    let i : Instr := .holdStatus t slot first
    if s.line.mode = .initializing then s.replied i 0x3A .wrongMode .empty
    else if slot = 0xFF then
      if first < 32 then s.replied i 0x3A .ok
        (s.holdBody ((s.heldFrom first).take 8) (some (((s.heldFrom first).drop 8).head?.map (·.1))))
      else s.replied i 0x3A .outOfRange .empty
    else if slot < 32 then
      match s.board slot with
      | none => s.replied i 0x3A .notFound .empty
      | some b => s.replied i 0x3A .ok (s.holdBody [(slot, b)] none)
    else s.replied i 0x3A .outOfRange .empty) := by
  rw [execHoldStatus, State.request_unlessInit]
  simp only [slotOk, decide_eq_true_eq]
  rfl

theorem State.heldFrom_eq (first : Nat) : s.heldFrom first = s.boards.filter fun p =>
    decide (first ≤ p.1) && decide (p.2.pendingSet ≠ 0#16 ∨ p.2.inService ≠ 0#16) := by
  simp only [State.heldFrom, Bool.decide_or]

/-- Settles O44: a take by the candidate chosen, and the status by the range of its slot or first slot and the board found. -/
theorem holdTakeAndStatus : Obligations.HoldTakeAndStatus := by
  unfold Obligations.HoldTakeAndStatus
  refine ⟨fun t s => ⟨fun initializing => ?_, fun hmode noCandidate => ?_, fun slot n b hmode hlast hc hb first => ?_⟩,
    fun t slot first s => ⟨fun initializing => ?_, fun hmode => ⟨fun outOfRange => ?_, fun hslot empty => ?_,
      fun b hslot hb => ?_, fun all hfirst => ?_⟩⟩⟩
  · exact (execHoldTake_eq t).trans (by rw [if_pos initializing])
  · exact (execHoldTake_eq t).trans (by simp only [if_neg hmode, State.takeChoice_none noCandidate])
  · exact execHoldTake_taken hmode (State.takeChoice_of_first hlast hc first) hb
  · exact (execHoldStatus_eq t slot first).trans (by rw [if_pos initializing])
  · refine (execHoldStatus_eq t slot first).trans ?_
    obtain ⟨high, notAll⟩ | ⟨all, high⟩ := outOfRange
    · simp only [if_neg hmode, if_neg notAll, if_neg (not_lt.mpr high)]
    · simp only [if_neg hmode, if_pos all, if_neg (not_lt.mpr high)]
  · refine (execHoldStatus_eq t slot first).trans ?_
    simp only [if_neg hmode, if_neg (show slot ≠ 0xFF by omega), if_pos hslot, empty]
  · refine (execHoldStatus_eq t slot first).trans ?_
    simp only [if_neg hmode, if_neg (show slot ≠ 0xFF by omega), if_pos hslot, hb]
    rfl
  · refine (execHoldStatus_eq t slot first).trans ?_
    simp only [if_neg hmode, if_pos all, if_pos hfirst, State.heldFrom_eq]
    rfl

end Sys2Proof.Machine
end

section
/-! SUPPORT. The shared operations over boards, heads, applicators and the shuttle leave the line record as it is. -/

namespace Sys2Proof.Machine

variable {s : State}

/-! ## Boards, applicators and lanes -/

@[simp] theorem State.line_modBoard (k : Nat) (f : Board → Board) : (s.modBoard k f).line = s.line := by
  rw [State.modBoard_rest]

@[simp] theorem State.line_modBoardQuiet (k : Nat) (f : Board → Board) : (s.modBoardQuiet k f).line = s.line := by
  unfold State.modBoardQuiet; split <;> rfl

@[simp] theorem State.line_modUnit (a : Fin 6) (f : Applicator → Applicator) : (s.modUnit a f).line = s.line := by
  rw [State.modUnit_rest]

@[simp] theorem State.line_setStatus (l : Fin 2) (st : LaneStatus) : (s.setStatus l st).line = s.line := by
  rw [State.setStatus_rest]

@[simp] theorem State.line_clearNeed (l : Fin 2) : (s.clearNeed l).line = s.line := by simp [State.clearNeed]

@[simp] theorem State.line_stopLane (l : Fin 2) : (s.stopLane l).line = s.line := by simp [State.stopLane]

@[simp] theorem State.line_laneOver (l : Fin 2) : (s.laneOver l).line = s.line := by
  have stopped : (s.stopWaiting l).line = s.line := by unfold State.stopWaiting; split <;> simp
  unfold State.laneOver; dsimp only; split <;> simp [stopped]

/-! ## Bays, raises and the shuttle -/

@[simp] theorem State.line_requestBay (k : Nat) : (s.requestBay k).line = s.line := by rw [State.requestBay_rest]

@[simp] theorem State.line_freeBay (n : Fin 8) : (s.freeBay n).line = s.line := by rw [State.freeBay_record]

@[simp] theorem State.line_freeBayOf (k : Nat) : (s.freeBayOf k).line = s.line := by rw [State.freeBayOf_record]

@[simp] theorem State.line_raiseCore (q : Bool) (k n : Nat) : (s.raiseCore q k n).line = s.line := by
  unfold State.raiseCore; dsimp only; repeat' split
  all_goals simp

@[simp] theorem State.line_leaveReady (k : Nat) : (s.leaveReady k).line = s.line := by
  unfold State.leaveReady; repeat' split
  all_goals simp

@[simp] theorem State.line_testReady (k : Nat) : (s.testReady k).line = s.line := by
  unfold State.testReady; repeat' split
  all_goals simp

@[simp] theorem State.line_openExpiry (k : Nat) : (s.openExpiry k).line = s.line := by simp [State.openExpiry]

@[simp] theorem State.line_heldOver (k : Nat) : (s.heldOver k).line = s.line := by
  unfold State.heldOver; repeat' split
  all_goals simp

@[simp] theorem State.line_withdraw (k : Nat) : (s.withdraw k).line = s.line := by simp [State.withdraw]

@[simp] theorem State.line_withdrawAny : s.withdrawAny.line = s.line := by
  unfold State.withdrawAny; repeat' split
  all_goals simp

@[simp] theorem State.line_decideShuttle : s.decideShuttle.line = s.line := by
  unfold State.decideShuttle; repeat' split
  all_goals simp

@[simp] theorem State.line_toFlashing (k : Nat) (f : Board → Board) : (s.toFlashing k f).line = s.line := by
  simp [State.toFlashing]

/-! ## Spray end, starting a board, the stroke loop -/

@[simp] theorem State.line_abandonBoard (k : Nat) : (s.abandonBoard k).line = s.line := by simp [State.abandonBoard]

@[simp] theorem State.line_abandon (l : Fin 2) (k : Nat) : (s.abandon l k).line = s.line := by simp [State.abandon]

/-- A judged board goes on by `f` or is abandoned or stopped. -/
theorem State.line_judge (l : Fin 2) (k : Nat) {f : State → State} (hf : (f s).line = s.line) :
    (s.judge l k f).line = s.line := by
  unfold State.judge; repeat' split
  all_goals simp [hf]

@[simp] theorem State.line_startTest (l : Fin 2) : (s.startTest l).line = s.line := by
  unfold State.startTest; repeat' split
  all_goals simp [State.startBoard]

@[simp] theorem State.line_departDisarmed (k : Nat) : (s.departDisarmed k).line = s.line := by
  unfold State.departDisarmed; repeat' split
  all_goals simp

theorem State.line_afterAdvance (l : Fin 2) (k : Nat) {f : State → State} (hf : (f s).line = s.line) :
    (s.afterAdvance l k f).line = s.line := by
  unfold State.afterAdvance; split
  · simp [State.terminal]
  · exact hf

@[simp] theorem State.line_autoPurge (a : Fin 6) : (s.autoPurge a).line = s.line := by
  unfold State.autoPurge; split <;> simp

@[simp] theorem State.line_lastUse (st : Stroke) : (s.lastUse st).line = s.line := by
  unfold State.lastUse; split <;> simp

@[simp] theorem State.line_fragmented (l : Fin 2) (k : Nat) (st : Stroke) : (s.fragmented l k st).line = s.line := by
  refine (State.line_judge _ _ ?_).trans (State.line_raiseCore _ _ _)
  exact (State.line_afterAdvance _ _ rfl).trans (by simp)

@[simp] theorem State.line_skipStroke (l : Fin 2) (k : Nat) (st : Stroke) (cols : List (Nat × List Cell)) :
    (s.skipStroke l k st cols).line = s.line :=
  (State.line_afterAdvance _ _ (State.line_judge _ _ rfl)).trans (by simp)

@[simp] theorem State.line_sendStroke (l : Fin 2) (k : Nat) (b : Board) (st : Stroke) (cols : List (Nat × List Cell)) :
    (s.sendStroke l k b st cols).line = s.line := by simp [State.sendStroke]

@[simp] theorem State.line_resolveStroke (l : Fin 2) (k : Nat) (b : Board) (st : Stroke) :
    (s.resolveStroke l k b st).line = s.line := by
  have gated : (s.addGated k b (closedColumns (s.resolve b st))).line = s.line := by
    unfold State.addGated; dsimp only; split <;> simp
  unfold State.resolveStroke; dsimp only; split
  · simp
  · refine (State.line_judge _ _ ?_).trans gated
    split <;> simp

/-! ## The heads -/

@[simp] theorem State.line_autoStep (a : Fin 6) : (s.autoStep a).line = s.line := by
  unfold State.autoStep; repeat' split
  all_goals simp

@[simp] theorem State.line_takeStroke (l : Fin 2) : (s.takeStroke l).line = s.line := by
  unfold State.takeStroke State.awaitApp; dsimp only; repeat' split
  all_goals simp

@[simp] theorem State.line_wake (l : Fin 2) : (s.wake l).line = s.line := by
  unfold State.wake; dsimp only; repeat' split
  all_goals simp

@[simp] theorem State.line_sendWaiting (l : Fin 2) (a : Fin 6) : (s.sendWaiting l a).line = s.line := by
  unfold State.sendWaiting; dsimp only; repeat' split
  all_goals simp

@[simp] theorem State.line_grants (n : Nat) : (s.grants n).line = s.line := by
  induction n generalizing s with
  | zero => rfl
  | succ n ih =>
    unfold State.grants; repeat' split
    · next e _ => exact ih.trans (s.grant_window e).1
    · rfl
    · rfl

@[simp] theorem State.line_grantDecision : s.grantDecision.line = s.line := by
  unfold State.grantDecision; split <;> simp

@[simp] theorem State.line_serve (n : Nat) (l : Fin 2) : (s.serve n l).line = s.line := by
  induction n generalizing s with
  | zero => rfl
  | succ n ih =>
    unfold State.serve; dsimp only; repeat' split
    all_goals simp [ih, State.sendSpit]

@[simp] theorem State.line_serveLane (l : Fin 2) : (s.serveLane l).line = s.line := State.line_serve _ _

/-! ## The end of a head operation, and reports -/

@[simp] theorem State.line_recordFault (l : Fin 2) (k : Option FaultKind) (i : Nat) : (s.recordFault l k i).line = s.line := by
  simp [State.recordFault]

@[simp] theorem State.line_strokeEnd (l : Fin 2) (r : StrokeRef) (e : OpEnd) : (s.strokeEnd l r e).line = s.line := by
  unfold State.strokeEnd; repeat' split
  · unfold State.detachedEnd; split <;> simp
  · exact (State.line_afterAdvance _ _ (State.line_judge _ _ rfl)).trans (by simp)
  · exact (State.line_judge _ _ rfl).trans (by simp)

@[simp] theorem State.line_opEnd (l : Fin 2) (o : HeadOp) (e : OpEnd) : (s.opEnd l o e).line = s.line := by
  unfold State.opEnd; dsimp only; repeat' split
  all_goals simp

@[simp] theorem State.line_react (k : Nat) (w : Bool) : (s.react k w).line = s.line := by
  unfold State.react State.reactAtSpray State.reactSpraying State.reactBuffered; dsimp only; repeat' split
  all_goals simp [State.markedAtSpray]

@[simp] theorem State.line_raise (n k : Nat) : (s.raise n k).line = s.line := by simp [State.raise]

@[simp] theorem State.line_retire (q : Bool) (k : Nat) (d : Disposition) : (s.retire q k d).line = s.line := by
  unfold State.retire; dsimp only; repeat' split
  all_goals simp

end Sys2Proof.Machine
end

section
/-! SUPPORT. The commands that do not set the mode, block by block: the mode and its last-change record stand, or a drain has
ended with the step (R168). -/

namespace Sys2Proof.Machine

/-- From `s` to `t` the mode and its last-change record stand, or a drain has ended. -/
def DrainsOnly (s t : State) : Prop :=
  (t.line.mode = s.line.mode ∧ t.line.lastChange = s.line.lastChange) ∨
  (s.line.mode = .drain ∧ t.line.mode = .config ∧ ∃ time, t.line.lastChange = ⟨.drain, .config, .drainEnd, time⟩)

variable {s t u : State}

@[simp] theorem DrainsOnly.of_line (h : t.line = s.line) : DrainsOnly s t := .inl ⟨congrArg _ h, congrArg _ h⟩

/-- A drain that has ended leaves no drain to end. -/
theorem DrainsOnly.trans (h : DrainsOnly s t) (g : DrainsOnly t u) : DrainsOnly s u := by
  obtain ⟨mode, change⟩ | ⟨drain, config, ended⟩ := g
  · rw [DrainsOnly, mode, change]; exact h
  · obtain ⟨mode, -⟩ | ⟨-, config', -⟩ := h
    · exact .inr ⟨mode.symm.trans drain, config, ended⟩
    · exact nomatch config'.symm.trans drain

theorem DrainsOnly.drainEnd (a : State) : DrainsOnly s (s.drainEnd a) := by
  unfold State.drainEnd; split
  · next h => exact .inr ⟨h.1, by simp [State.setMode], s.clock, by simp [State.setMode, h.1]⟩
  · exact .of_line rfl

/-- The close of a step. -/
theorem DrainsOnly.settle (h : DrainsOnly s t) (p : Bool) (a : State) : DrainsOnly s (t.settle p a) := by
  have served : DrainsOnly s ((t.serveLane 0).serveLane 1) := h.trans (.of_line (by simp))
  have ended := served.trans (.drainEnd a)
  unfold State.settle; dsimp only; split
  · exact ended.trans (.of_line State.line_decideShuttle)
  · exact ended

/-- The close of a step made of updates that leave the line record as it is. -/
@[simp] theorem DrainsOnly.settled (h : t.line = s.line) (p : Bool) (a : State) : DrainsOnly s (t.settle p a) :=
  (DrainsOnly.of_line h).settle p a

/-! ## Requests and events -/

theorem DrainsOnly.request (i : Instr) (f : Header → State → State) (hf : ∀ d u, DrainsOnly u (f d u)) :
    Yields (DrainsOnly s) (s.request i f) := .next (DrainsOnly.trans (.of_line (by simp)) (hf _ (s.take i)))

theorem DrainsOnly.unlessInit (d : Header) (k : Nat) {f : State → State} (hf : DrainsOnly s (f s)) :
    DrainsOnly s (s.unlessInit d k f) := by
  unfold State.unlessInit; split
  · simp
  · exact hf

/-- A request that WRONG_MODE refuses in INITIALIZING. -/
theorem DrainsOnly.guarded (i : Instr) (k : Nat) (f : Header → State → State) (hf : ∀ d u, DrainsOnly u (f d u)) :
    Yields (DrainsOnly s) (s.request i fun d u => u.unlessInit d k (f d)) :=
  DrainsOnly.request _ _ fun d u => .unlessInit d k (hf d u)

theorem DrainsOnly.discardInit {f : State → State} (hf : DrainsOnly s (f s)) : DrainsOnly s (s.discardInit f) := by
  unfold State.discardInit; split
  · simp
  · exact hf

/-! ## Line control -/

theorem execLineStatus_drainsOnly (r : Byte) : Yields (DrainsOnly s) (execLineStatus r s) :=
  DrainsOnly.request _ _ fun _ _ => by simp

theorem execLineSet_drainsOnly (r : Byte) (f : SettingsFields) : Yields (DrainsOnly s) (execLineSet r f s) := by
  refine DrainsOnly.guarded _ _ _ fun d u => ?_
  have limits : ∀ m, DrainsOnly u (u.setLimits m) := fun _ => .inl ⟨rfl, rfl⟩
  have oven : ∀ v, (u.setOven v).line = u.line := fun v => by
    unfold State.setOven; dsimp only; repeat' split
    all_goals simp
  repeat' split
  · simp
  · simp
  · exact ((limits _).trans (.of_line (State.answer_fields ..).2.2.1)).settle _ _
  · simp
  · simp [oven]
  · simp

theorem execLineReset_drainsOnly (r : Byte) : Yields (DrainsOnly s) (execLineReset r s) :=
  DrainsOnly.guarded _ _ _ fun d u => by split <;> simp [State.lineReset]

/-! ## Recipe store and criteria -/

theorem execClassWrite_drainsOnly (r : Byte) (c : Nat) (f : ClassFields) : Yields (DrainsOnly s) (execClassWrite r c f s) :=
  DrainsOnly.guarded _ _ _ fun d u => by split <;> simp

theorem execClassRead_drainsOnly (r : Byte) (c : Nat) : Yields (DrainsOnly s) (execClassRead r c s) :=
  DrainsOnly.guarded _ _ _ fun d u => by split <;> simp

theorem execMaterialWrite_drainsOnly (r : Byte) (m : Nat) (f : MaterialFields) :
    Yields (DrainsOnly s) (execMaterialWrite r m f s) := DrainsOnly.guarded _ _ _ fun d u => by split <;> simp

theorem execMaterialRead_drainsOnly (r : Byte) (m : Nat) : Yields (DrainsOnly s) (execMaterialRead r m s) :=
  DrainsOnly.guarded _ _ _ fun d u => by split <;> simp

theorem execCriterionWrite_drainsOnly (r : Byte) (k : Nat) (f : CriterionFields) :
    Yields (DrainsOnly s) (execCriterionWrite r k f s) := by
  refine DrainsOnly.guarded _ _ _ fun d u => ?_
  repeat' split
  all_goals simp

theorem execCriterionRead_drainsOnly (r : Byte) (k : Nat) : Yields (DrainsOnly s) (execCriterionRead r k s) :=
  DrainsOnly.guarded _ _ _ fun d u => by split <;> simp

/-! ## Keep-out table -/

@[simp] theorem State.line_startEdit (d : Header) (k : Nat) (e : EditKind) (rs : List (Nat × Nat)) (free : Bool) (x : NumSet 48)
    (steps : List EditStep) : (s.startEdit d k e rs free x steps).line = s.line := by
  unfold State.startEdit; repeat' split
  all_goals simp

theorem execRuleWrite_drainsOnly (r : Byte) (k : Nat) (f : EntryFields) : Yields (DrainsOnly s) (execRuleWrite r k f s) := by
  refine DrainsOnly.guarded _ _ _ fun d u => ?_
  repeat' split
  all_goals simp

theorem execRuleFill_drainsOnly (r : Byte) (first last : Nat) (f : EntryFields) :
    Yields (DrainsOnly s) (execRuleFill r first last f s) := by
  refine DrainsOnly.guarded _ _ _ fun d u => ?_
  repeat' split
  all_goals simp

theorem execRuleMove_drainsOnly (r : Byte) (src dst n : Nat) : Yields (DrainsOnly s) (execRuleMove r src dst n s) :=
  DrainsOnly.guarded _ _ _ fun d u => by split <;> simp

theorem execRuleRead_drainsOnly (r : Byte) (k clear : Nat) : Yields (DrainsOnly s) (execRuleRead r k clear s) := by
  refine DrainsOnly.guarded _ _ _ fun d u => ?_
  repeat' split
  all_goals simp

theorem execRuleProbe_drainsOnly (r : Byte) (c side x y : Nat) : Yields (DrainsOnly s) (execRuleProbe r c side x y s) := by
  refine DrainsOnly.guarded _ _ _ fun d u => ?_
  repeat' split
  all_goals simp

theorem State.nextEditStep_drainsOnly : DrainsOnly s s.nextEditStep := by
  have step : ∀ (u : State) (st : EditStep), (u.editStep st).line = u.line := fun u st => by rw [State.editStep_rest]
  unfold State.nextEditStep; dsimp only; repeat' split
  all_goals simp [State.editDone, step]

/-! ## Path engine -/

theorem execStrokeLoad_drainsOnly (r : Byte) (lane first : Nat) (rs : List StrokeFields) :
    Yields (DrainsOnly s) (execStrokeLoad r lane first rs s) := by
  refine DrainsOnly.guarded _ _ _ fun d u => ?_
  repeat' split
  all_goals simp

theorem execStrokeRead_drainsOnly (r : Byte) (lane first n : Nat) : Yields (DrainsOnly s) (execStrokeRead r lane first n s) := by
  refine DrainsOnly.guarded _ _ _ fun d u => ?_
  repeat' split
  all_goals simp

theorem execArmLane_drainsOnly (r : Byte) (lane c first n chain auto : Nat) :
    Yields (DrainsOnly s) (execArmLane r lane c first n chain auto s) := by
  refine DrainsOnly.request _ _ fun d u => ?_
  dsimp only; repeat' split
  all_goals simp

@[simp] theorem State.line_disarm (l : Fin 2) : (s.disarm l).line = s.line := by
  have board : ∀ u : State, (u.disarmBoard l).line = u.line := fun u => by
    unfold State.disarmBoard; repeat' split
    all_goals simp
  unfold State.disarm; split
  all_goals simp [board, State.clearArming]

theorem execDisarm_drainsOnly (r : Byte) (lane : Nat) : Yields (DrainsOnly s) (execDisarm r lane s) :=
  DrainsOnly.guarded _ _ _ fun d u => by split <;> simp

theorem execLaneStatus_drainsOnly (r : Byte) (lane clear : Nat) : Yields (DrainsOnly s) (execLaneStatus r lane clear s) := by
  refine DrainsOnly.guarded _ _ _ fun d u => ?_
  repeat' split
  all_goals simp

theorem State.headReply_drainsOnly (l : Fin 2) (op : Nat) (e : OpEnd) : DrainsOnly s (s.headReply l op e) := by
  unfold State.headReply; repeat' split
  all_goals simp [State.lateReply]

theorem State.headDeadline_drainsOnly (l : Fin 2) : DrainsOnly s (s.headDeadline l) := by
  unfold State.headDeadline; repeat' split
  all_goals simp

/-! ## Applicator manager -/

theorem execPrime_drainsOnly (r : Byte) (app m : Nat) : Yields (DrainsOnly s) (execPrime r app m s) := by
  refine DrainsOnly.request _ _ fun d u => ?_
  unfold State.primeRequest; repeat' split
  all_goals simp

/-- The tests of R42 but the material's. -/
theorem DrainsOnly.appRequest (d : Header) (k app : Nat) {f : Fin 6 → State} (hf : ∀ a, DrainsOnly s (f a)) :
    DrainsOnly s (s.appRequest d k app f) := by
  unfold State.appRequest; repeat' split
  any_goals simp
  exact hf _

@[simp] theorem State.acceptWait_drainsOnly (d : Header) (k : Nat) (w : WaitKind) (a : Fin 6) :
    DrainsOnly s (s.acceptWait d k w a) := by simp [State.acceptWait]

theorem execPurge_drainsOnly (r : Byte) (app : Nat) : Yields (DrainsOnly s) (execPurge r app s) := by
  refine DrainsOnly.request _ _ fun d u => .appRequest _ _ _ fun a => ?_
  unfold State.purgeRequest; split
  all_goals simp

theorem execPark_drainsOnly (r : Byte) (app : Nat) : Yields (DrainsOnly s) (execPark r app s) := by
  refine DrainsOnly.request _ _ fun d u => .appRequest _ _ _ fun a => ?_
  unfold State.parkRequest; split
  all_goals simp

theorem execUnpark_drainsOnly (r : Byte) (app : Nat) : Yields (DrainsOnly s) (execUnpark r app s) := by
  refine DrainsOnly.request _ _ fun d u => .appRequest _ _ _ fun a => ?_
  unfold State.unparkRequest; split
  all_goals simp

theorem execApplicatorStatus_drainsOnly (r : Byte) (app : Nat) : Yields (DrainsOnly s) (execApplicatorStatus r app s) := by
  refine DrainsOnly.guarded _ _ _ fun d u => ?_
  repeat' split
  all_goals simp

theorem State.keepWetExpiry_drainsOnly (a : Fin 6) : DrainsOnly s (s.keepWetExpiry a) := by
  unfold State.keepWetExpiry; split <;> simp

theorem State.ageOut_drainsOnly : DrainsOnly s s.ageOut := by
  unfold State.ageOut; split <;> simp

/-! ## Board tracker -/

theorem execAnnounce_drainsOnly (r : Byte) (lane : Nat) (g : List Byte) (c side : Nat) :
    Yields (DrainsOnly s) (execAnnounce r lane g c side s) := by
  refine DrainsOnly.request _ _ fun d u => ?_
  have created : ∀ k l e, (u.create k l g c e).line = u.line := fun k l e => by
    unfold State.create; dsimp only; split <;> simp
  dsimp only; repeat' split
  all_goals simp [created]

theorem execRetire_drainsOnly (r : Byte) (slot : Nat) : Yields (DrainsOnly s) (execRetire r slot s) := by
  refine DrainsOnly.guarded _ _ _ fun d u => ?_
  repeat' split
  all_goals simp

theorem execBoardRead_drainsOnly (r : Byte) (slot view : Nat) : Yields (DrainsOnly s) (execBoardRead r slot view s) := by
  refine DrainsOnly.guarded _ _ _ fun d u => ?_
  repeat' split
  all_goals simp

theorem execBoardList_drainsOnly (r : Byte) (lane life : Nat) : Yields (DrainsOnly s) (execBoardList r lane life s) :=
  DrainsOnly.guarded _ _ _ fun d u => by split <;> simp

theorem execHistoryRead_drainsOnly (r : Byte) (start n : Nat) : Yields (DrainsOnly s) (execHistoryRead r start n s) :=
  DrainsOnly.guarded _ _ _ fun d u => by split <;> simp

theorem State.laneArrive_drainsOnly (l : Fin 2) : DrainsOnly s (s.laneArrive l) := by
  unfold State.laneArrive; dsimp only; repeat' split
  all_goals simp

theorem State.laneClear_drainsOnly (l : Fin 2) : DrainsOnly s (s.laneClear l) := by
  unfold State.laneClear; dsimp only; repeat' split
  all_goals simp

/-! ## Inspection -/

@[simp] theorem State.line_reportMask (k n : Nat) (v : SiteState) (b : Board) : (s.reportMask k n v b).line = s.line := by
  unfold State.reportMask; dsimp only; repeat' split
  all_goals simp

theorem execMaskReport_drainsOnly (r : Byte) (slot k v : Nat) : Yields (DrainsOnly s) (execMaskReport r slot k v s) := by
  refine DrainsOnly.guarded _ _ _ fun d u => ?_
  dsimp only; repeat' split
  all_goals simp

theorem State.maskWaitExpiry_drainsOnly (slot : Nat) : DrainsOnly s (s.maskWaitExpiry slot) := by
  unfold State.maskWaitExpiry; split <;> simp

@[simp] theorem State.line_takeFinding (k : Nat) (b : Board) (f : Finding) : (s.takeFinding k b f).line = s.line :=
  List.foldlRecOn (motive := fun u : State => u.line = s.line) _ _ (State.line_modBoardQuiet _ _) fun _ hu _ _ =>
    (State.line_raise _ _).trans hu

theorem execFinding_drainsOnly (r : Byte) (slot kind side x y : Nat) :
    Yields (DrainsOnly s) (execFinding r slot kind side x y s) := by
  refine DrainsOnly.guarded _ _ _ fun d u => ?_
  dsimp only; repeat' split
  all_goals simp

theorem execInspectDone_drainsOnly (r : Byte) (slot : Nat) : Yields (DrainsOnly s) (execInspectDone r slot s) := by
  refine DrainsOnly.guarded _ _ _ fun d u => ?_
  dsimp only; repeat' split
  all_goals simp

/-! ## Routing and holds -/

@[simp] theorem State.line_routeWrite (n : Nat) (r : RouteEntry) : (s.routeWrite n r).line = s.line := by
  have marked : ∀ u : State, (u.markAll n).line = u.line := fun u =>
    List.foldlRecOn (motive := fun v : State => v.line = u.line) _ _ rfl fun _ hv _ _ => (State.line_modBoard _ _).trans hv
  have diverted : ∀ u : State, (u.divertAll n).line = u.line := fun u => by
    unfold State.divertAll; split
    · refine List.foldlRecOn (motive := fun v : State => v.line = u.line) _ _ (marked u) fun _ hv _ _ => ?_
      split
      · exact (State.line_toFlashing _ _).trans hv
      · exact hv
    · rfl
  have reported : ∀ a u : State, (reportAll a u).line = u.line := fun a u => by
    refine List.foldlRecOn (motive := fun v : State => v.line = u.line) _ _ rfl fun _ hv _ _ => ?_
    split
    · exact (State.line_react _ _).trans hv
    · exact hv
  unfold State.routeWrite; dsimp only; split <;> simp [reported, diverted]

theorem execRouteWrite_drainsOnly (r : Byte) (n : Nat) (f : RouteFields) : Yields (DrainsOnly s) (execRouteWrite r n f s) := by
  refine DrainsOnly.guarded _ _ _ fun d u => ?_
  repeat' split
  all_goals simp

theorem execRouteRead_drainsOnly (r : Byte) (n : Nat) : Yields (DrainsOnly s) (execRouteRead r n s) :=
  DrainsOnly.guarded _ _ _ fun d u => by split <;> simp

theorem execHold_drainsOnly (r : Byte) (slot : Nat) : Yields (DrainsOnly s) (execHold r slot s) := by
  refine DrainsOnly.guarded _ _ _ fun d u => ?_
  repeat' split
  all_goals simp

theorem execHoldTake_drainsOnly (r : Byte) : Yields (DrainsOnly s) (execHoldTake r s) :=
  DrainsOnly.guarded _ _ _ fun d u => by split <;> simp [State.takeReason]

theorem execHoldRelease_drainsOnly (r : Byte) (slot reason verdict : Nat) :
    Yields (DrainsOnly s) (execHoldRelease r slot reason verdict s) := by
  refine DrainsOnly.guarded _ _ _ fun d u => ?_
  have judged : ∀ (u : State) k n v b, (u.applyVerdict k n v b).line = u.line := fun u k n v b => by
    unfold State.applyVerdict; dsimp only; repeat' split
    all_goals simp
  repeat' split
  all_goals simp [State.release, judged]

theorem execHoldStatus_drainsOnly (r : Byte) (slot first : Nat) : Yields (DrainsOnly s) (execHoldStatus r slot first s) := by
  refine DrainsOnly.guarded _ _ _ fun d u => ?_
  repeat' split
  all_goals simp

/-! ## Oven controller -/

theorem State.flashReached_drainsOnly (slot : Nat) : DrainsOnly s (s.flashReached slot) := by
  unfold State.flashReached; split <;> simp

theorem State.openReached_drainsOnly (slot : Nat) : DrainsOnly s (s.openReached slot) := by
  unfold State.openReached; repeat' split
  all_goals simp

theorem State.admitDeadline_drainsOnly : DrainsOnly s s.admitDeadline := by
  unfold State.admitDeadline; repeat' split
  all_goals simp

theorem State.divertDeadline_drainsOnly : DrainsOnly s s.divertDeadline := by
  unfold State.divertDeadline; repeat' split
  all_goals simp

theorem State.ovenEnter_drainsOnly : DrainsOnly s s.ovenEnter := by
  unfold State.ovenEnter; repeat' split
  all_goals simp [State.enterOven]

theorem State.divertPass_drainsOnly : DrainsOnly s s.divertPass := by
  unfold State.divertPass; repeat' split
  all_goals simp

theorem State.entryCeased_drainsOnly : DrainsOnly s s.entryCeased := by
  unfold State.entryCeased; split <;> simp

theorem State.entryDropped_drainsOnly : DrainsOnly s s.entryDropped := by
  unfold State.entryDropped; split <;> simp

@[simp] theorem State.line_creditZone (z n : Nat) : (s.creditZone z n).line = s.line := by
  refine List.foldlRecOn (motive := fun u : State => u.line = s.line) _ _ rfl fun u hu k _ => Eq.trans ?_ hu
  unfold State.creditBoard; dsimp only; repeat' split
  all_goals simp

theorem State.zoneSample_drainsOnly (z : Nat) (x : BitVec 16) (f : Bool) : DrainsOnly s (s.zoneSample z x f) := by
  unfold State.zoneSample State.validSample; dsimp only; repeat' split
  all_goals simp

theorem State.zoneStale_drainsOnly (z : Fin 4) : DrainsOnly s (s.zoneStale z) := by
  unfold State.zoneStale; split <;> simp

theorem State.zoneChange_drainsOnly (slot : Nat) : DrainsOnly s (s.zoneChange slot) := by
  unfold State.zoneChange; split <;> simp

theorem State.overdue_drainsOnly (slot : Nat) : DrainsOnly s (s.overdue slot) := by
  unfold State.overdue; split <;> simp

theorem State.ovenExit_drainsOnly : DrainsOnly s s.ovenExit := by
  have judged : ∀ (u : State) k v, (u.judgeExit k v).line = u.line := fun u k v => by
    unfold State.judgeExit; dsimp only; split <;> simp
  have left : ∀ (u : State) k v, (u.exitBoard k v).line = u.line := fun u k v => by
    unfold State.exitBoard; split <;> simp
  have applied : ∀ u : State, u.applyStaged.line = u.line := fun u => by
    unfold State.applyStaged; split <;> simp
  unfold State.ovenExit; dsimp only; repeat' split
  all_goals simp [judged, left, applied]

theorem execOvenStatus_drainsOnly (r : Byte) : Yields (DrainsOnly s) (execOvenStatus r s) :=
  DrainsOnly.guarded _ _ _ fun _ _ => by simp

/-! ## Link port -/

theorem State.frameIn_drainsOnly (k : Link) (f : Frame) : DrainsOnly s (s.frameIn k f) := by
  have field : ∀ k, DrainsOnly s (s.fieldFrame k f) := fun k => by
    unfold State.fieldFrame; split
    · exact .discardInit (State.headReply_drainsOnly _ _ _)
    · exact .discardInit (State.headReply_drainsOnly _ _ _)
    · exact .discardInit (State.zoneSample_drainsOnly _ _ _)
    · simp
  cases k with
  | message =>
    show DrainsOnly s (s.intakeFrame f)
    unfold State.intakeFrame State.admitFrame; repeat' split
    all_goals simp
  | head l => exact field _
  | ovenNode => exact field _

theorem DrainsOnly.framesIn (h : DrainsOnly s t) (k : Link) (fs : List Frame) :
    DrainsOnly s (fs.foldl (fun u f => u.frameIn k f) t) :=
  List.foldlRecOn _ _ h fun _ hu f _ => hu.trans (State.frameIn_drainsOnly k f)

theorem State.bytesIn_drainsOnly (k : Link) (bs : List Byte) : DrainsOnly s (s.bytesIn k bs) :=
  DrainsOnly.framesIn (.of_line (State.setRx_fields ..).2.2.1) k _

theorem State.frameSilent_drainsOnly (k : Link) : DrainsOnly s (s.frameSilent k) := by
  unfold State.frameSilent; split
  · simp
  · exact DrainsOnly.framesIn (by simp) k _

@[simp] theorem State.line_replySend : s.replySend.line = s.line := by unfold State.replySend; split <;> rfl

@[simp] theorem State.line_replySent : s.replySent.line = s.line := by unfold State.replySent; split <;> rfl

@[simp] theorem State.line_noticeSend : s.noticeSend.line = s.line := by unfold State.noticeSend; split <;> rfl

@[simp] theorem State.line_noticeSent : s.noticeSent.line = s.line := by unfold State.noticeSent; split <;> rfl

end Sys2Proof.Machine
end

section
/-! POWER_ON and the end of the start-up clear (O45), and the invariants that hold after reset (O57). -/

namespace Sys2Proof.Machine

variable {s : State}

/-! ## The state at power-on -/

theorem vector_get_replicate {α : Type} {n : Nat} (x : α) (i : Fin n) : (Vector.replicate n x).get i = x := by
  simp [Vector.get_eq_getElem]

section
variable (e : Bool)

theorem State.powerOn_lane (l : Fin 2) : (State.powerOn e).lane l = resetLane := vector_get_replicate _ _

theorem State.powerOn_unit (a : Fin 6) : (State.powerOn e).unit a = resetApplicator := vector_get_replicate _ _

theorem State.powerOn_queueOf (l : Fin 2) : (State.powerOn e).queueOf l = [] := vector_get_replicate _ _

theorem State.powerOn_rx (k : Link) : (State.powerOn e).rx k = ⟨[], 0⟩ := vector_get_replicate _ _

theorem State.powerOn_bay (n : Fin 8) : (State.powerOn e).bay n = .empty := vector_get_replicate _ _

theorem State.powerOn_gate (l : Fin 2) : (State.powerOn e).oven.gates.get l = false := vector_get_replicate _ _

theorem State.powerOn_zone (z : Fin 4) : (State.powerOn e).zone z = resetZone := vector_get_replicate _ _

end

/-! ## The end of the start-up clear -/

theorem execStartUpEnd_outside (h : s.line.mode ≠ .initializing) : exec .startUpEnd s = .next s :=
  congrArg _ (if_neg h)

theorem execStartUpEnd_cleared (h : s.line.mode = .initializing) : exec .startUpEnd s = .next (State.post .line
    ((s.reach 250).setMode (if s.line.estop then .halted else .config) (if s.line.estop then .estop else .startUpEnd))) := by
  refine congrArg _ ((if_pos h).trans ?_)
  show (if s.line.estop = true then _ else _ : State).post .line = _
  split <;> rfl

/-- Settles O45: the power-on record field by field, and the end of the clear by the mode. -/
theorem powerOnAndClear : Obligations.PowerOnAndClear := by
  unfold Obligations.PowerOnAndClear
  refine ⟨fun e s => ⟨{ State.powerOn e with pending := s.pending }, rfl, rfl, rfl, rfl, rfl, rfl, rfl, rfl, rfl, rfl, rfl,
    rfl, rfl, fun k => congrArg Receiver.bytes (State.powerOn_rx e k), fun _ => rfl, fun _ => rfl, fun _ => rfl,
    State.powerOn_queueOf e, rfl, rfl, State.powerOn_unit e, rfl, rfl, fun _ => rfl, rfl, State.powerOn_lane e, fun _ => rfl,
    State.powerOn_bay e, State.powerOn_gate e, rfl, rfl, rfl, rfl, rfl, State.powerOn_zone e, rfl, rfl, rfl, rfl,
    fun _ => rfl, rfl⟩, fun s => ⟨execStartUpEnd_outside, fun init => ?_⟩⟩
  rw [execStartUpEnd_cleared init, State.setMode, ← init]
  rfl

/-! ## The invariants after reset -/

theorem State.reset_board (k : Nat) : State.reset.board k = none := rfl

theorem State.reset_canonical : State.reset.Canonical where
  classes := rfl
  materials := rfl
  boards := rfl
  entries := rfl
  criteria := rfl
  routing := rfl
  strokes l := by rw [State.reset, State.powerOn_lane]; rfl

theorem State.reset_tableSound : State.reset.TableSound where
  slots k _ := State.reset_board k
  tags j _ _ _ hj := nomatch (State.reset_board j).symm.trans hj
  useCounts _ := rfl

theorem State.reset_recipesSound : State.reset.RecipesSound where
  classes _ hc := nomatch (show false = true from hc)
  materials _ hm := nomatch (show false = true from hm)

theorem State.reset_listsBounded : State.reset.ListsBounded where
  queues l := by rw [State.reset, State.powerOn_queueOf]; exact Nat.zero_le _
  history := Nat.zero_le _
  intake := Nat.zero_le _
  windowLimit := by decide
  starts := Nat.zero_le _
  requests := List.nodup_nil
  entryStart := Nat.zero_le _
  occupancy := Nat.zero_le _
  admission _ ho := nomatch ho

theorem State.reset_opIdsInRange : State.reset.OpIdsInRange := fun l => by
  rw [State.reset, State.powerOn_lane]; decide

theorem State.reset_noSpit : State.reset.NoSpitWhileSpraying := fun l _ ho =>
  nomatch (congrArg Lane.op (State.powerOn_lane false l)).symm.trans ho

/-- Settles O57: the tables and lists are empty after reset, and each lane and applicator holds its reset record. -/
theorem resetIsSound : Obligations.ResetIsSound := by
  unfold Obligations.ResetIsSound
  have noBoard : ∀ {k b}, State.reset.board k ≠ some b := nofun
  refine ⟨State.reset_canonical, State.reset_tableSound, ⟨Nat.zero_le _, fun _ _ => nofun⟩, State.reset_recipesSound,
    State.reset_listsBounded, List.nodup_nil, fun a => ?_, fun _ _ hb => absurd hb noBoard, fun _ _ hb => absurd hb noBoard,
    State.reset_opIdsInRange, by decide, fun _ => nofun, State.reset_noSpit, fun _ => nofun, rfl⟩
  rw [State.reset, State.powerOn_unit]
  exact Nat.zero_le _

end Sys2Proof.Machine
end

section
/-! MODE and RECOVER (O47): the change that MODE makes by the mode found and its target, and the step around it. -/

namespace Sys2Proof.Machine

variable {s u : State} {t : Byte} {n : Nat} {m : LineMode}

/-! ## The target -/

theorem targetOf_eq_none (h : ¬(1 ≤ n ∧ n ≤ 3)) : targetOf n = none := by
  unfold targetOf; split
  · omega
  · omega
  · omega
  · rfl

theorem targetOf_some (h : targetOf n = some m) :
    n = 1 ∧ m = .config ∨ n = 2 ∧ m = .run ∨ n = 3 ∧ m = .drain := by
  unfold targetOf at h
  split at h <;> simp_all

/-! ## MODE -/

theorem execMode_eq (t : Byte) (n : Nat) : execMode t n s = .next (
    let i : Instr := .mode t n
    if s.line.mode = .initializing then s.replied i 0x03 .wrongMode .empty
    else match targetOf n with
      | none => s.replied i 0x03 .outOfRange .empty
      | some m => match (s.take i).modeChange m with
        | none => s.replied i 0x03 .wrongMode .empty
        | some u => (u.answer (s.header i) 0x03 .ok (.modes s.line.mode u.line.mode)).settle false (s.take i)) := rfl

theorem execMode_refused (hm : targetOf n = some m) (hu : (s.take (.mode t n)).modeChange m = none) :
    exec (.mode t n) s = .next (s.replied (.mode t n) 0x03 .wrongMode .empty) := by
  refine (execMode_eq t n).trans ?_
  simp only [hm, hu, ite_self]

theorem execMode_accepted (hi : s.line.mode ≠ .initializing) (hm : targetOf n = some m)
    (hu : (s.take (.mode t n)).modeChange m = some u) : exec (.mode t n) s = .next
      ((u.answer (s.header (.mode t n)) 0x03 .ok (.modes s.line.mode u.line.mode)).settle false (s.take (.mode t n))) := by
  refine (execMode_eq t n).trans ?_
  simp only [hm, hu, if_neg hi]

theorem State.modeChange_refused
    (h : s.line.mode = .halted ∨ s.line.mode = .config ∧ m = .drain ∨ s.line.mode = .drain ∧ m = .run) :
    s.modeChange m = none := by
  obtain h | ⟨h, rfl⟩ | ⟨h, rfl⟩ := h <;> simp [State.modeChange, h]

theorem State.modeChange_same (h : s.line.mode = m) (hm : m = .config ∨ m = .run ∨ m = .drain) : s.modeChange m = some s := by
  obtain rfl | rfl | rfl := hm <;> simp [State.modeChange, h]

theorem State.modeChange_run (h : s.line.mode = .config) : s.modeChange .run = some s.enterRun := by
  simp [State.modeChange, h]

theorem State.modeChange_config (h : s.line.mode = .run ∨ s.line.mode = .drain) :
    s.modeChange .config = some (s.setMode .config .mode) := by
  obtain h | h := h <;> simp [State.modeChange, h]

theorem State.modeChange_drain (h : s.line.mode = .run) (hu : s.enterDrain = u) : s.modeChange .drain = some u := by
  simp [State.modeChange, h, hu]

theorem State.enterDrain_waits {k : Nat} {b : Board} (hb : s.board k = some b) (hk : k < 32)
    (early : b.life = .queued ∨ b.life = .atSpray ∨ b.life = .spraying) : s.enterDrain = s.setMode .drain .mode :=
  if_neg fun drained => State.drained_iff.1 drained k b hk hb early

theorem State.enterDrain_ends
    (h : ∀ k b, s.board k = some b → k < 32 → b.life = .flashing ∨ b.life = .ovenReady ∨ b.life = .inOven) :
    s.enterDrain = (s.setMode .drain .mode).setMode .config .drainEnd :=
  if_pos <| State.drained_iff.2 fun k b hk hb early => by
    obtain l | l | l := h k b hb hk <;> simp [l] at early

/-! ## RECOVER -/

theorem execRecover_eq (t : Byte) : execRecover t s = .next (
    let i : Instr := .recover t
    if s.line.mode = .initializing then s.replied i 0x05 .wrongMode .empty
    else if s.line.mode ≠ .halted then s.replied i 0x05 .wrongMode .empty
    else if s.line.estop then s.replied i 0x05 .wrongState .empty
    else (((s.take i).setMode .config .recover).answer (s.header i) 0x05 .ok .empty).settle false (s.take i)) := rfl

/-- Settles O47: each cell of the table by the change that MODE makes there, and RECOVER by its two tests. -/
theorem modeAndRecover : Obligations.ModeAndRecover := by
  unfold Obligations.ModeAndRecover
  intro t n s
  refine ⟨fun init => ?_, fun hi range => ?_, fun low high refused => ?_, fun same => ?_, fun config two => ?_,
    fun runs one => ?_, fun run three => ⟨fun ⟨k, b, hb, hk, early⟩ => ?_, fun gone => ?_⟩, fun running => ?_,
    fun halted active => ?_, fun halted inactive => ?_⟩
  · exact (execMode_eq t n).trans (by rw [if_pos init])
  · exact (execMode_eq t n).trans (by simp only [if_neg hi, targetOf_eq_none range])
  · obtain rfl | rfl | rfl : n = 1 ∨ n = 2 ∨ n = 3 := by omega
    all_goals exact execMode_refused rfl (State.modeChange_refused (by simpa using refused))
  · obtain ⟨mode, rfl⟩ | ⟨mode, rfl⟩ | ⟨mode, rfl⟩ := same
    all_goals exact execMode_accepted (by rw [mode]; nofun) rfl (State.modeChange_same mode (by simp))
  · subst two
    refine (execMode_accepted (by rw [config]; nofun) rfl (State.modeChange_run config)).trans ?_
    simp only [State.enterRun, State.line_startTest]
    rfl
  · subst one
    exact execMode_accepted (by obtain h | h := runs <;> rw [h] <;> nofun) rfl (State.modeChange_config runs)
  · subst three
    have waits : (s.take (.mode t 3)).enterDrain = _ := State.enterDrain_waits hb hk early
    exact execMode_accepted (by rw [run]; nofun) rfl (State.modeChange_drain run waits)
  · subst three
    have ends : (s.take (.mode t 3)).enterDrain = _ := State.enterDrain_ends gone
    exact execMode_accepted (by rw [run]; nofun) rfl (State.modeChange_drain run ends)
  · refine (execRecover_eq t).trans ?_
    simp only [if_pos running, ite_self]
  · refine (execRecover_eq t).trans ?_
    simp [halted, active]
  · refine (execRecover_eq t).trans ?_
    simp only [halted, inactive, State.setMode]
    rfl

end Sys2Proof.Machine
end

section
/-! The mode machine (O58): what each command that sets the mode does to the line record, and that every other command at most
ends a drain. -/

namespace Sys2Proof.Machine

variable {s t : State}

/-! ## The commands that do not set the mode -/

/-- The commands of R166 whose own effect sets the mode. -/
def setsMode : Instr → Bool
  | .powerOn _ | .startUpEnd | .estopChange _ | .mode _ _ | .halt _ | .recover _ => true
  | _ => false

/-- Every command that does not set the mode at most ends a drain. -/
theorem exec_drainsOnly (i : Instr) (hi : setsMode i = false) : Yields (DrainsOnly s) (exec i s) := by
  cases i with
  | powerOn e => cases hi
  | startUpEnd => cases hi
  | estopChange e => cases hi
  | mode r n => cases hi
  | halt r => cases hi
  | recover r => cases hi
  | requestFrame bs => exact .next (State.bytesIn_drainsOnly .message bs)
  | frameTimeout k => exact .next (State.frameSilent_drainsOnly k)
  | replySend => exact .next (.of_line State.line_replySend)
  | replySent => exact .next (.of_line State.line_replySent)
  | noticeSend => exact .next (.of_line State.line_noticeSend)
  | lineStatus r => exact execLineStatus_drainsOnly r
  | lineSet r f => exact execLineSet_drainsOnly r f
  | lineReset r => exact execLineReset_drainsOnly r
  | classWrite r c f => exact execClassWrite_drainsOnly r c f
  | classRead r c => exact execClassRead_drainsOnly r c
  | materialWrite r m f => exact execMaterialWrite_drainsOnly r m f
  | materialRead r m => exact execMaterialRead_drainsOnly r m
  | ruleWrite r k e => exact execRuleWrite_drainsOnly r k e
  | ruleRead r k c => exact execRuleRead_drainsOnly r k c
  | ruleFill r a b e => exact execRuleFill_drainsOnly r a b e
  | ruleMove r a b n => exact execRuleMove_drainsOnly r a b n
  | ruleProbe r c d x y => exact execRuleProbe_drainsOnly r c d x y
  | editStep => exact .next State.nextEditStep_drainsOnly
  | criterionWrite r k f => exact execCriterionWrite_drainsOnly r k f
  | criterionRead r k => exact execCriterionRead_drainsOnly r k
  | routeWrite r n f => exact execRouteWrite_drainsOnly r n f
  | routeRead r n => exact execRouteRead_drainsOnly r n
  | strokeLoad r l k rs => exact execStrokeLoad_drainsOnly r l k rs
  | strokeRead r l k n => exact execStrokeRead_drainsOnly r l k n
  | armLane r l c k n m a => exact execArmLane_drainsOnly r l c k n m a
  | disarm r l => exact execDisarm_drainsOnly r l
  | laneStatus r l c => exact execLaneStatus_drainsOnly r l c
  | prime r a m => exact execPrime_drainsOnly r a m
  | purge r a => exact execPurge_drainsOnly r a
  | park r a => exact execPark_drainsOnly r a
  | unpark r a => exact execUnpark_drainsOnly r a
  | applicatorStatus r a => exact execApplicatorStatus_drainsOnly r a
  | announce r l g c d => exact execAnnounce_drainsOnly r l g c d
  | boardRead r k v => exact execBoardRead_drainsOnly r k v
  | boardList r l f => exact execBoardList_drainsOnly r l f
  | retire r k => exact execRetire_drainsOnly r k
  | historyRead r n c => exact execHistoryRead_drainsOnly r n c
  | maskReport r k n v => exact execMaskReport_drainsOnly r k n v
  | finding r k n d x y => exact execFinding_drainsOnly r k n d x y
  | inspectDone r k => exact execInspectDone_drainsOnly r k
  | hold r k => exact execHold_drainsOnly r k
  | holdTake r => exact execHoldTake_drainsOnly r
  | holdRelease r k n v => exact execHoldRelease_drainsOnly r k n v
  | holdStatus r k f => exact execHoldStatus_drainsOnly r k f
  | ovenStatus r => exact execOvenStatus_drainsOnly r
  | laneArrive l => exact .next (.discardInit (State.laneArrive_drainsOnly l))
  | laneClear l => exact .next (.discardInit (State.laneClear_drainsOnly l))
  | maskWaitExpiry k => exact .next (State.maskWaitExpiry_drainsOnly k)
  | headDone l op => exact .next (.discardInit (State.headReply_drainsOnly l _ _))
  | headFault l op k => exact .next (.discardInit (State.headReply_drainsOnly l _ _))
  | headDeadline l => exact .next (State.headDeadline_drainsOnly l)
  | keepWetExpiry a => exact .next (State.keepWetExpiry_drainsOnly a)
  | primeWindowAgeOut => exact .next State.ageOut_drainsOnly
  | flashReadyReached k => exact .next (State.flashReached_drainsOnly k)
  | openDeadlineExpiry k => exact .next (State.openReached_drainsOnly k)
  | admitDeadline => exact .next State.admitDeadline_drainsOnly
  | divertDeadline => exact .next State.divertDeadline_drainsOnly
  | ovenEnter => exact .next (.discardInit State.ovenEnter_drainsOnly)
  | divertPass => exact .next (.discardInit State.divertPass_drainsOnly)
  | entryWindowExpiry => exact .next State.entryCeased_drainsOnly
  | entryDrop => exact .next State.entryDropped_drainsOnly
  | zoneSample z x f => exact .next (.discardInit (State.zoneSample_drainsOnly z x f))
  | zoneStale z => exact .next (State.zoneStale_drainsOnly z)
  | zoneChange k => exact .next (State.zoneChange_drainsOnly k)
  | overdueExpiry k => exact .next (State.overdue_drainsOnly k)
  | ovenExit => exact .next (.discardInit State.ovenExit_drainsOnly)
  | noticeFrameSent => exact .next (.of_line State.line_noticeSent)
  | headCommandSent l op => exact .next (.of_line (State.modLane_fields ..).2.2.1)
  | fieldLinkFrameDiscard k bs => exact .next (State.bytesIn_drainsOnly k bs)

theorem setsMode_cases {i : Instr} (h : setsMode i = true) : (∃ e, i = .powerOn e) ∨ i = .startUpEnd ∨
    (∃ e, i = .estopChange e) ∨ (∃ r n, i = .mode r n) ∨ (∃ r, i = .halt r) ∨ ∃ r, i = .recover r := by
  cases i <;> simp_all [setsMode]

theorem DrainsOnly.record (h : DrainsOnly s t) (hs : s.line.lastChange.after = s.line.mode) :
    t.line.lastChange.after = t.line.mode := by
  obtain ⟨mode, change⟩ | ⟨-, config, time, change⟩ := h
  · rw [mode, change, hs]
  · rw [config, change]

theorem DrainsOnly.drained (h : DrainsOnly s t) (hm : t.line.mode ≠ s.line.mode) :
    s.line.mode = .drain ∧ t.line.mode = .config ∧ t.line.lastChange.cause = .drainEnd := by
  obtain ⟨mode, -⟩ | ⟨drain, config, time, change⟩ := h
  · exact absurd mode hm
  · exact ⟨drain, config, by rw [change]⟩

/-! ## The commands that set the mode -/

/-- What follows a change to a mode other than DRAIN leaves that mode. -/
theorem DrainsOnly.entered {m : LineMode} {c : ChangeCause} (h : DrainsOnly (s.setMode m c) t) (hm : m ≠ .drain) :
    t.line.mode = m := by
  obtain ⟨mode, -⟩ | ⟨drain, -⟩ := h
  · exact mode
  · exact absurd drain hm

theorem State.line_enterHalted (c : ChangeCause) : (s.enterHalted c).line = (s.setMode .halted c).line := by
  obtain ⟨a, t, apps, lanes, entered⟩ := State.enterHalted_eq (s := s) c
  obtain ⟨_, _, _, _, _, rest⟩ := State.halted_rest apps lanes
  rw [entered, rest]
  rfl

/-- What MODE with target `n` may do to the line: the mode stands or a drain ends, or it enters the target by a row of R168. -/
inductive ModeRow (s t : State) : Nat → Prop where
  | stands {n : Nat} (h : DrainsOnly s t) : ModeRow s t n
  | config (h : s.line.mode = .run ∨ s.line.mode = .drain) (ht : DrainsOnly (s.setMode .config .mode) t) : ModeRow s t 1
  | run (h : s.line.mode = .config) (ht : DrainsOnly (s.setMode .run .mode) t) : ModeRow s t 2
  | drain (h : s.line.mode = .run) (ht : DrainsOnly (s.setMode .drain .mode) t) : ModeRow s t 3

theorem State.enterDrain_drainsOnly : DrainsOnly (s.setMode .drain .mode) s.enterDrain := by
  unfold State.enterDrain; dsimp only; split
  · exact .inr ⟨rfl, rfl, s.clock, rfl⟩
  · exact .of_line rfl

theorem State.modeChange_row {n : Nat} {m : LineMode} {u : State} (hm : targetOf n = some m) (hu : s.modeChange m = some u) :
    ModeRow s u n := by
  unfold State.modeChange at hu
  split at hu
  case h_8 => cases hu
  all_goals
    cases hu
    obtain ⟨rfl, h⟩ | ⟨rfl, h⟩ | ⟨rfl, h⟩ := targetOf_some hm
    all_goals cases h
  · exact .stands (.of_line rfl)
  · next config => exact .run config (.of_line (by simp [State.enterRun]))
  · next run => exact .config (.inl run) (.of_line rfl)
  · exact .stands (.of_line rfl)
  · next run => exact .drain run State.enterDrain_drainsOnly
  · next drain => exact .config (.inr drain) (.of_line rfl)
  · exact .stands (.of_line rfl)

theorem ModeRow.trans {n : Nat} {u : State} (h : ModeRow s u n) (g : DrainsOnly u t) : ModeRow s t n := by
  cases h with
  | stands h => exact .stands (h.trans g)
  | config h ht => exact .config h (ht.trans g)
  | run h ht => exact .run h (ht.trans g)
  | drain h ht => exact .drain h (ht.trans g)

theorem ModeRow.of_take {i : Instr} {n : Nat} (h : ModeRow (s.take i) t n) : ModeRow s t n := by
  cases h with
  | stands h => exact .stands h
  | config h ht => exact .config h ht
  | run h ht => exact .run h ht
  | drain h ht => exact .drain h ht

theorem execMode_row (r : Byte) (n : Nat) : Yields (fun t => ModeRow s t n) (execMode r n s) := by
  rw [execMode_eq]
  refine .next ?_
  dsimp only; split
  · exact .stands (.of_line rfl)
  · split
    · exact .stands (.of_line rfl)
    · next m hm =>
      split
      · exact .stands (.of_line rfl)
      · next u hu => exact (State.modeChange_row hm hu).of_take.trans (.settled (by simp) _ _)

theorem execStartUpEnd_entered : Yields (fun t => DrainsOnly s t ∨ s.line.mode = .initializing ∧
    ∃ c, DrainsOnly ((s.reach 250).setMode (if s.line.estop then .halted else .config) c) t) (exec .startUpEnd s) := by
  by_cases init : s.line.mode = .initializing
  · rw [execStartUpEnd_cleared init]
    exact .next (.inr ⟨init, _, .of_line (State.post_fields ..).2.2.1⟩)
  · rw [execStartUpEnd_outside init]
    exact .next (.inl (.of_line rfl))

theorem State.estopChange_entered (e : Bool) : DrainsOnly s (s.estopChange e) ∨
    s.line.mode ≠ .initializing ∧ e = true ∧ DrainsOnly (s.setMode .halted .estop) (s.estopChange e) := by
  by_cases he : e = s.line.estop
  · exact .inl (by rw [he, State.estopChange_same]; exact .of_line rfl)
  · rw [State.estopChange_new he]
    dsimp only; split
    · exact .inl (.inl ⟨rfl, rfl⟩)
    · next init =>
      split
      · exact .inl (.inl (by simp))
      · next entered =>
        rw [not_or, Bool.not_eq_false] at entered
        exact .inr ⟨init, entered.1, .inl (by simp [State.line_enterHalted, State.setMode])⟩

theorem execHalt_entered (r : Byte) : Yields (fun t => DrainsOnly s t ∨
    s.line.mode ≠ .initializing ∧ DrainsOnly (s.setMode .halted .halt) t) (execHalt r s) := by
  rw [execHalt_eq]
  refine .next ?_
  dsimp only; repeat' split
  · exact .inl (.of_line rfl)
  · exact .inl (.of_line rfl)
  · next init _ => exact .inr ⟨init, .of_line (State.line_enterHalted _)⟩

theorem execRecover_entered (r : Byte) : Yields (fun t => DrainsOnly s t ∨
    s.line.mode = .halted ∧ s.line.estop = false ∧ DrainsOnly (s.setMode .config .recover) t) (execRecover r s) := by
  rw [execRecover_eq]
  refine .next ?_
  dsimp only; repeat' split
  · exact .inl (.of_line rfl)
  · exact .inl (.of_line rfl)
  · exact .inl (.of_line rfl)
  · next halted inactive =>
    exact .inr ⟨not_not.1 halted, Bool.not_eq_true _ ▸ inactive, .settled (by simp [State.setMode]) _ _⟩

/-- Settles O58: a command that does not set the mode at most ends a drain; each of the six others by what it enters. -/
theorem modeMachine : Obligations.ModeMachine := by
  unfold Obligations.ModeMachine
  intro i s t h
  by_cases drains : DrainsOnly s t
  · exact ⟨drains.record, fun hm => .inr (.inr (.inr (.inr (.inr (.inr (.inl (drains.drained hm)))))))⟩
  have sets : setsMode i = true := by
    by_contra hi
    exact drains ((exec_drainsOnly i (Bool.not_eq_true _ ▸ hi)).of_next h)
  obtain ⟨e, rfl⟩ | rfl | ⟨e, rfl⟩ | ⟨r, n, rfl⟩ | ⟨r, rfl⟩ | ⟨r, rfl⟩ := setsMode_cases sets
  · obtain rfl := Host.Outcome.next.inj h
    exact ⟨fun _ => rfl, fun _ => .inl ⟨rfl, e, rfl⟩⟩
  · obtain ⟨init, c, entered⟩ := (execStartUpEnd_entered.of_next h).resolve_left drains
    have mode := entered.entered (by split <;> nofun)
    exact ⟨fun _ => entered.record rfl, fun _ => .inr (.inl ⟨init, rfl, mode⟩)⟩
  · obtain rfl := Host.Outcome.next.inj h
    obtain ⟨init, rfl, entered⟩ := (s.estopChange_entered e).resolve_left drains
    exact ⟨fun _ => entered.record rfl,
      fun _ => .inr (.inr (.inr (.inr (.inr (.inr (.inr (.inl ⟨init, entered.entered nofun, .inr rfl⟩)))))))⟩
  · cases (execMode_row r n).of_next h with
    | stands h => exact absurd h drains
    | config leaves entered =>
      exact ⟨fun _ => entered.record rfl,
        fun _ => .inr (.inr (.inr (.inr (.inl ⟨leaves, entered.entered nofun, r, rfl⟩))))⟩
    | run config entered =>
      exact ⟨fun _ => entered.record rfl, fun _ => .inr (.inr (.inl ⟨config, entered.entered nofun, r, rfl⟩))⟩
    | drain run entered =>
      refine ⟨fun _ => entered.record rfl, fun _ => ?_⟩
      obtain ⟨mode, -⟩ | ⟨-, config, time, change⟩ := entered
      · exact .inr (.inr (.inr (.inl ⟨run, mode, r, rfl⟩)))
      · exact .inr (.inr (.inr (.inr (.inr (.inl ⟨run, config, by rw [change], r, rfl⟩)))))
  · obtain ⟨init, entered⟩ := ((execHalt_entered r).of_next h).resolve_left drains
    exact ⟨fun _ => entered.record rfl,
      fun _ => .inr (.inr (.inr (.inr (.inr (.inr (.inr (.inl ⟨init, entered.entered nofun, .inl ⟨r, rfl⟩⟩)))))))⟩
  · obtain ⟨halted, inactive, entered⟩ := ((execRecover_entered r).of_next h).resolve_left drains
    exact ⟨fun _ => entered.record rfl, fun _ =>
      .inr (.inr (.inr (.inr (.inr (.inr (.inr (.inr ⟨halted, inactive, entered.entered nofun, r, rfl⟩)))))))⟩

end Sys2Proof.Machine
end

section
/-! SUPPORT. Little-endian numbers: what their bytes spell, and how a payload's fields are read from them. -/

namespace Sys2Proof

@[simp] theorem leBytes_length (k n : Nat) : (leBytes k n).length = k := by
  induction k generalizing n with
  | zero => rfl
  | succ k ih => simp [leBytes, ih]

theorem leNat_leBytes (k n : Nat) : leNat (leBytes k n) = n % 256 ^ k := by
  induction k generalizing n with
  | zero => simp [leBytes, leNat, Nat.mod_one]
  | succ k ih => simp [leBytes, leNat, ih, pow_succ', Nat.mod_mul]

/-- A field is read from the bytes that spell it. -/
theorem numAt_leBytes_append {k n : Nat} (fits : n < 256 ^ k) (p : List Byte) : numAt (leBytes k n ++ p) 0 k = n := by
  rw [numAt, List.drop_zero, List.take_left' (leBytes_length k n), leNat_leBytes, Nat.mod_eq_of_lt fits]

theorem numAt_leBytes {k n : Nat} (fits : n < 256 ^ k) : numAt (leBytes k n) 0 k = n := by
  simpa using numAt_leBytes_append fits []

/-- A field is read past the bytes before it. -/
theorem numAt_append_right {xs : List Byte} {o : Nat} (past : xs.length ≤ o) (p : List Byte) (k : Nat) :
    numAt (xs ++ p) o k = numAt p (o - xs.length) k := by
  rw [numAt, numAt, List.drop_append, List.drop_eq_nil_of_le past, List.nil_append]

theorem numAt_append_add (xs p : List Byte) (o k : Nat) : numAt (xs ++ p) (xs.length + o) k = numAt p o k := by
  rw [numAt_append_right (Nat.le_add_right ..), Nat.add_sub_cancel_left]

end Sys2Proof
end

section
/-! The receivers' hunting (O52). -/

namespace Sys2Proof

variable {silent : Bool}

/-! ## The equations of a receiver -/

/-- A received frame leaves fewer bytes than stood after its start byte. -/
theorem length_after_of_good {f : Frame} {rest after : List Byte} (h : huntAt rest = .good f after) :
    after.length < rest.length := by
  unfold huntAt at h
  dsimp only at h
  repeat' split at h
  all_goals cases h
  rw [List.length_drop]
  omega

/-- Hunting does not depend on its bound once the bound exceeds the bytes held. -/
theorem hunt_bound {j k : Nat} {bs : List Byte} (hj : bs.length < j) (hk : bs.length < k) :
    hunt silent j bs = hunt silent k bs := by
  induction j generalizing k bs with
  | zero => exact absurd hj (Nat.not_lt_zero _)
  | succ j ih =>
    obtain ⟨k, rfl⟩ := Nat.exists_eq_add_one_of_ne_zero (Nat.ne_zero_of_lt hk)
    cases bs with
    | nil => rfl
    | cons b rest =>
      have shorter {bs : List Byte} (h : bs.length ≤ rest.length) : hunt silent j bs = hunt silent k bs :=
        ih (Nat.lt_of_le_of_lt h (Nat.lt_of_succ_lt_succ hj)) (Nat.lt_of_le_of_lt h (Nat.lt_of_succ_lt_succ hk))
      rw [hunt, hunt, shorter le_rfl]
      cases found : huntAt rest with
      | unfinished | bad => rfl
      | good f after =>
        dsimp only
        rw [shorter (length_after_of_good found).le]

theorem hunt_eq_receive {k : Nat} {bs : List Byte} (h : bs.length < k) : hunt silent k bs = receive silent bs :=
  hunt_bound h (Nat.lt_succ_self _)

theorem receive_cons_of_ne {b : Byte} (h : b ≠ startByte) (rest : List Byte) :
    receive silent (b :: rest) = receive silent rest := by
  rw [receive, hunt, if_neg h]
  exact hunt_eq_receive (Nat.lt_succ_self _)

theorem receive_bad {rest : List Byte} (h : huntAt rest = .bad) :
    receive silent (startByte :: rest) = receive silent rest := by
  rw [receive, hunt, if_pos rfl, h]
  exact hunt_eq_receive (Nat.lt_succ_self _)

theorem receive_good {f : Frame} {rest after : List Byte} (h : huntAt rest = .good f after) :
    receive silent (startByte :: rest) = (f :: (receive silent after).1, (receive silent after).2) := by
  rw [receive, hunt, if_pos rfl, h]
  have shorter : after.length < (startByte :: rest).length := Nat.lt_succ_of_lt (length_after_of_good h)
  dsimp only
  rw [hunt_eq_receive shorter]

theorem receive_noise {noise : List Byte} (h : ∀ b ∈ noise, b ≠ startByte) (bs : List Byte) :
    receive silent (noise ++ bs) = receive silent bs := by
  induction noise with
  | nil => rfl
  | cons b noise ih =>
    obtain ⟨first, others⟩ := List.forall_mem_cons.1 h
    exact (receive_cons_of_ne first _).trans (ih others)

/-! ## The bytes after a start byte -/

theorem huntAt_long {lo hi : Byte} (long : 1024 < lo.toNat + 256 * hi.toNat) (rest : List Byte) :
    huntAt (lo :: hi :: rest) = .bad := by
  rw [huntAt, if_neg (by simp)]
  exact if_pos long

theorem Frame.covered_length (f : Frame) : f.covered.length = f.payload.length + 4 := by
  simp [Frame.covered]; omega

/-- The length field that a frame's covered bytes begin with. -/
theorem Frame.leNat_take_covered (f : Frame) (fits : f.payload.length ≤ 1024) (p : List Byte) :
    leNat ((f.covered ++ p).take 2) = f.payload.length := by
  rw [Frame.covered, List.append_assoc, List.append_assoc, List.take_left' (leBytes_length ..), leNat_leBytes,
    Nat.mod_eq_of_lt (by omega)]

/-- After the covered bytes of a frame that fits, the two bytes of its check decide. -/
theorem huntAt_covered (f : Frame) (fits : f.payload.length ≤ 1024) (lo hi : Byte) (rest : List Byte) :
    huntAt (f.covered ++ lo :: hi :: rest) =
      if lo.toNat + 256 * hi.toNat = (crc16 f.covered).toNat then .good f rest else .bad := by
  have length : (f.covered ++ lo :: hi :: rest).length = f.payload.length + 6 + rest.length := by
    simp [Frame.covered_length]; omega
  have covered : (f.covered ++ lo :: hi :: rest).take (f.payload.length + 4) = f.covered :=
    List.take_left' f.covered_length
  have check : (f.covered ++ lo :: hi :: rest).drop (f.payload.length + 4) = lo :: hi :: rest :=
    List.drop_left' f.covered_length
  have after : (f.covered ++ lo :: hi :: rest).drop (f.payload.length + 6) = rest := by
    rw [show f.payload.length + 6 = f.payload.length + 4 + 2 from rfl, ← List.drop_drop, check]; rfl
  rw [huntAt, if_neg (by omega), f.leNat_take_covered fits]
  dsimp only
  rw [if_neg (show ¬ Config.payloadLimit < _ from Nat.not_lt.2 fits), if_neg (by omega), covered, check, after]
  rfl

/-- A frame as it is sent, with the two bytes of its check written out. -/
theorem Frame.bytes_append (f : Frame) (rest : List Byte) : f.bytes ++ rest =
    startByte :: (f.covered ++ byteOf (crc16 f.covered).toNat :: byteOf ((crc16 f.covered).toNat / 256) :: rest) := by
  simp [Frame.bytes, leBytes]

theorem huntAt_sent (f : Frame) (fits : f.payload.length ≤ 1024) (rest : List Byte) :
    huntAt (f.covered ++ byteOf (crc16 f.covered).toNat :: byteOf ((crc16 f.covered).toNat / 256) :: rest) =
      .good f rest := by
  have spelt : leNat (leBytes 2 (crc16 f.covered).toNat) = (crc16 f.covered).toNat :=
    (leNat_leBytes ..).trans (Nat.mod_eq_of_lt (crc16 f.covered).isLt)
  rw [huntAt_covered f fits]
  exact if_pos spelt

/-- Settles O52: the noise is passed over, then the bytes after the start byte decide. -/
theorem framesFound : Obligations.FramesFound := by
  unfold Obligations.FramesFound
  intro silent noise rest f quiet fits
  refine ⟨?_, fun lo hi long => ?_, fun lo hi wrong => ?_⟩
  · rw [List.append_assoc, receive_noise quiet, f.bytes_append, receive_good (huntAt_sent f fits rest)]
  · rw [receive_noise quiet]
    exact receive_bad (huntAt_long long rest)
  · rw [receive_noise quiet]
    exact receive_bad ((huntAt_covered f fits lo hi rest).trans (if_neg wrong))

end Sys2Proof
end

section
/-! Requests written and read back (O53): each record by the length of its bytes and by what reads it back, then the
requests. -/

namespace Sys2Proof

/-! ## Records of requests -/

@[simp] theorem slotBytes_length (f : Option SlotFields) : (slotBytes f).length = 6 := by
  cases f <;> simp [slotBytes]

theorem slotAt_append_right {xs : List Byte} {o : Nat} (past : xs.length ≤ o) (p : List Byte) :
    slotAt (xs ++ p) o = slotAt p (o - xs.length) := by
  obtain ⟨o, rfl⟩ := Nat.exists_eq_add_of_le past
  simp [slotAt, Nat.add_assoc, numAt_append_add]

/-- A slot is read from the bytes that spell it. -/
theorem slotAt_slotBytes_append {f : Option SlotFields} (wf : f.all SlotFields.wf = true) (p : List Byte) :
    slotAt (slotBytes f ++ p) 0 = f := by
  cases f with
  | none =>
    rw [slotAt, slotBytes, if_pos]
    rfl
  | some f =>
    simp only [Option.all_some, SlotFields.wf, Bool.and_eq_true, decide_eq_true_eq] at wf
    simp [slotAt, slotBytes, numAt_leBytes_append, numAt_append_right, wf]

@[simp] theorem entryBytes_length (e : EntryFields) : (entryBytes e).length = 15 := by simp [entryBytes]

theorem entryAt_append_right {xs : List Byte} {o : Nat} (past : xs.length ≤ o) (p : List Byte) :
    entryAt (xs ++ p) o = entryAt p (o - xs.length) := by
  obtain ⟨o, rfl⟩ := Nat.exists_eq_add_of_le past
  simp [entryAt, Nat.add_assoc, numAt_append_add]

theorem entryAt_entryBytes {e : EntryFields} (wf : e.wf = true) : entryAt (entryBytes e) 0 = e := by
  simp only [EntryFields.wf, Bool.and_eq_true, decide_eq_true_eq] at wf
  simp [entryAt, entryBytes, numAt_leBytes, numAt_leBytes_append, numAt_append_right, wf]

@[simp] theorem classBytes_length (f : ClassFields) : (classBytes f).length = 26 := by simp [classBytes]

theorem classAt_append_right {xs : List Byte} {o : Nat} (past : xs.length ≤ o) (p : List Byte) :
    classAt (xs ++ p) o = classAt p (o - xs.length) := by
  obtain ⟨o, rfl⟩ := Nat.exists_eq_add_of_le past
  simp [classAt, Nat.add_assoc, numAt_append_add, slotAt_append_right]

theorem classAt_classBytes {f : ClassFields} (wf : f.wf = true) : classAt (classBytes f) 0 = f := by
  simp only [ClassFields.wf, Bool.and_eq_true, decide_eq_true_eq] at wf
  have sites : f.sites.toNat < 65536 := f.sites.isLt
  simp [classAt, classBytes, numAt_leBytes, numAt_leBytes_append, numAt_append_right, slotAt_append_right,
    slotAt_slotBytes_append, sites, wf]

@[simp] theorem strokeBytes_length (f : StrokeFields) : (strokeBytes f).length = 12 := by simp [strokeBytes]

theorem strokeAt_append_right {xs : List Byte} {o : Nat} (past : xs.length ≤ o) (p : List Byte) :
    strokeAt (xs ++ p) o = strokeAt p (o - xs.length) := by
  obtain ⟨o, rfl⟩ := Nat.exists_eq_add_of_le past
  simp [strokeAt, Nat.add_assoc, numAt_append_add]

theorem strokeAt_strokeBytes_append {f : StrokeFields} (wf : f.wf = true) (p : List Byte) :
    strokeAt (strokeBytes f ++ p) 0 = f := by
  simp only [StrokeFields.wf, Bool.and_eq_true, decide_eq_true_eq] at wf
  simp [strokeAt, strokeBytes, numAt_leBytes_append, numAt_append_right, wf]

theorem strokesAt_append_right {xs : List Byte} {o : Nat} (past : xs.length ≤ o) (p : List Byte) (n : Nat) :
    strokesAt (xs ++ p) o n = strokesAt p (o - xs.length) n := by
  induction n generalizing o with
  | zero => rfl
  | succ n ih =>
    rw [strokesAt, strokesAt, strokeAt_append_right past, ih (Nat.le_add_right_of_le past), Nat.sub_add_comm past]

/-- The records of a STROKE_LOAD are read from the bytes that spell them, one after the other. -/
theorem strokesAt_strokeBytes {rs : List StrokeFields} (wf : rs.all StrokeFields.wf = true) :
    strokesAt (rs.flatMap strokeBytes) 0 rs.length = rs := by
  induction rs with
  | nil => rfl
  | cons r rs ih =>
    rw [List.all_cons, Bool.and_eq_true] at wf
    obtain ⟨first, others⟩ := wf
    rw [List.flatMap_cons, List.length_cons, strokesAt, strokeAt_strokeBytes_append first,
      strokesAt_append_right (by simp)]
    simp [ih others]

theorem strokeBytes_flatMap_length (rs : List StrokeFields) : (rs.flatMap strokeBytes).length = 12 * rs.length := by
  simp [List.length_flatMap, Nat.mul_comm]

/-- The bytes of one point of a rate table. -/
def pointBytes (p : Nat × Nat) : List Byte := leBytes 2 p.1 ++ leBytes 2 p.2

@[simp] theorem pointBytes_length (p : Nat × Nat) : (pointBytes p).length = 4 := by simp [pointBytes]

theorem pointsAt_append_right {xs : List Byte} {o : Nat} (past : xs.length ≤ o) (p : List Byte) (n : Nat) :
    pointsAt (xs ++ p) o n = pointsAt p (o - xs.length) n := by
  induction n generalizing o with
  | zero => rfl
  | succ n ih =>
    rw [pointsAt, pointsAt, numAt_append_right past, numAt_append_right (Nat.le_add_right_of_le past),
      ih (Nat.le_add_right_of_le past), Nat.sub_add_comm past, Nat.sub_add_comm past]

/-- The points of a rate table are read from the bytes that spell them, one after the other. -/
theorem pointsAt_pointBytes {ps : List (Nat × Nat)} (wf : ps.all (fun p => fits2 p.1 && fits2 p.2) = true) :
    pointsAt (ps.flatMap pointBytes) 0 ps.length = ps := by
  induction ps with
  | nil => rfl
  | cons p ps ih =>
    simp only [List.all_cons, Bool.and_eq_true, decide_eq_true_eq] at wf
    obtain ⟨⟨temp, rate⟩, rest⟩ := wf
    rw [List.flatMap_cons, List.length_cons, pointsAt, pointsAt_append_right (by simp)]
    simp [pointBytes, numAt_leBytes_append, numAt_append_right, temp, rate, ih rest]

theorem materialBytes_eq (f : MaterialFields) : materialBytes f =
    leBytes 1 f.valid ++ leBytes 2 f.primeMs ++ leBytes 2 f.purgeMs ++ leBytes 2 f.keepWetS ++ leBytes 2 f.capMaxMin ++
    leBytes 2 f.flashMinS ++ leBytes 2 f.openMaxS ++ leBytes 2 f.maxTemp ++ leBytes 1 f.points.length ++
    f.points.flatMap pointBytes := rfl

theorem materialBytes_length {f : MaterialFields} (wf : f.wf = true) : (materialBytes f).length = 48 := by
  simp only [MaterialFields.wf, Bool.and_eq_true, beq_iff_eq] at wf
  simp [materialBytes_eq, List.length_flatMap, wf]

theorem materialAt_append_right {xs : List Byte} {o : Nat} (past : xs.length ≤ o) (p : List Byte) :
    materialAt (xs ++ p) o = materialAt p (o - xs.length) := by
  obtain ⟨o, rfl⟩ := Nat.exists_eq_add_of_le past
  simp [materialAt, Nat.add_assoc, numAt_append_add, pointsAt_append_right]

theorem materialAt_materialBytes {f : MaterialFields} (wf : f.wf = true) : materialAt (materialBytes f) 0 = f := by
  simp only [MaterialFields.wf, Bool.and_eq_true, decide_eq_true_eq, beq_iff_eq] at wf
  obtain ⟨⟨numbers, eight⟩, points⟩ := wf
  have read := pointsAt_pointBytes points
  rw [eight] at read
  simp [materialAt, materialBytes_eq, numAt_leBytes_append, numAt_append_right, pointsAt_append_right, eight, numbers, read]

@[simp] theorem settingsBytes_length (f : SettingsFields) : (settingsBytes f).length = 11 := by
  cases f <;> simp [settingsBytes]

theorem settingsAt_settingsBytes {f : SettingsFields} (wf : f.wf = true) : settingsAt (settingsBytes f) = f := by
  cases f with
  | application l n el en =>
    simp only [SettingsFields.wf, Bool.and_eq_true, decide_eq_true_eq] at wf
    simp [settingsAt, settingsBytes, numAt_leBytes_append, numAt_append_right, wf]
  | oven a b c d g =>
    simp only [SettingsFields.wf, Bool.and_eq_true, decide_eq_true_eq] at wf
    simp [settingsAt, settingsBytes, numAt_leBytes, numAt_leBytes_append, numAt_append_right, wf]
  | other g =>
    simp only [SettingsFields.wf, Bool.and_eq_true, decide_eq_true_eq] at wf
    obtain ⟨fits, neither⟩ := wf
    obtain ⟨g, rfl⟩ : ∃ m, g = m + 2 := ⟨g - 2, by omega⟩
    rw [settingsAt, settingsBytes, numAt_leBytes_append fits]
    rfl

/-- A tag field, shortened to a length that the field has room for. -/
theorem tagBytes_eq {g : List Byte} (short : g.length ≤ 24) :
    tagBytes g = leBytes 1 g.length ++ (g ++ List.replicate (24 - g.length) 0#8) := by
  rw [tagBytes, List.take_of_length_le short]; rfl

theorem tagBytes_length {g : List Byte} (short : g.length ≤ 24) : (tagBytes g).length = 25 := by
  simp [tagBytes_eq short]; omega

theorem tagAt_append_right {xs : List Byte} {o : Nat} (past : xs.length ≤ o) (p : List Byte) :
    tagAt (xs ++ p) o = tagAt p (o - xs.length) := by
  rw [tagAt, tagAt, numAt_append_right past, List.drop_append, List.drop_eq_nil_of_le (Nat.le_add_right_of_le past),
    List.nil_append, Nat.sub_add_comm past]

theorem tagAt_tagBytes_append {g : List Byte} (short : g.length ≤ 24) (p : List Byte) : tagAt (tagBytes g ++ p) 0 = g := by
  have fits : g.length < 256 ^ 1 := by omega
  have chars : (g ++ List.replicate (24 - g.length) 0#8).length = 24 := by simp; omega
  have room : g.length - 24 = 0 := Nat.sub_eq_zero_of_le short
  rw [tagAt, tagBytes_eq short, List.append_assoc, numAt_leBytes_append fits, room, Nat.zero_add,
    List.drop_left' (leBytes_length ..), List.take_left' chars, List.take_left]
  simp

/-! ## The requests -/

/-- Kind `kind` with payload `p` has the length of its kind, fits a frame and spells the request. -/
structure Spells (i : Instr) (kind : Nat) (p : List Byte) : Prop where
  small : kind < 256
  length : payloadLength kind p = some p.length
  fits : p.length ≤ 1024
  read : readRequest kind i.requestTag p = some i

theorem lineSet_spells (t : Byte) {f : SettingsFields} (wf : f.wf = true) :
    Spells (.lineSet t f) 0x02 (settingsBytes f) :=
  ⟨by decide, by simp [payloadLength], by simp, by simp [readRequest, Instr.requestTag, settingsAt_settingsBytes wf]⟩

theorem classWrite_spells (t : Byte) {c : Nat} {f : ClassFields} (cls : c < 256) (wf : f.wf = true) :
    Spells (.classWrite t c f) 0x08 (leBytes 1 c ++ classBytes f) :=
  ⟨by decide, by simp [payloadLength], by simp,
    by simp [readRequest, Instr.requestTag, numAt_leBytes_append, cls, classAt_append_right, classAt_classBytes wf]⟩

theorem materialWrite_spells (t : Byte) {m : Nat} {f : MaterialFields} (mat : m < 256) (wf : f.wf = true) :
    Spells (.materialWrite t m f) 0x0A (leBytes 1 m ++ materialBytes f) :=
  ⟨by decide, by simp [payloadLength, materialBytes_length wf], by simp [materialBytes_length wf],
    by simp [readRequest, Instr.requestTag, numAt_leBytes_append, mat, materialAt_append_right, materialAt_materialBytes wf]⟩

theorem ruleWrite_spells (t : Byte) {i : Nat} {e : EntryFields} (index : i < 65536) (wf : e.wf = true) :
    Spells (.ruleWrite t i e) 0x10 (leBytes 2 i ++ entryBytes e) :=
  ⟨by decide, by simp [payloadLength], by simp,
    by simp [readRequest, Instr.requestTag, numAt_leBytes_append, index, entryAt_append_right, entryAt_entryBytes wf]⟩

theorem ruleFill_spells (t : Byte) {a b : Nat} {e : EntryFields} (first : a < 65536) (last : b < 65536)
    (wf : e.wf = true) : Spells (.ruleFill t a b e) 0x12 (leBytes 2 a ++ leBytes 2 b ++ entryBytes e) :=
  ⟨by decide, by simp [payloadLength], by simp,
    by simp [readRequest, Instr.requestTag, numAt_leBytes_append, numAt_append_right, first, last, entryAt_append_right,
      entryAt_entryBytes wf]⟩

/-- A STROKE_LOAD of at most 85 records, the most that a frame holds. -/
theorem strokeLoad_spells (t : Byte) {l i : Nat} {rs : List StrokeFields} (lane : l < 256) (index : i < 65536)
    (room : rs.length ≤ 85) (wf : rs.all StrokeFields.wf = true) :
    Spells (.strokeLoad t l i rs) 0x20 (leBytes 1 l ++ leBytes 2 i ++ leBytes 1 rs.length ++ rs.flatMap strokeBytes) := by
  have count : rs.length < 256 := by omega
  have length := strokeBytes_flatMap_length rs
  refine ⟨by decide, ?_, ?_, ?_⟩
  · simp [payloadLength, numAt_leBytes_append, numAt_append_right, count, length, -List.length_flatMap]; omega
  · simp [length, -List.length_flatMap]; omega
  · simp [readRequest, Instr.requestTag, numAt_leBytes_append, numAt_append_right, lane, index, count,
      strokesAt_append_right, strokesAt_strokeBytes wf]

theorem announce_spells (t : Byte) {l c d : Nat} {g : List Byte} (lane : l < 256) (short : g.length ≤ 24) (cls : c < 256)
    (side : d < 256) : Spells (.announce t l g c d) 0x30 (leBytes 1 l ++ tagBytes g ++ leBytes 1 c ++ leBytes 1 d) := by
  have length := tagBytes_length short
  refine ⟨by decide, by simp [payloadLength, length], by simp [length], ?_⟩
  simp [readRequest, Instr.requestTag, numAt_leBytes, numAt_leBytes_append, numAt_append_right, length, lane, cls, side,
    tagAt_append_right, tagAt_tagBytes_append short]

/-- Every well-formed request is spelt by what is written for it: the requests that carry a record by their own lemmas, the
others field by field. -/
theorem writeRequest_spells {i : Instr} {kind : Nat} {p : List Byte} (wf : i.wf = true)
    (h : writeRequest i = some (kind, p)) : Spells i kind p := by
  cases i
  all_goals cases h
  case lineStatus | halt | recover | lineReset | holdTake | ovenStatus => exact ⟨by decide, rfl, by decide, rfl⟩
  all_goals simp only [Instr.wf, CriterionFields.wf, RouteFields.wf, Bool.and_eq_true, decide_eq_true_eq] at wf
  case lineSet t f => exact lineSet_spells t wf
  case classWrite t c f => obtain ⟨cls, wf⟩ := wf; exact classWrite_spells t cls wf
  case materialWrite t m f => obtain ⟨mat, wf⟩ := wf; exact materialWrite_spells t mat wf
  case ruleWrite t n e => obtain ⟨index, wf⟩ := wf; exact ruleWrite_spells t index wf
  case ruleFill t a b e => obtain ⟨⟨first, last⟩, wf⟩ := wf; exact ruleFill_spells t first last wf
  case strokeLoad t l n rs =>
    obtain ⟨⟨⟨lane, index⟩, room⟩, wf⟩ := wf
    exact strokeLoad_spells t lane index room wf
  case announce t l g c d =>
    obtain ⟨⟨⟨lane, short⟩, cls⟩, side⟩ := wf
    exact announce_spells t lane short cls side
  all_goals
    exact ⟨by decide, by simp [payloadLength], by simp,
      by simp [readRequest, Instr.requestTag, numAt_leBytes, numAt_leBytes_append, numAt_append_right, wf]⟩

/-- Settles O53: the frame's kind byte is the kind written, so what is written for the request is what is read. -/
theorem requestsReadBack : Obligations.RequestsReadBack := by
  unfold Obligations.RequestsReadBack
  intro i f wf sent
  obtain ⟨⟨kind, p⟩, written, rfl⟩ := Option.map_eq_some_iff.1 sent
  obtain ⟨small, length, fits, read⟩ := writeRequest_spells wf written
  have code : (byteOf kind).toNat = kind := Nat.mod_eq_of_lt small
  rw [code]
  exact ⟨length, fits, read⟩

end Sys2Proof
end

section
/-! Bytes on the links and the request intake (O50). -/

namespace Sys2Proof.Machine

variable {s : State} {k : Link}

/-! ## Frames of the field links (R179) -/

/-- A field link's frame spells an event of that link, or none. -/
theorem fieldEvent_cases (k : Link) (f : Frame) : fieldEvent k f = none ∨
    (∃ l op, fieldEvent k f = some (.headDone l op)) ∨ (∃ l op x, fieldEvent k f = some (.headFault l op x)) ∨
    ∃ z t x, fieldEvent k f = some (.zoneSample z t x) := by
  cases k with
  | message => exact .inl rfl
  | head l =>
    unfold fieldEvent
    dsimp only; split
    · exact .inr (.inl ⟨_, _, rfl⟩)
    · split
      · exact .inr (.inr (.inl ⟨_, _, _, rfl⟩))
      · exact .inl rfl
  | ovenNode =>
    unfold fieldEvent
    dsimp only; split
    · exact .inr (.inr (.inr ⟨_, _, _, rfl⟩))
    · exact .inl rfl

/-- A field link's frame acts as the command of its event, or not at all. -/
theorem State.fieldFrame_eq_exec (k : Link) (f : Frame) (s : State) :
    s.fieldFrame k f =
      match fieldEvent k f with
      | none => s
      | some i =>
        match exec i s with
        | .next t => t
        | _ => s := by
  rw [State.fieldFrame]
  obtain h | ⟨l, op, h⟩ | ⟨l, op, x, h⟩ | ⟨z, t, x, h⟩ := fieldEvent_cases k f <;> rw [h] <;> rfl

theorem State.frameIn_field {k : Link} (field : k ≠ .message) (f : Frame) (s : State) :
    s.frameIn k f = s.fieldFrame k f := by
  cases k with
  | message => exact absurd rfl field
  | head _ | ovenNode => rfl

/-! ## Silence (R174) -/

theorem State.frameSilent_without (empty : (s.rx k).bytes = []) : s.frameSilent k = s := by
  simp [State.frameSilent, empty]

theorem State.frameSilent_within (held : (s.rx k).bytes ≠ []) :
    s.frameSilent k = (receive true (s.rx k).bytes).1.foldl (fun u f => u.frameIn k f)
      ((s.reach ((s.rx k).last + 20)).setRx k ⟨(receive true (s.rx k).bytes).2, (s.rx k).last⟩) := by
  simp [State.frameSilent, held, Config.frameSilence]

/-! ## The tests of the intake (R175) -/

/-- A kind with a payload length is in the catalogue, so a payload of it spells a request. -/
theorem readRequest_of_payloadLength {kind n : Nat} {t : Byte} {p : List Byte} (h : payloadLength kind p = some n) :
    ∃ i, readRequest kind t p = some i := by
  unfold payloadLength at h
  split at h
  case h_43 => cases h
  all_goals exact ⟨_, rfl⟩

theorem State.intakeFrame_untagged {f : Frame} (untagged : f.tag = 0#8) : s.intakeFrame f = s := by
  rw [State.intakeFrame, if_pos untagged]

theorem State.intakeFrame_full {f : Frame} (tagged : f.tag ≠ 0#8) (full : 8 ≤ s.link.intake.length) :
    s.intakeFrame f = if 8 ≤ s.link.replies.countP Reply.isFull then s
      else s.refuse ⟨f.tag, false⟩ f.kind.toNat .intakeFull := by
  rw [State.intakeFrame, if_neg tagged, if_pos (show Config.intakeLimit ≤ _ from full)]; rfl

theorem State.intakeFrame_placed {f : Frame} (tagged : f.tag ≠ 0#8) (free : s.link.intake.length < 8) :
    s.intakeFrame f = (s.takePlace f.kind.toNat f.tag).admitFrame f := by
  rw [State.intakeFrame, if_neg tagged, if_neg (show ¬ Config.intakeLimit ≤ _ from Nat.not_le.2 free)]

theorem State.admitFrame_unknown {f : Frame} (unknown : payloadLength f.kind.toNat f.payload = none) :
    s.admitFrame f = s.refuse ⟨f.tag, true⟩ f.kind.toNat .unknownKind := by
  rw [State.admitFrame, unknown]

theorem State.admitFrame_malformed {f : Frame} {n : Nat} (known : payloadLength f.kind.toNat f.payload = some n)
    (wrong : f.payload.length ≠ n) : s.admitFrame f = s.refuse ⟨f.tag, true⟩ f.kind.toNat .malformed := by
  rw [State.admitFrame, known]
  exact if_pos wrong

theorem State.admitFrame_handOn {f : Frame} {i : Instr} (known : payloadLength f.kind.toNat f.payload = some f.payload.length)
    (spelt : readRequest f.kind.toNat f.tag f.payload = some i) : s.admitFrame f = s.handOn i := by
  rw [State.admitFrame, known]
  simp [spelt]

/-- Settles O50: every link hands a frame on by its rule, silence is one equation with a frame in progress and one
without, and the tests of the intake are a chain of equations in their order. -/
theorem frameIntake : Obligations.FrameIntake := by
  unfold Obligations.FrameIntake
  refine ⟨fun bytes k s => ?_, fun f s => ?_⟩
  · intro keeps taken got left
    have took : taken k = fun u f => u.frameIn k f := by
      funext u f
      by_cases message : k = .message
      · subst message; rfl
      · rw [State.frameIn_field message, State.fieldFrame_eq_exec]
        exact if_neg message
    rw [took]
    refine ⟨rfl, rfl, fun empty => ?_, fun held => ?_⟩
    · exact congrArg _ (State.frameSilent_without empty)
    · exact congrArg _ (State.frameSilent_within held)
  · intro refused placed full
    refine ⟨State.intakeFrame_untagged, State.intakeFrame_full, fun tagged free => ?_⟩
    rw [State.intakeFrame_placed tagged free]
    split
    next unknown => exact State.admitFrame_unknown unknown
    next n known =>
      split
      next wrong => exact State.admitFrame_malformed known wrong
      next right =>
        obtain rfl := not_not.1 right
        obtain ⟨i, spelt⟩ := readRequest_of_payloadLength (t := f.tag) known
        exact ⟨i, spelt, State.admitFrame_handOn known spelt⟩

end Sys2Proof.Machine
end

section
/-! The transmitter (O51): each of its four commands by what the transmitter holds. -/

namespace Sys2Proof.Machine

variable {s : State}

theorem State.replySend_idle {r : Reply} {rs : List Reply} (idle : s.link.tx = .idle) (waits : s.link.replies = r :: rs) :
    s.replySend = { s with link := { s.link with tx := .reply r, replies := rs } } := by
  rw [State.replySend, idle, waits]

theorem State.replySend_empty (noReply : s.link.replies = []) : s.replySend = s := by
  rw [State.replySend, noReply]
  cases s.link.tx <;> rfl

theorem State.replySend_busy (busy : s.link.tx ≠ .idle) : s.replySend = s := by
  cases e : s.link.tx with
  | idle => exact absurd e busy
  | reply _ | notice _ => rw [State.replySend, e]

theorem State.noticeSend_idle {n : Notice} {ns : List Notice} (idle : s.link.tx = .idle) (noReply : s.link.replies = [])
    (waits : s.notices = n :: ns) :
    s.noticeSend = { s with link := { s.link with tx := .notice n }, notices := ns } := by
  rw [State.noticeSend, idle, noReply, waits]

theorem State.noticeSend_after_replies {r : Reply} {rs : List Reply} (waits : s.link.replies = r :: rs) :
    s.noticeSend = s := by
  rw [State.noticeSend, waits]
  cases s.link.tx <;> rfl

theorem State.noticeSend_empty (noNotice : s.notices = []) : s.noticeSend = s := by
  rw [State.noticeSend, noNotice]
  cases s.link.tx <;> cases s.link.replies <;> rfl

theorem State.noticeSend_busy (busy : s.link.tx ≠ .idle) : s.noticeSend = s := by
  cases e : s.link.tx with
  | idle => exact absurd e busy
  | reply _ | notice _ => rw [State.noticeSend, e]

theorem State.replySent_idle (idle : s.link.tx = .idle) : s.replySent = s := by rw [State.replySent, idle]

theorem State.replySent_notice {n : Notice} (sends : s.link.tx = .notice n) : s.replySent = s := by
  rw [State.replySent, sends]

theorem State.replySent_reply {r : Reply} (sends : s.link.tx = .reply r) :
    s.replySent = { s with link := { s.link with
      tx := .idle, intake := if r.place then s.link.intake.erase r.answered else s.link.intake } } := by
  rw [State.replySent, sends]

theorem State.noticeSent_idle (idle : s.link.tx = .idle) : s.noticeSent = s := by rw [State.noticeSent, idle]

theorem State.noticeSent_reply {r : Reply} (sends : s.link.tx = .reply r) : s.noticeSent = s := by
  rw [State.noticeSent, sends]

theorem State.noticeSent_notice {n : Notice} (sends : s.link.tx = .notice n) :
    s.noticeSent = { s with link := { s.link with tx := .idle } } := by
  rw [State.noticeSent, sends]

/-- Settles O51: each clause is one case of the transmitter's four operations. -/
theorem transmitting : Obligations.Transmitting := by
  unfold Obligations.Transmitting
  intro s
  refine ⟨fun r rs idle waits => ⟨congrArg _ (State.replySend_idle idle waits),
      congrArg _ (State.noticeSend_after_replies waits)⟩,
    fun noReply => congrArg _ (State.replySend_empty noReply),
    fun n ns idle noReply waits => congrArg _ (State.noticeSend_idle idle noReply waits),
    fun noNotice => congrArg _ (State.noticeSend_empty noNotice),
    fun busy => ⟨congrArg _ (State.replySend_busy busy), congrArg _ (State.noticeSend_busy busy)⟩,
    fun idle => ⟨congrArg _ (State.replySent_idle idle), congrArg _ (State.noticeSent_idle idle)⟩,
    fun r sends => ⟨congrArg _ (State.noticeSent_reply sends), _, congrArg _ (State.replySent_reply sends), ?_, ?_⟩,
    fun n sends => ⟨congrArg _ (State.replySent_notice sends), congrArg _ (State.noticeSent_notice sends)⟩⟩
  · intro kept
    rw [kept]; rfl
  · intro freed
    rw [freed]; rfl

end Sys2Proof.Machine
end

section
/-! The step (O54): the command at the front of the queue, and the three cases of a device left to itself (log 1). -/

namespace Sys2Proof.Machine

variable {s : State}

theorem step_front (c : Instr) (rest : List Instr) (s : State) :
    step { s with pending := c :: rest } = exec c { s with pending := rest } := rfl

theorem step_empty (noCommand : s.pending = []) : step s = .next s.idle := by rw [step, noCommand]

theorem State.idle_handed {i : Instr} {is : List Instr} (handed : s.link.handed = i :: is) :
    s.idle = { s with pending := [i] } := by rw [State.idle, handed]

theorem State.idle_due (noneHanded : s.link.handed = []) (due : s.dueEvents ≠ []) :
    s.idle = { s with pending := s.dueEvents } := by
  rw [State.idle, noneHanded]
  cases e : s.dueEvents with
  | nil => exact absurd e due
  | cons i is => rfl

theorem State.idle_clock (noneHanded : s.link.handed = []) (noneDue : s.dueEvents = []) :
    s.idle = { s with clock := s.clock + 1 } := by rw [State.idle, noneHanded, noneDue]

/-- Settles O54: a front command is the step's own case, and an empty queue leaves one of the three cases of `State.idle`. -/
theorem stepRunsFront : Obligations.StepRunsFront := by
  unfold Obligations.StepRunsFront
  intro c rest s
  refine ⟨step_front c rest s, fun noCommand => ?_⟩
  rw [step_empty noCommand]
  exact ⟨fun _ _ handed => congrArg _ (State.idle_handed handed),
    fun noneHanded due => congrArg _ (State.idle_due noneHanded due),
    fun noneHanded noneDue => congrArg _ (State.idle_clock noneHanded noneDue)⟩

end Sys2Proof.Machine
end
